-- ==== Sys2Proof/Word.lean ====
section
/-! DEFINITION. The word types of the unit and the numbers that name its parts (spec 00 R7-R9, 01 R15-R16). -/

namespace Sys2Proof

/-- A byte of memory (00 R8). -/
abbrev Byte := BitVec 8
/-- A 32-bit word: a sample, a register, a scalar register of a core. -/
abbrev Word := BitVec 32
/-- A 64-bit value: a grain number, a time in ns, a predicate. -/
abbrev DWord := BitVec 64

/-- Core number (R16: core c lies in bench c / 8). -/
abbrev CoreId := Fin 96
/-- Bench number (R16). -/
abbrev BenchId := Fin 12
/-- Bank number (R16: bank n lies in bench n / 32). -/
abbrev BankId := Fin 384
/-- Rate domain (R33). -/
abbrev DomId := Fin 4
/-- Converter lane (R85). -/
abbrev LaneId := Fin 1024
/-- Slot of a frame (R89). -/
abbrev SlotId := Fin 32
/-- Clock group (R86). -/
abbrev GroupId := Fin 128
/-- Port group (R85). -/
abbrev PortGroupId := Fin 16
/-- Wagon of the tap fabric (R121). -/
abbrev WagonId := Fin 64
/-- DMA sequencer (R341). -/
abbrev SeqrId := Fin 32
/-- Event source (R484). -/
abbrev SourceId := Fin 1024
/-- Group of sixteen event sources (R485). -/
abbrev EvtGroupId := Fin 64
/-- Host queue (R433). -/
abbrev QueueId := Fin 65536
/-- PCIe function: 0 PF0, 1 PF1 (R427). -/
abbrev FnId := Fin 2
/-- Ethernet port (R355). -/
abbrev EthId := Fin 8
/-- Chain port: 0 chain-in, 1 chain-out, 2 twin A, 3 twin B (R383). -/
abbrev ChainPortId := Fin 4
/-- Stack of far memory (R328). -/
abbrev StackId := Fin 4

/-- Who makes an access, numbered as R171 and R528 number it: 0-95 cores, 96-107 Fathom engines, 108-139 DMA
sequencers, 140 PF0 and its host window, 141 foreman, 142 spall engine, 143 PF1, 144 debug bus master. -/
abbrev Requester := Fin 145

/-- A 64-byte command packet as one little-endian number: byte i is bits [8i+7:8i] (R8, R458). -/
abbrev Packet := BitVec 512

end Sys2Proof
end

