-- ==== Sys2Proof/Syntax.lean ====
section
/-! DEFINITION. The commands of the unit: one constructor of `Instr` per row of spec/opcode_table.json, in the
table's order, with the operands each step needs. What only the world outside the step can know (a sample, a
received frame, the cycle in which something happens) is an operand. -/

namespace Sys2Proof

/-! ## Operands of the core operations (07, 08) -/

/-- An X-slot register form (R235): slot 0 is X0 and 1 is X1. `short` marks the short encoding of R269, which has no
condition and leaves FLG unchanged. -/
structure XArgs where
  slot : Fin 2
  cond : BitVec 4
  short : Bool
  rd : BitVec 6
  ra : BitVec 6
  rb : BitVec 6
  deriving DecidableEq, Repr

/-- CMP (R235, R240). -/
structure CmpArgs where
  slot : Fin 2
  cond : BitVec 4
  pd : BitVec 3
  cc : BitVec 3
  ra : BitVec 6
  rb : BitVec 6
  deriving DecidableEq, Repr

/-- CMPI (R235, R240). -/
structure CmpiArgs where
  slot : Fin 2
  cond : BitVec 4
  pd : BitVec 3
  cc : BitVec 3
  ra : BitVec 6
  imm : BitVec 6
  deriving DecidableEq, Repr

/-- ADDI (R235) and the short ADDI of R269, whose IMM4 stands sign-extended in `imm`. -/
structure AddiArgs where
  slot : Fin 2
  cond : BitVec 4
  short : Bool
  rd : BitVec 6
  imm : BitVec 12
  deriving DecidableEq, Repr

/-- LOGI (R235, R237). -/
structure LogiArgs where
  slot : Fin 2
  cond : BitVec 4
  rd : BitVec 6
  lf : BitVec 2
  imm : BitVec 10
  deriving DecidableEq, Repr

/-- SHIFTI (R235, R237). -/
structure ShiftiArgs where
  slot : Fin 2
  cond : BitVec 4
  rd : BitVec 6
  sf : BitVec 2
  amt : BitVec 8
  deriving DecidableEq, Repr

/-- A scalar L-slot operation (R235, R245): slot 0 is L0 and 1 is L1; `ext` is bits [31:27] (DISP, IDX, SR or N). -/
structure LArgs where
  slot : Fin 2
  cond : BitVec 4
  short : Bool
  rt : BitVec 6
  seg : BitVec 3
  areg : BitVec 4
  ext : BitVec 5
  deriving DecidableEq, Repr

/-- A vector memory operation (R293): `vt` the vector, `pg` the governing predicate, `pm` post-modify, `nf` the field
count code, `vi` the index vector. -/
structure VMemArgs where
  slot : Fin 2
  cond : BitVec 4
  vt : BitVec 5
  pg : BitVec 3
  seg : BitVec 3
  areg : BitVec 4
  pm : Bool
  nf : BitVec 2
  vi : BitVec 5
  deriving DecidableEq, Repr

/-- K-slot constant (R251). -/
structure ConstArgs where
  cond : BitVec 4
  hi : Bool
  rd : BitVec 5
  imm : BitVec 16
  deriving DecidableEq, Repr

/-- MOV of the K slot, or the short MOV of an X slot (R252, R269). `slot` is the bundle slot (4, 5 or 7). -/
structure MovArgs where
  slot : Fin 8
  cond : BitVec 4
  short : Bool
  rd : BitVec 6
  ra : BitVec 6
  deriving DecidableEq, Repr

/-- MOVSR (R252): `dir` true writes the special register. -/
structure MovsrArgs where
  cond : BitVec 4
  dir : Bool
  r : BitVec 6
  sr : BitVec 5
  deriving DecidableEq, Repr

/-- MOVA (R252). -/
structure MovaArgs where
  cond : BitVec 4
  af : BitVec 2
  a : BitVec 4
  r : BitVec 6
  imm : BitVec 13
  deriving DecidableEq, Repr

/-- POP (R252, R253). -/
structure PopArgs where
  cond : BitVec 4
  pd : BitVec 3
  pa : BitVec 3
  pb : BitVec 3
  pfn : BitVec 3
  deriving DecidableEq, Repr

/-- PMOV (R252): `dir` true writes the predicate. -/
structure PmovArgs where
  cond : BitVec 4
  dir : Bool
  p : BitVec 3
  rp : BitVec 6
  deriving DecidableEq, Repr

/-- Short MOVI (R269). -/
structure MoviArgs where
  rd : BitVec 4
  imm : BitVec 5
  deriving DecidableEq, Repr

/-- Short PNOT (R269). -/
structure PnotArgs where
  pd : BitVec 3
  pa : BitVec 3
  deriving DecidableEq, Repr

/-- Short SHLI (R269). -/
structure ShliArgs where
  slot : Fin 2
  rd : BitVec 4
  imm : BitVec 4
  deriving DecidableEq, Repr

/-- A SYS function of the B slot (R263), long or short. -/
structure SysArgs where
  cond : BitVec 4
  short : Bool
  imm : BitVec 8
  deriving DecidableEq, Repr

/-- BR (R254, R255). -/
structure BrArgs where
  cond : BitVec 4
  annul : Bool
  disp : BitVec 19
  deriving DecidableEq, Repr

/-- BRI (R254, R255). -/
structure BriArgs where
  cond : BitVec 4
  annul : Bool
  rs : BitVec 6
  deriving DecidableEq, Repr

/-- Short BRS (R269). -/
structure BrsArgs where
  disp : BitVec 9
  deriving DecidableEq, Repr

/-- CALL (R224, R254). -/
structure CallArgs where
  cond : BitVec 4
  at_ : BitVec 4
  mask : BitVec 16
  deriving DecidableEq, Repr

/-- RET (R225, R254). -/
structure RetArgs where
  cond : BitVec 4
  mask : BitVec 16
  deriving DecidableEq, Repr

/-- LOOP (R254, R260). -/
structure LoopArgs where
  cond : BitVec 4
  lv : BitVec 2
  ci : Bool
  cnt : BitVec 8
  len : BitVec 9
  deriving DecidableEq, Repr

/-- An M-slot register form (R276): slot 0 is M0 and 1 is M1. `short` is the short form of R292. -/
structure MArgs where
  slot : Fin 2
  cond : BitVec 4
  short : Bool
  vd : BitVec 5
  va : BitVec 5
  vb : BitVec 5
  pg : BitVec 3
  deriving DecidableEq, Repr

/-- An M-slot compare (R276). -/
structure MCmpArgs where
  slot : Fin 2
  cond : BitVec 4
  pd : BitVec 3
  cc : BitVec 3
  va : BitVec 5
  vb : BitVec 5
  deriving DecidableEq, Repr

/-- An accumulate form (R276). -/
structure AccArgs where
  slot : Fin 2
  cond : BitVec 4
  short : Bool
  vac : BitVec 2
  va : BitVec 5
  vb : BitVec 5
  pg : BitVec 3
  deriving DecidableEq, Repr

/-- An accumulator move (R276). -/
structure AccMovArgs where
  slot : Fin 2
  cond : BitVec 4
  vr : BitVec 5
  vac : BitVec 2
  sh : BitVec 7
  pg : BitVec 3
  deriving DecidableEq, Repr

/-- A transfer (R276, R290). -/
structure XferArgs where
  slot : Fin 2
  cond : BitVec 4
  vd : BitVec 5
  rs : BitVec 6
  lane : BitVec 4
  deriving DecidableEq, Repr

/-- A scalar fp32 operation (R276, R288). -/
structure FArgs where
  slot : Fin 2
  cond : BitVec 4
  fd : BitVec 5
  fa : BitVec 5
  fb : BitVec 5
  deriving DecidableEq, Repr

/-! ## Operands of the other commands -/

/-- What a domain sees of its source at a boundary (R42, R43): absent, or present with a phase error in ns (source
against domain). -/
inductive SourceView where
  | absent
  | present (errNs : Int)
  deriving DecidableEq, Repr

/-- The two parts of a carriage to an egress register or store (R105, R122, R134): the port B read of the source word
and its offer to the wagon queue, and the delivery of the word at the head of the queue. -/
inductive CarryPhase where
  | offer
  | deliver
  deriving DecidableEq, Repr

/-- A host BAR2 access (R431): a read of `n` bytes or a write of bytes. -/
inductive HostAcc where
  | rd (n : Fin 65)
  | wr (bytes : List Byte)
  deriving DecidableEq, Repr

/-- Where a command packet came from (R24, R388, R398): a submission queue, the management serial port, or a CMD frame
of the unit with link index `idx`, whose issuer code is R388's. -/
inductive Origin where
  | sq (q : QueueId)
  | serial
  | chain (idx : BitVec 8) (queue : BitVec 16) (tag : Word) (issuer : BitVec 2)
  deriving DecidableEq, Repr

/-- A PTP or gPTP message that reaches a port (R357, R362): a Sync with the offset it shows, an Announce with the
grandmaster it names and whether the BMCA selects it as master. `portTime`: the port's clock once the foreman's servo has
acted on the Sync (R361). -/
inductive PtpMsg where
  | sync (offsetNs : Int) (portTime : DWord)
  | masterSelected (gm : DWord)
  | bmcaWon
  | betterMaster (gm : DWord)
  | other
  deriving DecidableEq, Repr

/-- A received Ethernet frame (R356, R357, R365, R372), its headers parsed: the frame's length and tags, then what it
carries. Payload bytes are those of the samples; `dom` is the message's PTP domain. -/
inductive EthKind where
  | ptp (dom : BitVec 8) (m : PtpMsg)
  | rtp (dstIp : Word) (dstPort : BitVec 16) (ts : Word) (payload : List Byte)
  | avtp (streamId : DWord) (tv : Bool) (ts : Word) (payload : List Byte)
  | other
  deriving DecidableEq, Repr

/-- A frame of the chain link: source and destination link index (R387), and, where it came by a sequenced frame, its
LSEQ and ACK. -/
structure ChHdr where
  src : BitVec 8
  dst : BitVec 8
  lseq : BitVec 16
  ack : BitVec 16
  deriving DecidableEq, Repr

/-- What a port discards (R387-R390): a frame with a bad CRC; a sequenced frame with a reserved KIND or a nonzero reserved byte;
or an IDLE frame, of which it takes only the ACK. -/
inductive BadKind where
  | crc
  | reserved (lseq ack : BitVec 16)
  | idle (ack : BitVec 16)
  deriving DecidableEq, Repr

/-- How a queue's host memory access fails (R438). -/
inductive HostErr where
  | unsupported
  | abort
  | poisoned
  | timeout
  deriving DecidableEq, Repr

/-- The size of a read of registers (R430): 4 bytes, 8 bytes, or any other. -/
inductive RegSize where
  | word
  | pair
  | other
  deriving DecidableEq, Repr

/-- What a write of registers brings (R430): 4 bytes, 8 bytes, or any other number. -/
inductive RegData where
  | word (v : Word)
  | pair (v : DWord)
  | other
  deriving DecidableEq, Repr

/-- An access to a doorbell (R439): a read, or a write of 4 or of 8 bytes. -/
inductive DbAcc where
  | rd
  | wr (v : DWord)
  deriving DecidableEq, Repr

/-- One entry of a TSAMP frame (R388). -/
structure TSample where
  word : Word
  tag : BitVec 16
  lane : LaneId
  slot : SlotId
  deriving DecidableEq, Repr

/-- One entry of a STRM frame (R388). -/
structure StrmEntry where
  word : Word
  tag : BitVec 16
  chan : BitVec 6
  sid : BitVec 8
  deriving DecidableEq, Repr

/-- A DMA transaction's end (R345, R347): plainly; with BUSY, met `reads` times by its read (each but the last reissued)
and, where `write` is true, by its write; or with a host error. -/
inductive DmaEnd where
  | ok
  | busy (reads : Fin 6) (write : Bool)
  | hostError
  deriving DecidableEq, Repr

/-- The result of a known-answer chunk, a stripe test or a probe as the hardware under test shows it (R584, R588). -/
inductive StripeResult where
  | pass
  | march (cycle : BitVec 8)
  | restoreFailed
  deriving DecidableEq, Repr

/-- Where a monitor request came from (R559): the PF1 mailbox or the management serial port. -/
inductive MonChan where
  | mailbox
  | serial
  deriving DecidableEq, Repr

/-- The island numbers of R528's source 3: 0-11 bench, 12 fabric, 13-28 port group, 29 network, 30 chain, 31 host,
32 far-memory, 33 foreman. -/
abbrev IslandId := Fin 34

/-- The strap pins as sampled (R543, R603): the voltage of STRAP_TWINROLE in mV. -/
structure StrapPins where
  head : Bool
  twinroleMv : Nat
  authb : Bool
  deriving DecidableEq, Repr

/-- Causes of a frame mark's place (R91, R119). -/
structure MarkObs where
  bits : Nat
  inPlace : Bool
  deriving DecidableEq, Repr

/-- A frame of the management serial port: the bytes on the line from its flag to the next, both left out (R561). -/
abbrev SerialFrame := List Byte

/-- The ns of the current µs at which something happens. -/
abbrev SubNs := Fin 1000

/-- The cycle (network clock, 1.25 ns) of the current µs at which something happens (R360). -/
abbrev NetEdge := Fin 800

/-- One command of the unit: a row of the opcode table. -/
inductive Instr where
  -- grains and rate domains (02)
  | grainBoundary (d : DomId) (v : SourceView) (ns : SubNs)
  | domainLock (d : DomId) (ns : SubNs)
  | grainHoldover (d : DomId) (v : SourceView) (ns : SubNs)
  | grainAcquireTimeout (d : DomId)
  | resync (d : DomId)
  | grainStep (d : DomId) (ns : SubNs)
  | domainEnable (d : DomId) (v : Word)
  | domainDisable (d : DomId) (v : Word)
  | rdGcntRead (d : DomId) (who : Requester)
  | rdBtimeRead (d : DomId) (who : Requester)
  | fabricGrainStart (d : DomId) (resNs : Word)
  | benchGrainStart (b : BenchId)
  | triggerFire (c : CoreId)
  | triggerLatest (c : CoreId)
  | coreDeadline (c : CoreId)
  | egressLoad (lane : LaneId) (slot : SlotId) (frame : DWord)
  -- converter ports (03)
  | slotReceive (lane : LaneId) (slot : SlotId) (raw : Word) (edge : Fin 400)
  | frameMark (k : GroupId) (m : MarkObs) (frame : DWord)
  | bclkLoss (k : GroupId)
  | cgEnable (k : GroupId) (v : Word)
  | cgDisable (k : GroupId) (v : Word)
  | slotmapPageWrite (g : PortGroupId) (page : Fin 2) (word : Fin 5120) (v : Word)
  | slotmapChangeover (k : GroupId)
  -- tap fabric and Fathom (04)
  | schedCarry (d : DomId) (entry : Fin 16384) (i : Fin 1024) (busy : Bool)
  | watchCarry (b : BenchId) (busy : Bool)
  | pushCarry (b : BenchId)
  | egressCarry (w : WagonId) (ph : CarryPhase) (busy : Bool) (waited : BitVec 16)
  | fabricBankWrite (w : WagonId) (meets : Option WagonId) (seamUe busy : Bool) (waited : BitVec 16)
  | routePageWrite (page : Fin 2) (word : Fin 65536) (v : Word)
  | fathomGroupIssue (b : BenchId)
  | fathomOutput (b : BenchId) (cycle : BitVec 16)
  | fathomDeadline (b : BenchId)
  | fathomPageWrite (b : BenchId) (off : BitVec 16) (v : Word)
  -- banks and the host window (05, 13)
  | bankOwnWrite (n : BankId) (who : Requester) (v : Word)
  | handoverEffect (n : BankId)
  | bankPwrWrite (n : BankId) (who : Requester) (v : Word)
  | bankPowerChangeDone (n : BankId)
  | hostWindowAccess (off : BitVec 30) (a : HostAcc) (busy seam : List Nat)
  -- bundle issue and scalar operations (06, 07)
  | bundleIssue (c : CoreId) (ahead : Fin 9)
  | add (c : CoreId) (x : XArgs)
  | addc (c : CoreId) (x : XArgs)
  | sub (c : CoreId) (x : XArgs)
  | subc (c : CoreId) (x : XArgs)
  | adds (c : CoreId) (x : XArgs)
  | subs (c : CoreId) (x : XArgs)
  | and (c : CoreId) (x : XArgs)
  | or (c : CoreId) (x : XArgs)
  | xor (c : CoreId) (x : XArgs)
  | andn (c : CoreId) (x : XArgs)
  | shl (c : CoreId) (x : XArgs)
  | shr (c : CoreId) (x : XArgs)
  | sar (c : CoreId) (x : XArgs)
  | min (c : CoreId) (x : XArgs)
  | max (c : CoreId) (x : XArgs)
  | minu (c : CoreId) (x : XArgs)
  | maxu (c : CoreId) (x : XArgs)
  | mul (c : CoreId) (x : XArgs)
  | mulh (c : CoreId) (x : XArgs)
  | mulq (c : CoreId) (x : XArgs)
  | mulw (c : CoreId) (x : XArgs)
  | div (c : CoreId) (x : XArgs)
  | divs (c : CoreId) (x : XArgs)
  | divu (c : CoreId) (x : XArgs)
  | rem (c : CoreId) (x : XArgs)
  | remu (c : CoreId) (x : XArgs)
  | neg (c : CoreId) (x : XArgs)
  | negs (c : CoreId) (x : XArgs)
  | abs (c : CoreId) (x : XArgs)
  | abss (c : CoreId) (x : XArgs)
  | not (c : CoreId) (x : XArgs)
  | clz (c : CoreId) (x : XArgs)
  | sext8 (c : CoreId) (x : XArgs)
  | sext16 (c : CoreId) (x : XArgs)
  | sext24 (c : CoreId) (x : XArgs)
  | rnd24 (c : CoreId) (x : XArgs)
  | popc (c : CoreId) (x : XArgs)
  | cmp (c : CoreId) (x : CmpArgs)
  | cmpi (c : CoreId) (x : CmpiArgs)
  | addi (c : CoreId) (x : AddiArgs)
  | logi (c : CoreId) (x : LogiArgs)
  | shifti (c : CoreId) (x : ShiftiArgs)
  -- scalar memory operations (07)
  | ldb (c : CoreId) (x : LArgs)
  | ldbu (c : CoreId) (x : LArgs)
  | ldh (c : CoreId) (x : LArgs)
  | ldhu (c : CoreId) (x : LArgs)
  | ldw (c : CoreId) (x : LArgs)
  | ldd (c : CoreId) (x : LArgs)
  | stb (c : CoreId) (x : LArgs)
  | sth (c : CoreId) (x : LArgs)
  | stw (c : CoreId) (x : LArgs)
  | std (c : CoreId) (x : LArgs)
  | ldwp (c : CoreId) (x : LArgs)
  | stwp (c : CoreId) (x : LArgs)
  | lddp (c : CoreId) (x : LArgs)
  | stdp (c : CoreId) (x : LArgs)
  | ldwx (c : CoreId) (x : LArgs)
  | stwx (c : CoreId) (x : LArgs)
  | segld (c : CoreId) (x : LArgs)
  | ldx (c : CoreId) (x : LArgs)
  | stx (c : CoreId) (x : LArgs)
  | lock (c : CoreId) (x : LArgs)
  | lockEnd (c : CoreId)
  | storeBufferWrite (c : CoreId)
  | farWindowFill (c : CoreId)
  | otherBenchReturn (c : CoreId) (seamUe : Bool)
  -- constants, moves, predicates (07)
  | constant (c : CoreId) (x : ConstArgs)
  | mov (c : CoreId) (x : MovArgs)
  | movsr (c : CoreId) (x : MovsrArgs)
  | mova (c : CoreId) (x : MovaArgs)
  | pop (c : CoreId) (x : PopArgs)
  | pmov (c : CoreId) (x : PmovArgs)
  | movi (c : CoreId) (x : MoviArgs)
  | pnot (c : CoreId) (x : PnotArgs)
  | shli (c : CoreId) (x : ShliArgs)
  -- system and control operations (07)
  | nop (c : CoreId) (x : SysArgs)
  | gend (c : CoreId) (x : SysArgs) (cycle : BitVec 16)
  | tdigSend (b : BenchId)
  | wait (c : CoreId) (x : SysArgs)
  | isync (c : CoreId) (x : SysArgs)
  | fence (c : CoreId) (x : SysArgs)
  | swev (c : CoreId) (x : SysArgs)
  | brk (c : CoreId) (x : SysArgs)
  | br (c : CoreId) (x : BrArgs)
  | bri (c : CoreId) (x : BriArgs)
  | brs (c : CoreId) (x : BrsArgs)
  | call (c : CoreId) (x : CallArgs)
  | ret (c : CoreId) (x : RetArgs)
  | loop (c : CoreId) (x : LoopArgs)
  -- vector operations (08)
  | vadd (c : CoreId) (x : MArgs)
  | vsub (c : CoreId) (x : MArgs)
  | vadds (c : CoreId) (x : MArgs)
  | vsubs (c : CoreId) (x : MArgs)
  | vand (c : CoreId) (x : MArgs)
  | vor (c : CoreId) (x : MArgs)
  | vxor (c : CoreId) (x : MArgs)
  | vshl (c : CoreId) (x : MArgs)
  | vshr (c : CoreId) (x : MArgs)
  | vsar (c : CoreId) (x : MArgs)
  | vmin (c : CoreId) (x : MArgs)
  | vmax (c : CoreId) (x : MArgs)
  | vmulq (c : CoreId) (x : MArgs)
  | vmul (c : CoreId) (x : MArgs)
  | vneg (c : CoreId) (x : MArgs)
  | vnegs (c : CoreId) (x : MArgs)
  | vabs (c : CoreId) (x : MArgs)
  | vabss (c : CoreId) (x : MArgs)
  | vnot (c : CoreId) (x : MArgs)
  | vmov (c : CoreId) (x : MArgs)
  | vclz (c : CoreId) (x : MArgs)
  | vsext24 (c : CoreId) (x : MArgs)
  | vrnd24 (c : CoreId) (x : MArgs)
  | vcvtqf (c : CoreId) (x : MArgs)
  | vcvtfq (c : CoreId) (x : MArgs)
  | vcvtif (c : CoreId) (x : MArgs)
  | vcvtfi (c : CoreId) (x : MArgs)
  | vfneg (c : CoreId) (x : MArgs)
  | vfabs (c : CoreId) (x : MArgs)
  | vcmp (c : CoreId) (x : MCmpArgs)
  | vfcmp (c : CoreId) (x : MCmpArgs)
  | vmacq (c : CoreId) (x : AccArgs)
  | vmsuq (c : CoreId) (x : AccArgs)
  | vmaci (c : CoreId) (x : AccArgs)
  | vacx (c : CoreId) (x : AccMovArgs)
  | vacr (c : CoreId) (x : AccMovArgs)
  | vacz (c : CoreId) (x : AccArgs)
  | vfadd (c : CoreId) (x : MArgs)
  | vfsub (c : CoreId) (x : MArgs)
  | vfmul (c : CoreId) (x : MArgs)
  | vfma (c : CoreId) (x : MArgs)
  | vfms (c : CoreId) (x : MArgs)
  | vfmin (c : CoreId) (x : MArgs)
  | vfmax (c : CoreId) (x : MArgs)
  | fadd (c : CoreId) (x : FArgs)
  | fsub (c : CoreId) (x : FArgs)
  | fmul (c : CoreId) (x : FArgs)
  | fma (c : CoreId) (x : FArgs)
  | fmin (c : CoreId) (x : FArgs)
  | fmax (c : CoreId) (x : FArgs)
  | fcmp (c : CoreId) (x : FArgs)
  | vbcst (c : CoreId) (x : XferArgs)
  | vins (c : CoreId) (x : XferArgs)
  | vext (c : CoreId) (x : XferArgs)
  | vlbc (c : CoreId) (x : XferArgs)
  | vfsum (c : CoreId) (x : XferArgs)
  | vld (c : CoreId) (x : VMemArgs)
  | vst (c : CoreId) (x : VMemArgs)
  | vlds (c : CoreId) (x : VMemArgs)
  | vsts (c : CoreId) (x : VMemArgs)
  | vgth (c : CoreId) (x : VMemArgs)
  | vsct (c : CoreId) (x : VMemArgs)
  | vldbc (c : CoreId) (x : VMemArgs)
  -- event controller (15)
  | eventRaise
  | coalesceWindowEnd (src : SourceId)
  | eventStart
  | eventProgramStart (c : CoreId)
  | waitWake (c : CoreId)
  | evtClaimRead (c : CoreId) (who : Requester)
  | evtDoneWrite (c : CoreId) (v : Word)
  | evtPendWrite (w : Fin 32) (v : Word)
  | evtGdisWrite (w : Fin 4) (v : Word)
  | classCHoldoffEnd (g : EvtGroupId)
  | classHHoldoffEnd (g : EvtGroupId)
  | eventRecordWrite
  -- queues and the host port (13)
  | sqFetch (q : QueueId) (p : Packet)
  | completionWrite
  | queueSignal (q : QueueId)
  | doorbell (q : QueueId) (f : FnId) (a : DbAcc)
  | queueEnableWrite (q : QueueId) (f : FnId) (v : Word)
  | queueDisableWrite (q : QueueId) (f : FnId) (v : Word)
  | seqclr (q : QueueId) (f : FnId)
  | queueDrained (q : QueueId)
  | queueError (q : QueueId) (e : HostErr)
  | hostIfrstWrite (f : FnId) (v : Word)
  | functionLevelReset (f : FnId)
  | ifrstDone (f : FnId) (bme : Bool)
  | perstNAssert
  | d3hotEntry (f : FnId) (pmeEn : Bool)
  | d0Return (f : FnId)
  | pmeResend (f : FnId)
  | linkState (rate : BitVec 3) (width : BitVec 5) (flit : Bool) (bme0 bme1 : Bool)
  | hostFrameTx (q : QueueId) (len : BitVec 16) (frame : List Byte) (hostErr : Bool)
  | hostFrameRx (q : QueueId) (buf : DWord) (bufLen : BitVec 16) (frame : List Byte) (edge : NetEdge) (hostErr : Bool)
  -- command packets (14)
  | cmdNop (o : Origin) (p : Packet)
  | ident (o : Origin) (p : Packet)
  | time (o : Origin) (p : Packet)
  | interfaceReset (o : Origin) (p : Packet)
  | unitReset (o : Origin) (p : Packet)
  | loadImage (o : Origin) (p : Packet)
  | loadImageCopyDone (dst : BitVec 48) (ok : Bool)
  | startCore (o : Origin) (p : Packet)
  | stopCore (o : Origin) (p : Packet)
  | bankAssign (o : Origin) (p : Packet)
  | paramWrite (o : Origin) (p : Packet)
  | routeCommit (o : Origin) (p : Packet)
  | taplistCommit (o : Origin) (p : Packet)
  | slotmapCommit (o : Origin) (p : Packet)
  | netstreamCommit (o : Origin) (p : Packet)
  | chainstreamCommit (o : Origin) (p : Packet)
  | dmaStart (o : Origin) (p : Packet)
  | dmaStop (o : Origin) (p : Packet)
  | domainResync (o : Origin) (p : Packet)
  | timeConfig (o : Origin) (p : Packet)
  | queueSet (o : Origin) (p : Packet)
  | queueEnable (o : Origin) (p : Packet)
  | queueSeqclr (o : Origin) (p : Packet)
  | propose (o : Origin) (p : Packet)
  | concur (o : Origin) (p : Packet)
  | withdraw (o : Origin) (p : Packet)
  | protectLapsed (pid : Word)
  | pair (o : Origin) (p : Packet)
  | unpair (o : Origin) (p : Packet)
  | takeoverDrill (o : Origin) (p : Packet)
  | spallSet (o : Origin) (p : Packet)
  | spallStatus (o : Origin) (p : Packet)
  | unlock (o : Origin) (p : Packet)
  | monitor (o : Origin) (p : Packet)
  -- network (11)
  | ethFrameReceive (e : EthId) (len : Nat) (tags : Nat) (k : EthKind) (edge : NetEdge)
  | syncTimeout (e : EthId)
  | linkChange (e : EthId) (up : Bool)
  | netEgressLoad (d : DomId)
  | ethFrameTransmit (e : EthId) (edge : NetEdge)
  | netCbsWrite (e : EthId) (t : Fin 8) (v : Word)
  | gclChange (e : EthId) (v : Word)
  | gateListSwitch (e : EthId) (edge : NetEdge)
  | netUtimeRead (who : Requester)
  -- chain and twin pairs (12)
  | chainPortUp (p : ChainPortId) (roundTripNs : Nat)
  | chainPortDown (p : ChainPortId)
  | portDelayMeasure (p : ChainPortId) (roundTripCycles : BitVec 16)
  | nak (p : ChainPortId) (expected : BitVec 16)
  | badFrame (p : ChainPortId) (k : BadKind)
  | retransmitTimeout (p : ChainPortId)
  | retryExhausted (p : ChainPortId)
  | mark (h : ChHdr) (dom : DomId) (grain : DWord) (resNs : Word) (ns : SubNs)
  | hb (p : ChainPortId) (h : ChHdr) (state : BitVec 3) (drv : Bool) (epoch : Word) (grain : DWord)
  | take (p : ChainPortId) (h : ChHdr) (epoch : Word) (grain : DWord)
  | fenceFrame (p : ChainPortId) (h : ChHdr) (cause : BitVec 8) (epoch : Word) (grain : DWord)
  | relay (p : ChainPortId) (h : ChHdr) (tag : Word) (pkt : Packet)
  | prep (p : ChainPortId) (h : ChHdr) (tag : Word) (grain : DWord) (pid : Word) (cfg : Word) (cnt : DWord) (pkt : Packet)
  | acc (p : ChainPortId) (h : ChHdr) (tag : Word)
  | rej (p : ChainPortId) (h : ChHdr) (tag : Word) (status : BitVec 8)
  | commit (p : ChainPortId) (h : ChHdr) (tag : Word)
  | abort (p : ChainPortId) (h : ChHdr) (tag : Word)
  | tsamp (p : ChainPortId) (h : ChHdr) (es : List TSample)
  | tdig (p : ChainPortId) (h : ChHdr) (b : BenchId) (grain : DWord) (digs : List Word)
  | strm (h : ChHdr) (es : List StrmEntry)
  | strmFlush (dst : BitVec 6)
  | cmd (h : ChHdr) (queue : BitVec 16) (tag : Word) (issuer : BitVec 2) (pkt : Packet)
  | cpl (h : ChHdr) (queue : BitVec 16) (tag : Word) (completion : BitVec 256)
  | enumToken (h : ChHdr) (next : BitVec 8) (ovf : Bool)
  | enumDone (h : ChHdr) (count : BitVec 8) (ovf : Bool)
  | enumRequest (h : ChHdr)
  | chCtlEnum
  | silencedRelease
  | twinDriveOn
  -- DMA sequencer programs (10)
  | dmaEnd (k : SeqrId) (w : DWord)
  | seti (k : SeqrId) (w : DWord)
  | seth (k : SeqrId) (w : DWord)
  | aluiAdd (k : SeqrId) (w : DWord)
  | aluiXor (k : SeqrId) (w : DWord)
  | move (k : SeqrId) (w : DWord)
  | move2d (k : SeqrId) (w : DWord)
  | dmaTransactionComplete (k : SeqrId) (i : Fin 104) (e : DmaEnd) (hostData : List Byte) (hostCycles : Word)
  | waitg (k : SeqrId) (w : DWord)
  | waitgEnd (k : SeqrId)
  | dlvb (k : SeqrId) (w : DWord) (late : Bool)
  | dlve (k : SeqrId) (w : DWord)
  | dmaDeadline (k : SeqrId)
  | dmaFence (k : SeqrId) (w : DWord)
  | jmp (k : SeqrId) (w : DWord)
  | loopd (k : SeqrId) (w : DWord)
  | hand (k : SeqrId) (w : DWord)
  | rel (k : SeqrId) (w : DWord)
  | signal (k : SeqrId) (w : DWord)
  | inval (k : SeqrId) (w : DWord)
  | dmaGo (k : SeqrId) (v : Word)
  | dmaCtlStop (k : SeqrId) (v : Word)
  | dmaErraddrRead (k : SeqrId) (who : Requester)
  -- far window and far memory (10)
  | fwcInv (b : BenchId)
  | fwcInvalidateDone (b : BenchId)
  | scrubRead (line : BitVec 48)
  | farStack (q : StackId)
  | fmUeaddrRead (q : StackId) (who : Requester)
  -- resets and power states (18)
  | powerOnReset (straps : StrapPins)
  | resetNAssert (lowNs : Nat)
  | bootReady
  | benchRst (b : BenchId)
  | benchResetDone (b : BenchId)
  | coreResetDone (c : CoreId)
  | sysPwrWrite (v : Word)
  | powerStateChangeDone
  | benchPwrWrite (b : BenchId) (v : Word)
  | benchPowerChangeDone (b : BenchId)
  | benchClkWrite (b : BenchId) (v : Word)
  | benchPllLock (b : BenchId)
  -- unit faults (17)
  | thermalWarn (sensor : Fin 32) (temp : BitVec 16)
  | thermalTrip (sensor : Fin 32) (temp : BitVec 16)
  | railFault (rail : Fin 9)
  | clockUnlock (i : IslandId)
  | clockRelock (i : IslandId)
  | refLoss
  | foremanRestart (code : Word)
  | configUe (store : BitVec 3) (entry : BitVec 16)
  -- serial port, mailbox and monitor (19)
  | mspFrameReceive (f : SerialFrame)
  | mbxGo (v : Word)
  | info (ch : MonChan) (tag : Byte)
  | read (ch : MonChan) (tag : Byte) (addr : BitVec 48) (count : BitVec 16) (live : Bool) (busy : List Nat)
  | write (ch : MonChan) (tag : Byte) (addr : BitVec 48) (count : BitVec 16) (ws : List Word) (busy : List Nat)
  | halt (ch : MonChan) (tag : Byte) (core : Byte)
  | coreHalted (c : CoreId)
  | resume (ch : MonChan) (tag : Byte) (core : Byte)
  | step (ch : MonChan) (tag : Byte) (core : Byte) (n : BitVec 16)
  | feed (ch : MonChan) (tag : Byte) (core : Byte) (bundle : BitVec 256)
  | regget (ch : MonChan) (tag : Byte) (core : Byte) (cls : Byte) (num : Byte)
  | regset (ch : MonChan) (tag : Byte) (core : Byte) (cls : Byte) (num : Byte) (value : BitVec 1152)
  | baud (ch : MonChan) (tag : Byte) (rate : Byte)
  | debugOpened
  -- spall (20)
  | katChunkStart (c : CoreId)
  | katChunkDone (c : CoreId) (bad : Option (Fin 32))
  | stripeBorrow (n : BankId) (stripe : Fin 128)
  | stripeRelease (r : StripeResult)
  | fabricProbe (w : Fin 8) (dest : Fin 30)
  | probeReturn (w : Fin 8) (value : Word) (roundTrip : BitVec 32) (inBound : Bool)
  -- register access and late rows
  | counterReadClear (off : BitVec 33) (who : Requester) (n : RegSize)
  | registerWrite (off : BitVec 33) (who : Requester) (d : RegData)
  | partnerSignalDetect (p : ChainPortId)
  | referenceReturn
  | thermalResetHoldEnd
  | reportIntervalEnd (b : BenchId)
  | controlLoadReturn (c : CoreId)
  | perstNRelease
  deriving DecidableEq, Repr

end Sys2Proof
end

