-- ==== Sys2Proof/Config.lean ====
section
/-! DEFINITION. What an implementation fixes and the manual leaves open: constants without a body, so that nothing can
prove a value of them. The free values are applied to the counter `State.fresh` (assumption log 5). -/

namespace Sys2Proof.Config

/-- A word of which the manual states no value (free value). -/
opaque freeWord : Nat → Word

/-- A byte of which the manual states no value (free value). -/
opaque freeByte : Nat → Byte

/-- A yes or no that the manual leaves open (free value). -/
opaque freeBit : Nat → Bool

/-- The requester number in the record of a fabric access refused because its bank is asleep, which R173 and R188 call
for and no table gives (free value). -/
opaque fabricRequester : BitVec 9

/-- The code that a PAIRC frame's STEP byte gives each of its frames, and an ENUM frame's PHASE byte (12 R388 names the bytes and
no codes): RELAY, PREP, ACC, REJ, COMMIT, ABORT; TOKEN, DONE, REQUEST. -/
opaque pairStep : Nat → Byte
opaque enumPhase : Nat → Byte

/-- The Vendor ID assigned to Lirdoric Devices (13 R427). -/
opaque vendorId : BitVec 16

/-- The stepping of the part as IDENT reports it (14 R467). -/
opaque stepping : Byte

/-- The foreman firmware version as IDENT and INFO report it (14 R467, 19 R563). -/
opaque firmware : Word

/-- The grade of the part: OPX-9612-E where true, OPX-9612-C where false (14 R467). -/
opaque gradeE : Bool

end Sys2Proof.Config
end

