-- ==== Sys2Proof/Machine/State.lean ====
section
/-! DEFINITION. The state of the unit as plain data: the register file with every register of the manual's register
maps, memory, and everything the manual gives its engines to hold, in the manual's own blocks. Arrays are tables
(`Tbl`): a list of numbered entries, strictly rising, in which an entry equal to its default is not listed. -/

namespace Sys2Proof.Machine

/-- A table: entries by number, strictly rising, none equal to its default. -/
abbrev Tbl (α : Type) := List (Nat × α)

/-- Memory: bytes by 48-bit global address, strictly rising, no byte 0 listed (every byte of the banks and of far
memory is 0 after power-on, 18 R544). -/
abbrev Mem := List Host.Cell

/-- Why a step can stop with a fault. No command of the unit stops the machine: failures are completion statuses,
recorded core faults, event records and status bits, all of them next states. -/
inductive Fault where
  /-- Raised by no command (safe: a closed type with a name for the case that cannot arise). -/
  | none
  deriving DecidableEq, Repr

/-- Why a step can be refused. -/
inductive Refusal where
  /-- The command's arm is not written yet; raised by Dispatch alone. Safe: the machine stops. -/
  | notModelled (mnemonic : String)
  deriving DecidableEq, Repr

/-- A raise of an event source on its way to the controller (15 R486), with the grain of each domain at that moment
(0xFFFF_FFFF where the domain is OFF, R501). -/
structure Raise where
  src : Nat
  obj : BitVec 16
  info : BitVec 40
  grains : List Word
  deriving DecidableEq, Repr

/-- Rate domain (02): the 64-bit counter, the unit time of its last boundary, the grain of its last fabric grain start
(`fabOn`: one has come; `fabDue`: that of the current grain is to come), and, of the chain MARKs it follows (12 R401): how many
in a row agree, up to 16, the grain of the last, where it places that grain's boundary in ns of the reference, and the
boundaries of this domain since it came. -/
structure Dom where
  cnt : DWord
  btime : DWord
  fab : DWord
  fabOn : Bool
  fabDue : Bool
  marks : Nat
  markGrain : DWord
  markAt : Int
  quiet : Nat
  /-- The counter took a step forwards at the last boundary: commits that it passed over wait for the next one (02 R46). -/
  stepped : Bool
  deriving DecidableEq, Repr

/-- A segment register: the selector's index and the cached descriptor with its GEN (06 R189, R210, R213). -/
structure Seg where
  idx : BitVec 7
  desc : BitVec 128
  loaded : Bool
  deriving DecidableEq, Repr

/-- What a result in flight writes (09 R304). `v` carries the lanes it writes, `flg` the FLG bits it names. -/
inductive Tgt where
  | s (n : BitVec 6)
  | a (n : BitVec 4)
  | v (n : BitVec 5) (lanes : BitVec 16)
  | p (n : BitVec 3)
  | flg (bits : Word)
  | lc (n : BitVec 2)
  | ls (n : BitVec 2)
  | le (n : BitVec 2)
  | seg (n : BitVec 3)
  deriving DecidableEq, Repr

/-- A result in flight: its write point in counted bundles, the bundle and slot that made it (R194, R304, R305). -/
structure PW where
  due : Nat
  bundle : Nat
  slot : Nat
  tgt : Tgt
  val : BitVec 512
  deriving DecidableEq, Repr

/-- The accumulator changes of 08 R282. -/
inductive AccFn where
  | mac
  | msu
  | maci
  | load (sh : BitVec 7)
  | clear
  deriving DecidableEq, Repr

/-- An accumulator change in flight (08 R283): seen by VACX from bundle `due` on. -/
structure AccChg where
  due : Nat
  bundle : Nat
  slot : Nat
  n : BitVec 2
  fn : AccFn
  x : BitVec 512
  y : BitVec 512
  lanes : BitVec 16
  deriving DecidableEq, Repr

/-- A store of 1, 2, 4 or 8 bytes (07 R245), or of one vector element. -/
structure StPart where
  addr : Nat
  size : Nat
  data : DWord
  deriving DecidableEq, Repr

/-- One store-buffer entry (09 R319): the stores of one port access in the order they are made, whether it goes to a
control register, the grain whose tally digest it enters (12 R412), and the bundle that made it (a load never sees a store
of its own bundle). -/
structure SbEntry where
  parts : List StPart
  ctl : Bool
  digGrain : Nat
  bundle : Nat
  deriving DecidableEq, Repr

/-- Where one loaded element goes: a scalar register, a pair, lanes of a vector, the target of a RET (07 R225). -/
inductive LdDest where
  | s (n : BitVec 6) (bits : Nat) (signed : Bool)
  | pair (n : BitVec 6)
  | lanes (n : BitVec 5) (m : BitVec 16)
  | ret
  deriving DecidableEq, Repr

/-- One element of a load: its address, size, destination, and its data once it has been read. -/
structure Elem where
  addr : Nat
  size : Nat
  dst : LdDest
  data : Option DWord
  deriving DecidableEq, Repr

/-- A load for which the core is stalled (09 R314, R316, R318, R321): its elements, the far lines still to fill, the write
point of its results; `ldx`: it sets the reservation (07 R267). -/
structure LoadJob where
  due : Nat
  bundle : Nat
  slot : Nat
  elems : List Elem
  lines : List Nat
  ldx : Bool
  deriving DecidableEq, Repr

/-- A whole-core stall that lasts until the store buffer is empty (07 R263, R264, R267); an STX keeps RT as it stood when
its bundle issued (06 R222), and the write point of its status. -/
inductive Drain where
  | none
  | fence
  | isync
  | stx (x : LArgs) (addr : Nat) (due : Nat) (data : Word)
  deriving DecidableEq, Repr

/-- What runs on a core (15 R491, R493). -/
inductive Prog where
  | none
  | grain
  | event
  deriving DecidableEq, Repr

/-- A LOCK sequence (07 R265): the bank, its first and last bundle, whether the lock was taken. -/
structure LockSt where
  bank : Nat
  first : Nat
  last : Nat
  taken : Bool
  deriving DecidableEq, Repr

/-- A LOCK that waits for another core's sequence (07 R265). -/
structure LockWait where
  rt : BitVec 6
  addr : Nat
  n : Nat
  bundle : Nat
  slot : Nat
  deriving DecidableEq, Repr

/-- A monitor request whose answer waits for a core (19 R563): HALT, STEP or FEED; `fault`: its bundle faulted (R573). -/
structure MonPend where
  ch : MonChan
  op : Byte
  tag : Byte
  fault : Bool
  deriving DecidableEq, Repr

/-- A bundle in the fetch path (07 R264): its offset, its parcels, and whether a word of it held an uncorrectable error. -/
structure FBundle where
  off : Nat
  ue : Bool
  parcels : List (BitVec 16)
  deriving DecidableEq, Repr

/-- A grain core (06, 07, 09). -/
structure Core where
  s : Tbl Word
  a : Tbl Word
  v : Tbl (BitVec 512)
  p : Tbl DWord
  va : Tbl (BitVec 1152)
  lc : Tbl Word
  ls : Tbl Word
  le : Tbl Word
  flg : Word
  pc : Word
  gsn : Word
  segs : Tbl Seg
  code : Seg
  /-- Program kind running; WAIT issued; halted; reset in progress. -/
  prog : Prog
  waiting : Bool
  halted : Bool
  resetting : Bool
  /-- The full number of the grain whose program runs or last ran. -/
  grain : DWord
  /-- The core owes its program of the bench's grain and waits for its trigger (02 R57). -/
  trigWait : Bool
  /-- A trigger write completed in the window while the core still ran (02 R65). -/
  trigHit : Bool
  /-- CORE_TRIG_LATEST passed while the core still ran (02 R65). -/
  trigPast : Bool
  /-- The deadline of the current grain has been missed under FINISH (02 R65). -/
  missed : Bool
  /-- An ABANDON that waits for a stall or a LOCK sequence to end (02 R64, 07 R266). -/
  dlPend : Bool
  /-- A halt on its way, with its cause: 0 HALT, 1 BRK, 2 fault, 3 STEP complete (19 R569). -/
  haltPend : Option (BitVec 2)
  /-- After a RESUME the program has no deadline until the next grain start (19 R571). -/
  noDl : Bool
  /-- Bundles that a STEP has still to issue, and the monitor request that this core will answer (19 R572). -/
  steps : Nat
  mon : Option MonPend
  /-- Grain registers in effect (02 R61). -/
  gctl : Word
  gentry : Word
  gdl : Word
  trig : Word
  tlatest : Word
  /-- Counted bundles, results and accumulator changes in flight (09 R303-R306). -/
  t : Nat
  pws : List PW
  accs : List AccChg
  /-- Store buffer, and the entries of a store that waits for room (09 R319, R320). -/
  sb : List SbEntry
  sbWait : List SbEntry
  jobs : List LoadJob
  drain : Drain
  /-- The loads whose port A reads were made in the cycle of the bundle at E1: a port B write of that cycle can still tear
  them (05 R167). -/
  reads : List LoadJob
  /-- The bundle at E1 holds a store after its L0 slot: an STX waits for it too (09 R309). -/
  ownStore : Bool
  /-- Far lines whose fills lookups in D have started with `CORE_CFGACT.WCF` = 1, for the predicted or a wrong path (09
  R311, R316). -/
  early : List Nat
  /-- The reservation: a line number, address / 64 (07 R267). -/
  res : Option Nat
  locks : List LockSt
  lockWait : Option LockWait
  /-- Branch history and counters (07 R258). -/
  ghr : BitVec 12
  pht : Tbl (BitVec 2)
  /-- The fetch path: bundles fetched ahead of issue (07 R264). -/
  fpath : List FBundle
  /-- Offset of the bundle at E1 and of the bundle after it in sequence. -/
  bpc : Word
  npc : Word
  /-- A transfer's delay slot comes next: whether it is taken, and its target; `annul`: it is squashed (07 R256). -/
  dslot : Option (Bool × Word)
  annul : Bool
  /-- The transfer whose delay slot is the bundle at E1: taken or not, and its target; the pc came from a register
  transfer (07 R255). -/
  ds : Option (Bool × Word)
  regTgt : Bool
  /-- The operations of the bundle at E1 have no effect: it was squashed, or it faulted (R228, R256). -/
  squash : Bool
  /-- The bundle at the pc was halted on by BRK; the bundle at E1 is that one, in which BRK acts as NOP (19 R570). -/
  brkSkip : Bool
  brkNop : Bool
  /-- Tally digests by grain (12 R412). -/
  digs : Tbl Word
  deriving DecidableEq, Repr

/-- A change of a bank's owner on its way (05 R180-R183): the new owner and lender; `wait`: queued stores of the old
owner, an earlier change or a borrow hold its cycle 0. -/
structure OwnChg where
  owner : BitVec 8
  lender : BitVec 8
  wait : Bool
  deriving DecidableEq, Repr

/-- A bank's hidden state (05). -/
structure Bank where
  chg : Option OwnChg
  /-- A bank assignment that waits for an earlier change (R183). -/
  next : Option (BitVec 8)
  /-- Power change in progress towards a state (R185); a request that waits stands in `BANK_PWR.REQ` (R186). -/
  pwrTo : Option (BitVec 2)
  /-- Source 28 already raised in this report interval (R173), words already reported by source 30 (R163). -/
  denied : Bool
  ueWords : List Nat
  deriving DecidableEq, Repr

/-- One way of a far-window set (10 R335): the line number and its 64 bytes as a number. -/
structure FwcWay where
  line : Nat
  data : BitVec 512
  deriving DecidableEq, Repr

/-- A set of the far-window cache: its ways by number and its rotation pointer. -/
structure FwcSet where
  ways : Tbl (Option FwcWay)
  ptr : Nat
  deriving DecidableEq, Repr

/-- One output of a Fathom group that waits for its cycle (04 R150): descriptor index, value, destination. -/
structure FthOut where
  desc : Nat
  push : Bool
  dest : Nat
  val : Word
  deriving DecidableEq, Repr

/-- A Fathom engine (04 R141-R158). -/
structure Fathom where
  sum : Word
  /-- Next descriptor to issue, outputs waiting, results handed to the fabric and not yet carried. -/
  idx : Nat
  outs : List FthOut
  pushes : List (BitVec 16 × Word)
  running : Bool
  grain : DWord
  /-- The page whose settings the running list began under (R153). -/
  page : Fin 2
  missed : Bool
  /-- Grain whose feed and list wait for a list that runs late under FINISH (R156), and whether its deadline has passed. -/
  later : Option DWord
  laterMissed : Bool
  /-- Lines still to be fed in this grain, whose accesses wait (R143, 07 R265). -/
  toFeed : List Nat
  /-- OWNER and CLAMP events already raised in this grain. -/
  evOwner : Bool
  evClamp : Bool
  deriving DecidableEq, Repr

/-- A bench's hidden state. -/
structure Bench where
  grain : DWord
  started : Bool
  fwc : Tbl FwcSet
  /-- Fills that must not be installed: lines an invalidation started to cover (10 R337). -/
  noInstall : List Nat
  fth : Fathom
  /-- A grain start sent by the fabric and not yet taken (02 R53). -/
  due : Bool
  /-- By ingress wagon, how many words at the front of its queue were sampled before the boundary and so stand ahead of the
  grain start (02 R53). -/
  ahead : Tbl Nat
  /-- The grain whose TDIG is to be sent next (12 R412). -/
  tdigNext : Nat
  /-- Bench power change in progress towards a state (18 R555). -/
  pwrTo : Option (BitVec 2)
  /-- A power request that came during a change (18 R555). -/
  pwrNext : Option (BitVec 2)
  /-- The PLL has locked at the new frequency (18 R556). -/
  pllLocked : Bool
  /-- A report interval of the always-on timer runs rather than one of grains (05 R614). -/
  timerInt : Bool
  /-- The period of 25 µs of the always-on timer in which the report interval began. -/
  period : Nat
  deriving DecidableEq, Repr

/-- A word on its way to a bank (04 R122): destination word address, data, and a timestamp with it (R123). -/
structure FabWord where
  dst : Nat
  val : Word
  ts : Option Word
  deriving DecidableEq, Repr

/-- Where a watched or outbox write is carried to (04 R129, 03 R105, 11 R375, 12 R403). -/
inductive CarryTo where
  | bank (dst : Nat)
  | lane (lane : Nat) (slot : Nat)
  | net (stream : Nat) (chan : Nat)
  | chain (stream : Nat) (chan : Nat)
  deriving DecidableEq, Repr

/-- A carriage recognised at a completed write and not yet read (04 R134). -/
structure Carry where
  wagon : Nat
  src : Nat
  target : CarryTo
  tag : BitVec 16
  deriving DecidableEq, Repr

/-- A word read for carriage to an egress register or store, in its wagon's queue. -/
structure EgrWord where
  target : CarryTo
  tag : BitVec 16
  val : Word
  deriving DecidableEq, Repr

/-- The tap fabric (04): bank-bound queues and egress-bound queues by wagon, carriages recognised, and the page that
the SCHED entries of each domain still follow (R133), the slot-map page each port group's carriage follows (R105), and the
port B writes latched and not yet made, each with its requester: other-bench stores of a core (09 R315, R319), and the words
of a PARAM_WRITE of the foreman, 141 (14 R473). -/
structure Fabric where
  q : Tbl (List FabWord)
  eq : Tbl (List EgrWord)
  carries : List Carry
  schedPage : Tbl Nat
  carryPage : Tbl Nat
  stores : List (Nat × SbEntry)
  deriving DecidableEq, Repr

/-- An egress channel's register (02 R68, R69): the even-tag and odd-tag words with their tags, the last sample sent,
and the expected tag of a frame in which LATE held. -/
structure Egr where
  even : Option (BitVec 16 × Word)
  odd : Option (BitVec 16 × Word)
  last : Word
  late : Option (BitVec 16)
  deriving DecidableEq, Repr

/-- A clock group's hidden state (03): marks seen in alignment, the number of the frame most recently started, the
slot-map page its frames follow from frame `since` on (the frames before it follow the other page), the domain and grain
of an accepted commit of a slot map to which it has not changed over yet, and the drive codes of its eight lanes
while they still follow the words that stood in `TW_LANE` before a change (16 R512). -/
structure Group where
  marks : Nat
  frame : DWord
  page : Nat
  since : DWord
  due : Option (Nat × DWord)
  codes : Option (BitVec 16)
  deriving DecidableEq, Repr

/-- One DMA transaction outstanding (10 R345), with the index of its instruction. -/
structure DmaTx where
  src : Nat
  dst : Nat
  words : Nat
  srcHost : Bool
  dstHost : Bool
  rb : Bool
  pc : Nat
  deriving DecidableEq, Repr

/-- An open delivery (10 R350, R351): served grain, bench, and that bench's domain when DLVB issued; `late`: it has missed
its deadline. -/
structure Delivery where
  grain : DWord
  bench : Nat
  dom : Nat
  late : Bool
  deriving DecidableEq, Repr

/-- What a sequencer waits for before its next instruction: nothing; a grain; the rest of a copy, from a row and a word
of it on; transactions, then the instruction's effect (R346); invalidations by bench. -/
inductive DmaWait where
  | none
  | grain (d : Nat) (g : DWord)
  | copy (w : DWord) (row : Nat) (word : Nat)
  | txs (w : DWord)
  | inval (benches : List Nat)
  deriving DecidableEq, Repr

/-- A sequencer's hidden state (10). `err`: the error met, its address and instruction, while transactions still run. -/
structure Dma where
  txs : List DmaTx
  dlv : Option Delivery
  wait : DmaWait
  err : Option (Nat × Nat × Nat)
  stop : Bool
  erraddr : DWord
  deriving DecidableEq, Repr

/-- The fields that the unit fills in a stream packet's header (11 R370): IPv4 total length and header checksum, UDP length
and checksum, the sequence number, the timestamp, `tv`, and the format fields: SFMT, RATE, channels and payload bytes. -/
structure PktFill where
  ipLen : BitVec 16
  ipSum : BitVec 16
  udpLen : BitVec 16
  udpSum : BitVec 16
  seqno : BitVec 16
  ts : Word
  tv : Bool
  sfmt : Nat
  rate : Nat
  nch : Nat
  bytes : Nat
  deriving DecidableEq, Repr

/-- A frame in a transmit queue (11 R376, R377, 13 R445): a stream packet with its template's header bytes, the fields filled
in them and its payload; a frame of the host, with its queue and entry; or a Sync message of a port in MASTER, or the
Follow_Up of it. -/
inductive TxItem where
  | stream (i : Nat) (hdr : List Byte) (fill : PktFill) (payload : List Byte)
  | host (q : Nat) (entry : Nat) (frame : List Byte)
  | ptp (followUp : Bool)
  deriving DecidableEq, Repr

/-- A port of the network (11): its PTP clock (R360), as the ns by which it is ahead of the reference's, its time protocol as
parameter bytes 25 to 32 (14 R475), runs of Syncs within 100 ns and
beyond 1 µs, the grandmaster, transmit queues by class, shaping credit by class with the ns at which it stood
(11 R378), the operational gate list (11 R379). -/
structure EthPort where
  clk : Int
  proto : BitVec 64
  syncs : Nat
  bad : Nat
  gm : DWord
  txq : Tbl (List TxItem)
  credit : Tbl (Int × Nat)
  operGates : List Word
  operBase : DWord
  operCycle : Word
  operOn : Bool
  deriving DecidableEq, Repr

/-- A sample in the playout store (11 R372-R374), with the stream-table page whose entry it matched. -/
structure Played where
  page : Nat
  stream : Nat
  grain : Nat
  words : List Word
  deriving DecidableEq, Repr

/-- A packet in preparation (11 R376): the page it follows, its first media grain, the words of each grain so far. -/
structure Prep where
  page : Nat
  first : DWord
  words : List (List Word)
  deriving DecidableEq, Repr

/-- Per-stream memory: the last late, early and gap grain, plus 1 (11 R374; 0: none); packets in preparation and the next
sequence number (11 R376). -/
structure Strm where
  late : Nat
  early : Nat
  gap : Nat
  preps : List Prep
  seqno : BitVec 16
  deriving DecidableEq, Repr

/-- The network island (11). -/
structure Net where
  ports : Tbl EthPort
  store : List Played
  instat : Tbl Strm
  outstat : Tbl Strm
  egr : Tbl Egr
  /-- The active pair of stream-table pages, and the domain and grain of the commit that made it active (R368). -/
  page : Nat
  since : Option (Nat × DWord)
  /-- The ns by which unit time has been slewed in all, and what that was at the end of each of the last 1,024 ms in which
  it followed a port, newest first (R359). -/
  slew : Int
  hist : List Int
  deriving DecidableEq, Repr

/-- The frame kinds of the chain link with their payloads (12 R388), as sent. -/
inductive Frame where
  | nak (expected : BitVec 16)
  | mark (dom : Nat) (grain : DWord) (resNs : Word)
  | hb (state : BitVec 3) (drv : Bool) (epoch : Word) (grain : DWord)
  | take (epoch : Word) (grain : DWord)
  | fence (cause : BitVec 8) (epoch : Word) (grain : DWord)
  | relay (tag : Word) (pkt : Packet)
  | prep (tag : Word) (grain : DWord) (pid : Word) (cfg : Word) (cnt : DWord) (pkt : Packet)
  | acc (tag : Word)
  | rej (tag : Word) (status : BitVec 8)
  | commit (tag : Word)
  | abort (tag : Word)
  | tsamp (es : List TSample)
  | tdig (bench : Nat) (grain : DWord) (digs : List Word)
  | strm (es : List StrmEntry)
  | cmd (queue : BitVec 16) (tag : Word) (issuer : BitVec 2) (pkt : Packet)
  | cpl (queue : BitVec 16) (tag : Word) (completion : BitVec 256)
  | enumToken (next : BitVec 8) (ovf : Bool)
  | enumDone (count : BitVec 8) (ovf : Bool)
  | enumRequest
  deriving DecidableEq, Repr

/-- A sequenced frame held until it is acknowledged (12 R389-R391): the 1 µs timer when it was first sent, and how often it
has been retransmitted. -/
structure Held where
  sent : Nat
  tries : Nat
  lseq : BitVec 16
  src : BitVec 8
  dst : BitVec 8
  body : Frame
  deriving DecidableEq, Repr

/-- A chain port's hidden state (12). -/
structure ChPort where
  txSeq : BitVec 16
  rxSeq : BitVec 16
  held : List Held
  deriving DecidableEq, Repr

/-- The chain island (12): the first TOKEN sent, a TOKEN on the ring, requests waiting, chain words waiting, STRM frames being filled, stream event
memory. -/
structure Chain where
  ports : Tbl ChPort
  tokenSent : Bool
  tokenOut : Bool
  requests : Nat
  words : List (Nat × Nat × Nat × Word)
  filling : Tbl (List StrmEntry)
  instat : Tbl Strm
  /-- The active pair of stream-table pages (R402). -/
  page : Nat
  deriving DecidableEq, Repr

/-- A pair command in progress: on the coordinating member, awaiting the twin's answer (12 R415), its origin none where
the twin relayed it; or, `relayed`, on a member that has relayed it to its twin (R414). -/
structure PrepOut where
  tag : Word
  pkt : Packet
  opcode : BitVec 16
  origin : Option Origin
  relayed : Bool
  grain : DWord
  pid : Word
  deriving DecidableEq, Repr

/-- A pair command the twin has answered with ACC (12 R415, R416). -/
structure PrepIn where
  tag : Word
  pkt : Packet
  opcode : BitVec 16
  grain : DWord
  pid : Word
  deriving DecidableEq, Repr

/-- The twin state (12 R405-R420). `lastHb` is L; until an HB has come since the PAIR, HBs are awaited from grain `hbFrom` on;
`h` is the first grain without HB of a silenced member; `compared`: tallies have been compared since the last grain. -/
structure Twin where
  lastHb : DWord
  hbFrom : DWord
  hbSeen : Bool
  hbState : BitVec 3
  drill : Bool
  h : Option Nat
  recEpoch : Word
  agree : Nat
  clean : Bool
  compared : Bool
  silentTold : Bool
  driveAt : Option Nat
  store : Tbl Egr
  own : Tbl (List Word)
  peer : Tbl (List Word)
  tag : Word
  out : List PrepOut
  inn : List PrepIn
  deriving DecidableEq, Repr

/-- Bytes 0 to 23 of a completion (14 R460), with the queue it is bound for. -/
structure Completion where
  opcode : BitVec 16
  status : BitVec 8
  cflags : BitVec 8
  seq : Word
  unit : BitVec 16
  detail : BitVec 16
  aux : Word
  result : DWord
  deriving DecidableEq, Repr

/-- Where a command in progress stands: fetched and not yet validated; forwarded, awaiting its CPL; a pair command
awaiting its twin (12 R398, R414, R415). -/
inductive Stage where
  | ready
  | forwarded
  | pair
  deriving DecidableEq, Repr

/-- A command in progress (13 R451), with the number of duplicates to answer after it. -/
structure InProg where
  origin : Origin
  seq : Word
  pkt : Packet
  stage : Stage
  dups : Nat
  deriving DecidableEq, Repr

/-- A completion not yet written or sent; `held`: held for a full CQ, and counted (13 R449). -/
structure Done where
  origin : Origin
  c : Completion
  held : Bool
  deriving DecidableEq, Repr

/-- The write-back of a stream entry (13 R445). -/
structure StreamWb where
  index : Nat
  status : Nat
  len : Nat
  stamp : DWord
  deriving DecidableEq, Repr

/-- A queue's hidden state (13): duplicate window (newest last), entries written since the last signal, the time of
the first of them (R446), and the write-backs held while its function is in D3hot (R454). -/
structure QState where
  window : List (Word × Completion)
  unsig : Nat
  sigT0 : Nat
  wbs : List StreamWb
  deriving DecidableEq, Repr

/-- A PCIe function (13 R426, R438, R453, R454): D3hot, bus mastering, PME with the time of its last message, the stage of the
IFRST key, and the host memory errors logged through AER, newest last: the queue and the cause. -/
structure Fn where
  d3 : Bool
  bme : Bool
  pmeEn : Bool
  pmeStatus : Bool
  pmeAt : Nat
  key : Bool
  aer : List (Nat × HostErr)
  deriving DecidableEq, Repr

/-- A pending commit (02 R71-R76, 14 R464-R466). -/
structure Commit where
  opcode : BitVec 16
  dom : Nat
  grain : DWord
  pkt : Packet
  seq : Word
  origin : BitVec 8
  pid : Word
  deriving DecidableEq, Repr

/-- An image copy in progress, with the packet of its LOAD_IMAGE (14 R470). -/
structure ImageCopy where
  pkt : Packet
  done : Bool
  deriving DecidableEq, Repr

/-- The command engines (13, 14). `turn`: the SQ from which a command was last taken (13 R448). -/
structure Cmds where
  turn : Nat
  inprog : List InProg
  done : List Done
  commits : List Commit
  images : List ImageCopy
  /-- R452: per origin index, the last 64 pairs of queue and SEQ with their completions. -/
  remote : Tbl (List (BitVec 16 × Word × Completion))
  /-- The window of the management serial port (R459). -/
  serial : List (Word × Completion)
  /-- Resets that begin when the completion of their command is written (R468): the command, and 0 PF0, 1 PF1, 2 unit. -/
  resets : List (Origin × Word × Nat)
  deriving DecidableEq, Repr

/-- A proposal slot (16 R515-R525). -/
structure Proposal where
  pid : Word
  kind : BitVec 8
  dom : Nat
  state : BitVec 2
  first : Nat
  count : Nat
  grain : DWord
  wend : Nat
  digest : DWord
  entries : List Word
  seq : Word
  origin : BitVec 8
  lapsedAt : Nat
  deriving DecidableEq, Repr

/-- An UNLOCK request (14 R483): identifier, the authority that opened it (true: A), digest, window end. -/
structure UnlockReq where
  pid : Word
  byA : Bool
  digest : DWord
  wend : Nat
  deriving DecidableEq, Repr

/-- The protection block (16). -/
structure Prot where
  slots : Tbl (Option Proposal)
  nextPid : Word
  unlock : Option UnlockReq
  lapses : Nat
  deriving DecidableEq, Repr

/-- A firing (15 R487): occurrences, and the first raise's grains, object and detail. -/
structure Firing where
  occ : Nat
  r : Raise
  deriving DecidableEq, Repr

/-- An event source's state (15 R487, R489, R502). -/
structure Src where
  cstate : BitVec 2
  holder : Nat
  firing : Option Firing
  later : Option Firing
  hrec : Option Firing
  win : Option (Nat × Firing)
  deriving DecidableEq, Repr

/-- The event controller (15): sources, ends of the hold-offs that run by group, cores with a start on its way. -/
structure Evt where
  src : Tbl Src
  /-- Hold-off ends by group, class C and class H. -/
  chold : Tbl Nat
  hhold : Tbl Nat
  starts : List Nat
  deriving DecidableEq, Repr

/-- The spall engine (20). `period`: the number plus 1 of a coverage period that has been run from its start; chunks done and
stripes tested in it, the next stripe of each bench; the core of a chunk in progress; the stripe borrowed (bank, stripe) with its contents; the timer at
the last borrow; the benches borrowed from in their current grain, with the grain. -/
structure Spall where
  period : Nat
  katCore : Option Nat
  katNext : Tbl Nat
  strNext : Tbl Nat
  borrow : Option (Nat × Nat)
  shadow : List Host.Cell
  lastBorrow : Nat
  borrowedOnce : Bool
  benchUsed : List (Nat × Nat)
  tested : List (Nat × Nat)
  probe : Tbl (Option (Nat × Word))
  probeNext : Nat
  /-- The coverage period in which scrub last read a line, and the lines it has read in it (10 R353). -/
  scrubPeriod : Nat
  scrubbed : List Nat
  /-- By domain, the grain plus 1 in which its last probe was sent (20 R588). -/
  probeAt : Tbl Nat
  deriving DecidableEq, Repr

/-- Whole-unit conditions (17, 18). `stopped`: islands without a clock (17 R528), 0 to 33; 100 + i while island i has relocked
and waits for its next grain start. `fatal`: stopped by a fault until a reset; `thermalHold`: a unit reset is held by the
temperature; `pwrTo`: a change of the unit's power state, to STANDBY where true. -/
structure Sys where
  stopped : List Nat
  refLost : Bool
  fatal : Bool
  thermalHold : Bool
  pwrTo : Option Bool
  booting : Bool
  lastWarn : Option Nat
  perst : Bool
  eraseAt : Option DWord
  /-- Frozen blocks that wait for their next grain start after the last halt ended (19 R576): 0-15 port group,
  16 fabric, 17-28 Fathom engine, 29-60 sequencer, 61 network streams. -/
  thaw : List Nat
  /-- The firmware's key slots (19 R567), of which the spec gives no number (log entry 132). -/
  keys : Tbl DWord
  /-- Monitor requests that have come on the serial port and wait for their answer, oldest first (19 R563). -/
  monQ : List (List Byte)
  deriving DecidableEq, Repr

/-- What has left the unit (log entry 6): read data, messages to the host, frames on links, serial bytes. -/
inductive Out where
  | readData (who : Nat) (v : Word)
  | bytes (who : Nat) (bs : List Byte)
  | cqEntry (q : Nat) (index : Nat) (c : Completion) (sq : Nat) (head : Nat) (phase : Bool)
  | eqEntry (q : Nat) (index : Nat) (rec : BitVec 128)
  | streamWb (q : Nat) (w : StreamWb)
  | msix (f : Nat) (vec : Nat)
  | pme (f : Nat)
  | frame (port : Nat) (lseq ack : BitVec 16) (src : BitVec 8) (dst : BitVec 8) (retx : Bool) (body : Frame)
  | probe (wagon : Nat) (dest : Nat) (v : Word)
  | serial (line : List Byte)
  | ethFrame (port : Nat) (cls : Nat) (item : TxItem)
  | hostWrite (addr : DWord) (bs : List Byte)
  | lane (lane : Nat) (slot : Nat) (v : Word)
  | frameSync (group : Nat) (frame : DWord)
  deriving DecidableEq, Repr

/-- The state of the unit. -/
structure State where
  /-- The commands waiting, first in, first out. -/
  pending : List Instr
  /-- Counter of the free values (log entry 5). -/
  fresh : Nat
  /-- The always-on 1 µs timer and unit time in ns (11 R359, 18 R549). -/
  timer : Nat
  utime : Nat
  /-- Every register, by control offset; a register not listed holds its reset value. -/
  regs : Tbl Word
  mem : Mem
  /-- Bank words and far lines that hold a correctable or an uncorrectable error (05 R163, 10 R333). -/
  ce : List Nat
  ue : List Nat
  /-- The line of each stack's most recent uncorrectable read (10 R334). -/
  fmUe : Tbl Nat
  /-- Entries of configuration stores that read an uncorrectable error: store code and entry (17 R528, log entry 9). -/
  cfgUe : List (Nat × Nat)
  doms : Tbl Dom
  cores : Tbl Core
  benches : Tbl Bench
  banks : Tbl Bank
  fab : Fabric
  groups : Tbl Group
  /-- SLOTS of each clock group when a slot-map page was last expanded, by port group * 2 + page (03 R103). -/
  smap : Tbl (List Nat)
  egr : Tbl Egr
  dma : Tbl Dma
  net : Net
  chain : Chain
  twin : Twin
  queues : Tbl QState
  fns : Tbl Fn
  cmds : Cmds
  prot : Prot
  evt : Evt
  raises : List Raise
  spall : Spall
  sys : Sys
  out : List Out
  deriving DecidableEq, Repr

/-! ## Default entries: what an entry not listed in a table is -/

/-- A domain in OFF (18 R549). -/
def Dom.init : Dom := ⟨0, 0, 0, false, false, 0, 0, 0, 0, false⟩

/-- A null segment register (06 R216). -/
def Seg.null : Seg := ⟨0, 0, false⟩

/-- A core after a core reset (18 R547), STOPPED. -/
def Core.init : Core where
  s := []
  a := []
  v := []
  p := []
  va := []
  lc := []
  ls := []
  le := []
  flg := 0
  pc := 0
  gsn := 0
  segs := []
  code := Seg.null
  prog := .none
  waiting := false
  halted := false
  resetting := false
  grain := 0
  trigWait := false
  trigHit := false
  trigPast := false
  missed := false
  dlPend := false
  haltPend := none
  noDl := false
  steps := 0
  mon := none
  gctl := 0
  gentry := 0
  gdl := 0
  trig := 0
  tlatest := 0
  t := 0
  pws := []
  accs := []
  sb := []
  sbWait := []
  jobs := []
  drain := .none
  reads := []
  ownStore := false
  early := []
  res := none
  locks := []
  lockWait := none
  ghr := 0
  pht := []
  fpath := []
  bpc := 0
  npc := 0
  dslot := none
  annul := false
  ds := none
  regTgt := false
  squash := false
  brkSkip := false
  brkNop := false
  digs := []

/-- A bank with no change on its way. -/
def Bank.init : Bank := ⟨none, none, none, false, []⟩

/-- A far-window set with every way invalid and its pointer at way 0 (10 R335). -/
def FwcSet.init : FwcSet := ⟨[], 0⟩

/-- An idle Fathom engine; the running sum is +0.0 (04 R147). -/
def Fathom.init : Fathom := ⟨0, 0, [], [], false, 0, 0, false, none, false, [], false, false⟩

/-- A bench before its first grain start. -/
def Bench.init : Bench := ⟨0, false, [], [], Fathom.init, false, [], 0, none, none, false, true, 0⟩

/-- An egress channel after reset: no word, last sample 0 (02 R69). -/
def Egr.init : Egr := ⟨none, none, 0, none⟩

/-- A clock group that is off. -/
def Group.init : Group := ⟨0, 0, 0, 0, none, none⟩

/-- An idle sequencer. -/
def Dma.init : Dma := ⟨[], none, .none, none, false, 0⟩

/-- An Ethernet port with its protocol off and every queue empty. -/
def EthPort.init : EthPort := ⟨0, 0, 0, 0, 0, [], [], [], 0, 0, false⟩

/-- A stream with nothing seen. -/
def Strm.init : Strm := ⟨0, 0, 0, [], 0⟩

/-- A chain port that has sent and accepted nothing. -/
def ChPort.init : ChPort := ⟨0, 0, []⟩

/-- A queue with an empty window. -/
def QState.init : QState := ⟨[], 0, 0, []⟩

/-- A function in D0 (13 R454); Bus Master Enable off (log entry 3). -/
def Fn.init : Fn := ⟨false, false, false, false, 0, false, []⟩

/-- A source in IDLE with nothing waiting. -/
def Src.init : Src := ⟨0, 0, none, none, none, none⟩

def Fabric.init : Fabric := ⟨[], [], [], [], [], []⟩
def Net.init : Net := ⟨[], [], [], [], [], 0, none, 0, []⟩
def Chain.init : Chain := ⟨[], false, false, 0, [], [], [], 0⟩
/-- SOLO (18 R549). -/
def Twin.init : Twin := ⟨0, 0, false, 0, false, none, 0, 0, true, false, false, none, [], [], [], 0, [], []⟩
def Cmds.init : Cmds := ⟨65535, [], [], [], [], [], [], []⟩
/-- No proposal; the next identifier is 1 (16 R516). -/
def Prot.init : Prot := ⟨[], 1, none, 0⟩
def Evt.init : Evt := ⟨[], [], [], []⟩
def Spall.init : Spall := ⟨0, none, [], [], none, [], 0, false, [], [], [], 0, 0, [], []⟩
/-- Booting after reset (18 R544): `SYS_STAT.PHASE` passes BOOT to READY. -/
def Sys.init : Sys := ⟨[], false, false, false, none, true, none, false, none, [], [], []⟩

/-- The unit right after power-on reset (18 R549), its strap pins unconnected (log entry 4): every register at its
reset value, memory zero, nothing pending. -/
def State.reset : State where
  pending := []
  fresh := 0
  timer := 0
  utime := 0
  regs := []
  mem := []
  ce := []
  ue := []
  fmUe := []
  cfgUe := []
  doms := []
  cores := []
  benches := []
  banks := []
  fab := Fabric.init
  groups := []
  smap := []
  egr := []
  dma := []
  net := Net.init
  chain := Chain.init
  twin := Twin.init
  queues := []
  fns := []
  cmds := Cmds.init
  prot := Prot.init
  evt := Evt.init
  raises := []
  spall := Spall.init
  sys := Sys.init
  out := []

end Sys2Proof.Machine
end

