-- ==== Sys2Proof/Machine/RegMap.lean ====
section
/-! DEFINITION. The register maps of the manual as one table: each register's control offset (01 R29), its repetition
(stride, count), and its fields with access code (00 R12) and reset value. Registers of PF1's BAR0 page stand at
0x1_0000_0000 + their offset in that page (13 R428). A function per register gives its offset. -/

namespace Sys2Proof.Machine

/-- The access codes of 00 R12. -/
inductive Acc where
  | rw
  | ro
  | wo
  | w1c
  | rc
  | rs
  deriving DecidableEq, Repr

/-- A field: lowest bit, width, access code, reset value. -/
structure Field where
  lo : Nat
  w : Nat
  acc : Acc
  rst : Nat
  deriving DecidableEq, Repr

/-- A register or register array: offset of the first, (stride, count) of each dimension, outermost first. -/
structure Reg where
  base : Nat
  dims : List (Nat × Nat)
  fields : List Field
  deriving DecidableEq, Repr

/-! ## Register offsets -/

namespace A

/-- R48. -/
def rdCtl (i : Nat) : Nat := 0x1000 + i * 0x100
/-- R49. -/
def rdStat (i : Nat) : Nat := 0x1004 + i * 0x100
/-- R50. -/
def rdGsetLo (i : Nat) : Nat := 0x1008 + i * 0x100
/-- R50. -/
def rdGsetHi (i : Nat) : Nat := 0x100C + i * 0x100
/-- R51. -/
def rdGcntLo (i : Nat) : Nat := 0x1010 + i * 0x100
/-- R51. -/
def rdGcntHi (i : Nat) : Nat := 0x1014 + i * 0x100
/-- R51. -/
def rdBtimeLo (i : Nat) : Nat := 0x1018 + i * 0x100
/-- R51. -/
def rdBtimeHi (i : Nat) : Nat := 0x101C + i * 0x100
/-- R557. -/
def sysPwr : Nat := 0x200
/-- R557. -/
def sysStat : Nat := 0x204
/-- R557. -/
def sysStrap : Nat := 0x208
/-- R557. -/
def sysRstcause : Nat := 0x20C
/-- R530. -/
def ufLatchLo : Nat := 0x2000
/-- R530. -/
def ufLatchHi : Nat := 0x2004
/-- R530. -/
def ufFirst : Nat := 0x2008
/-- R530. -/
def ufFirstt : Nat := 0x200C
/-- R530. -/
def ufTemp : Nat := 0x2010
/-- R530. -/
def ufTwarn : Nat := 0x2014
/-- R334. -/
def fmStat (i : Nat) : Nat := 0x4000 + i * 0x100
/-- R334. -/
def fmEcccnt (i : Nat) : Nat := 0x4004 + i * 0x100
/-- R334. -/
def fmUeaddrLo (i : Nat) : Nat := 0x4008 + i * 0x100
/-- R334. -/
def fmUeaddrHi (i : Nat) : Nat := 0x400C + i * 0x100
/-- R334. -/
def fmScrub (i : Nat) : Nat := 0x4010 + i * 0x100
/-- R432. -/
def hostIfrst0 : Nat := 0x8000
/-- R432. -/
def hostStat0 : Nat := 0x8004
/-- R432. -/
def hostFmap : Nat := 0x8008
/-- R432. -/
def hostDberrcnt0 : Nat := 0x800C
/-- R429. -/
def msixVec0 (i : Nat) : Nat := 0x90000 + i * 0x10
/-- R429. -/
def msixHi0 (i : Nat) : Nat := 0x90004 + i * 0x10
/-- R429. -/
def msixData0 (i : Nat) : Nat := 0x90008 + i * 0x10
/-- R429. -/
def msixCtl0 (i : Nat) : Nat := 0x9000C + i * 0x10
/-- R429. -/
def msixPba0 (i : Nat) : Nat := 0x98000 + i * 0x4
/-- R509. -/
def evtClaim (i : Nat) : Nat := 0x100000 + i * 0x40
/-- R509. -/
def evtDone (i : Nat) : Nat := 0x100004 + i * 0x40
/-- R509. -/
def evtCmask (i : Nat) : Nat := 0x100008 + i * 0x40
/-- R509. -/
def evtCstat (i : Nat) : Nat := 0x10000C + i * 0x40
/-- R509. -/
def evtCentry (i : Nat) : Nat := 0x100010 + i * 0x40
/-- R509. -/
def evtCofs (i : Nat) : Nat := 0x100014 + i * 0x40
/-- R509. -/
def evtCrec (i j : Nat) : Nat := 0x100020 + i * 0x40 + j * 0x4
/-- R511. -/
def evtStat : Nat := 0x102000
/-- R511. -/
def evtGhold (i : Nat) : Nat := 0x102100 + i * 0x4
/-- R511. -/
def evtGdis (i : Nat) : Nat := 0x102200 + i * 0x4
/-- R511. -/
def evtGdis3 : Nat := 0x10220C
/-- R511. -/
def evtPend (i : Nat) : Nat := 0x102300 + i * 0x4
/-- R511. -/
def evtActv (i : Nat) : Nat := 0x102400 + i * 0x4
/-- R510. -/
def evtCfg (i : Nat) : Nat := 0x108000 + i * 0x20
/-- R510. -/
def evtEq (i : Nat) : Nat := 0x108004 + i * 0x20
/-- R510. -/
def evtTgt (i j : Nat) : Nat := 0x108008 + i * 0x20 + j * 0x4
/-- R510. -/
def evtSstat (i : Nat) : Nat := 0x108014 + i * 0x20
/-- R209. -/
def desc (i : Nat) : Nat := 0x200000 + i * 0x4
/-- R174. -/
def bankElig (i j : Nat) : Nat := 0x230000 + i * 0x40 + j * 0x4
/-- R174. -/
def bankEligF (i : Nat) : Nat := 0x230020 + i * 0x40
/-- R479. -/
def staging (i : Nat) : Nat := 0x240000 + i * 0x4
/-- R525. -/
def protCwin : Nat := 0x250000
/-- R525. -/
def protStat : Nat := 0x250004
/-- R525. -/
def protAppcnt : Nat := 0x250008
/-- R525. -/
def protLapcnt : Nat := 0x25000C
/-- R525. -/
def protPid (i : Nat) : Nat := 0x250100 + i * 0x40
/-- R525. -/
def protPinfo (i : Nat) : Nat := 0x250104 + i * 0x40
/-- R525. -/
def protPrange (i : Nat) : Nat := 0x250108 + i * 0x40
/-- R525. -/
def protPcLo (i : Nat) : Nat := 0x250110 + i * 0x40
/-- R525. -/
def protPcHi (i : Nat) : Nat := 0x250114 + i * 0x40
/-- R525. -/
def protPwend (i : Nat) : Nat := 0x250118 + i * 0x40
/-- R525. -/
def protPdigLo (i : Nat) : Nat := 0x250120 + i * 0x40
/-- R525. -/
def protPdigHi (i : Nat) : Nat := 0x250124 + i * 0x40
/-- R139. -/
def fabCtl : Nat := 0x300000
/-- R139. -/
def fabStat : Nat := 0x300004
/-- R139. -/
def fabCollcnt : Nat := 0x300008
/-- R139. -/
def fabDropcnt : Nat := 0x30000C
/-- R139. -/
def fabDenycnt : Nat := 0x300010
/-- R139. -/
def fabNoroutecnt : Nat := 0x300014
/-- R139. -/
def fabWaitmax : Nat := 0x300018
/-- R125. -/
def routePage (i j : Nat) : Nat := 0x380000 + i * 0x40000 + j * 0x4
/-- R118. -/
def pgCtl (i : Nat) : Nat := 0x400000 + i * 0x10000
/-- R118. -/
def pgStat (i : Nat) : Nat := 0x400004 + i * 0x10000
/-- R118. -/
def pgSatcnt (i : Nat) : Nat := 0x400008 + i * 0x10000
/-- R96. -/
def cgCtl (i j : Nat) : Nat := 0x400100 + i * 0x10000 + j * 0x10
/-- R97. -/
def cgStat (i j : Nat) : Nat := 0x400104 + i * 0x10000 + j * 0x10
/-- R97. -/
def cgErrcnt (i j : Nat) : Nat := 0x400108 + i * 0x10000 + j * 0x10
/-- R97. -/
def cgFrame (i j : Nat) : Nat := 0x40010C + i * 0x10000 + j * 0x10
/-- R100. -/
def slotPage0 (i j : Nat) : Nat := 0x404000 + i * 0x10000 + j * 0x4
/-- R100. -/
def slotPage1 (i j : Nat) : Nat := 0x40A000 + i * 0x10000 + j * 0x4
/-- R381. -/
def netCtl : Nat := 0x500000
/-- R381. -/
def netStat : Nat := 0x500004
/-- R381. -/
def netUtimeLo : Nat := 0x500008
/-- R381. -/
def netUtimeHi : Nat := 0x50000C
/-- R381. -/
def netPctl (i : Nat) : Nat := 0x501000 + i * 0x1000
/-- R381. -/
def netPstat (i : Nat) : Nat := 0x501004 + i * 0x1000
/-- R381. -/
def netServo (i : Nat) : Nat := 0x501008 + i * 0x1000
/-- R381. -/
def netOfs (i : Nat) : Nat := 0x50100C + i * 0x1000
/-- R381. -/
def netLatcor (i : Nat) : Nat := 0x501010 + i * 0x1000
/-- R381. -/
def netCbs (i j : Nat) : Nat := 0x501040 + i * 0x1000 + j * 0x4
/-- R381. -/
def netGclCtl (i : Nat) : Nat := 0x501100 + i * 0x1000
/-- R381. -/
def netGclCycle (i : Nat) : Nat := 0x501104 + i * 0x1000
/-- R381. -/
def netGclBaseLo (i : Nat) : Nat := 0x501108 + i * 0x1000
/-- R381. -/
def netGclBaseHi (i : Nat) : Nat := 0x50110C + i * 0x1000
/-- R381. -/
def netGate (i j : Nat) : Nat := 0x501800 + i * 0x1000 + j * 0x4
/-- R380. -/
def netIngress (i j : Nat) : Nat := 0x520000 + i * 0x4000 + j * 0x4
/-- R380. -/
def netEgress (i j : Nat) : Nat := 0x528000 + i * 0x4000 + j * 0x4
/-- R370. -/
def netTmpl (i : Nat) : Nat := 0x530000 + i * 0x4
/-- R381. -/
def netIstat0 (i : Nat) : Nat := 0x540000 + i * 0x8
/-- R381. -/
def netIstat1 (i : Nat) : Nat := 0x540004 + i * 0x8
/-- R381. -/
def netEstat (i : Nat) : Nat := 0x541000 + i * 0x8
/-- R422. -/
def chCtl : Nat := 0x600000
/-- R422. -/
def chStat : Nat := 0x600004
/-- R422. -/
def chPstat (i : Nat) : Nat := 0x600010 + i * 0x10
/-- R422. -/
def chPdelay (i : Nat) : Nat := 0x600014 + i * 0x10
/-- R422. -/
def chRetrycnt (i : Nat) : Nat := 0x600018 + i * 0x10
/-- R422. -/
def twCfg : Nat := 0x600100
/-- R422. -/
def twStat : Nat := 0x600104
/-- R422. -/
def twEpoch : Nat := 0x600108
/-- R422. -/
def twLasthb : Nat := 0x60010C
/-- R422. -/
def twMiscnt : Nat := 0x600110
/-- R422. -/
def twSilmaskLo : Nat := 0x600114
/-- R422. -/
def twSilmaskHi : Nat := 0x600118
/-- R422. -/
def twLane (i : Nat) : Nat := 0x601000 + i * 0x4
/-- R402. -/
def chIngress (i j : Nat) : Nat := 0x602000 + i * 0x400 + j * 0x4
/-- R402. -/
def chEgress (i j : Nat) : Nat := 0x602800 + i * 0x400 + j * 0x4
/-- R422. -/
def chIstat (i : Nat) : Nat := 0x603000 + i * 0x4
/-- R341. -/
def dmaCtl (i : Nat) : Nat := 0x700000 + i * 0x8000
/-- R341. -/
def dmaStat (i : Nat) : Nat := 0x700004 + i * 0x8000
/-- R341. -/
def dmaErraddrLo (i : Nat) : Nat := 0x700008 + i * 0x8000
/-- R341. -/
def dmaErraddrHi (i : Nat) : Nat := 0x70000C + i * 0x8000
/-- R341. -/
def dmaDlcnt (i : Nat) : Nat := 0x700010 + i * 0x8000
/-- R341. -/
def dmaBusycnt (i : Nat) : Nat := 0x700014 + i * 0x8000
/-- R341. -/
def dmaLastg (i : Nat) : Nat := 0x700018 + i * 0x8000
/-- R341. -/
def dmaHostmax (i : Nat) : Nat := 0x70001C + i * 0x8000
/-- R341. -/
def dmaD (i j : Nat) : Nat := 0x700100 + i * 0x8000 + j * 0x4
/-- R341. -/
def dmaProg (i j : Nat) : Nat := 0x704000 + i * 0x8000 + j * 0x4
/-- R203. -/
def coreCfg (i j : Nat) : Nat := 0x800000 + i * 0x40000 + j * 0x4000
/-- R205. -/
def coreStat (i j : Nat) : Nat := 0x800004 + i * 0x40000 + j * 0x4000
/-- R204. -/
def coreCfgact (i j : Nat) : Nat := 0x800008 + i * 0x40000 + j * 0x4000
/-- R232. -/
def fltStat (i j : Nat) : Nat := 0x800100 + i * 0x40000 + j * 0x4000
/-- R232. -/
def fltPc (i j : Nat) : Nat := 0x800104 + i * 0x40000 + j * 0x4000
/-- R232. -/
def fltAddr (i j : Nat) : Nat := 0x800108 + i * 0x40000 + j * 0x4000
/-- R232. -/
def fltDesc (i j : Nat) : Nat := 0x80010C + i * 0x40000 + j * 0x4000
/-- R232. -/
def fltNpc (i j : Nat) : Nat := 0x800110 + i * 0x40000 + j * 0x4000
/-- R232. -/
def fltGsn (i j : Nat) : Nat := 0x800114 + i * 0x40000 + j * 0x4000
/-- R232. -/
def coreFltcnt (i j : Nat) : Nat := 0x800118 + i * 0x40000 + j * 0x4000
/-- R61. -/
def coreGctl (i j : Nat) : Nat := 0x800200 + i * 0x40000 + j * 0x4000
/-- R61. -/
def coreGentry (i j : Nat) : Nat := 0x800204 + i * 0x40000 + j * 0x4000
/-- R61. -/
def grainDl (i j : Nat) : Nat := 0x800208 + i * 0x40000 + j * 0x4000
/-- R61. -/
def coreTrig (i j : Nat) : Nat := 0x80020C + i * 0x40000 + j * 0x4000
/-- R61. -/
def coreTrigLatest (i j : Nat) : Nat := 0x800210 + i * 0x40000 + j * 0x4000
/-- R61. -/
def coreGstat (i j : Nat) : Nat := 0x800214 + i * 0x40000 + j * 0x4000
/-- R61. -/
def coreDlcnt (i j : Nat) : Nat := 0x800218 + i * 0x40000 + j * 0x4000
/-- R61. -/
def coreDllast (i j : Nat) : Nat := 0x80021C + i * 0x40000 + j * 0x4000
/-- R325. -/
def perfCtl (i j : Nat) : Nat := 0x800800 + i * 0x40000 + j * 0x4000
/-- R325. -/
def perfBundles (i j : Nat) : Nat := 0x800804 + i * 0x40000 + j * 0x4000
/-- R325. -/
def perfBubble (i j : Nat) : Nat := 0x800808 + i * 0x40000 + j * 0x4000
/-- R325. -/
def perfMisp (i j : Nat) : Nat := 0x80080C + i * 0x40000 + j * 0x4000
/-- R325. -/
def perfFetch (i j : Nat) : Nat := 0x800810 + i * 0x40000 + j * 0x4000
/-- R325. -/
def perfRot (i j : Nat) : Nat := 0x800814 + i * 0x40000 + j * 0x4000
/-- R325. -/
def perfLine (i j : Nat) : Nat := 0x800818 + i * 0x40000 + j * 0x4000
/-- R325. -/
def perfSb (i j : Nat) : Nat := 0x80081C + i * 0x40000 + j * 0x4000
/-- R325. -/
def perfXb (i j : Nat) : Nat := 0x800820 + i * 0x40000 + j * 0x4000
/-- R325. -/
def perfFwmiss (i j : Nat) : Nat := 0x800824 + i * 0x40000 + j * 0x4000
/-- R325. -/
def perfFwcnt (i j : Nat) : Nat := 0x800828 + i * 0x40000 + j * 0x4000
/-- R325. -/
def perfCtlreg (i j : Nat) : Nat := 0x80082C + i * 0x40000 + j * 0x4000
/-- R325. -/
def perfWait (i j : Nat) : Nat := 0x800830 + i * 0x40000 + j * 0x4000
/-- R325. -/
def perfWpf (i j : Nat) : Nat := 0x800834 + i * 0x40000 + j * 0x4000
/-- R325. -/
def perfGend (i j : Nat) : Nat := 0x800838 + i * 0x40000 + j * 0x4000
/-- R325. -/
def perfGendmax (i j : Nat) : Nat := 0x80083C + i * 0x40000 + j * 0x4000
/-- R177. -/
def bankOwn (i j : Nat) : Nat := 0x820000 + i * 0x40000 + j * 0x4
/-- R184. -/
def bankPwr (i j : Nat) : Nat := 0x820080 + i * 0x40000 + j * 0x4
/-- R187. -/
def bankBusycnt (i j : Nat) : Nat := 0x820100 + i * 0x40000 + j * 0x4
/-- R187. -/
def bankEcccnt (i j : Nat) : Nat := 0x820180 + i * 0x40000 + j * 0x4
/-- R157. -/
def fthCtl (i : Nat) : Nat := 0x830000 + i * 0x40000
/-- R157. -/
def fthStat (i : Nat) : Nat := 0x830004 + i * 0x40000
/-- R157. -/
def fthList (i j : Nat) : Nat := 0x830008 + i * 0x40000 + j * 0x8
/-- R157. -/
def fthRun (i j : Nat) : Nat := 0x83000C + i * 0x40000 + j * 0x8
/-- R157. -/
def fthDln (i j : Nat) : Nat := 0x830018 + i * 0x40000 + j * 0x4
/-- R157. -/
def fthDlcnt (i : Nat) : Nat := 0x830020 + i * 0x40000
/-- R157. -/
def fthErridx (i : Nat) : Nat := 0x830024 + i * 0x40000
/-- R157. -/
def fthClampcnt (i : Nat) : Nat := 0x830028 + i * 0x40000
/-- R157. -/
def fthSatcnt (i : Nat) : Nat := 0x83002C + i * 0x40000
/-- R157. -/
def fthUsed (i : Nat) : Nat := 0x830030 + i * 0x40000
/-- R157. -/
def fthUsedmax (i : Nat) : Nat := 0x830034 + i * 0x40000
/-- R157. -/
def fthLine (i j k : Nat) : Nat := 0x831000 + i * 0x40000 + j * 0x1000 + k * 0x4
/-- R157. -/
def fthCoef (i j k : Nat) : Nat := 0x833000 + i * 0x40000 + j * 0x1000 + k * 0x4
/-- R207. -/
def benchCtl (i : Nat) : Nat := 0x838000 + i * 0x40000
/-- R207. -/
def benchStat (i : Nat) : Nat := 0x838004 + i * 0x40000
/-- R558. -/
def benchClk (i : Nat) : Nat := 0x838010 + i * 0x40000
/-- R558. -/
def benchClkstat (i : Nat) : Nat := 0x838014 + i * 0x40000
/-- R558. -/
def benchPwr (i : Nat) : Nat := 0x838018 + i * 0x40000
/-- R558. -/
def benchRst (i : Nat) : Nat := 0x83801C + i * 0x40000
/-- R339. -/
def fwcCtl (i : Nat) : Nat := 0x839000 + i * 0x40000
/-- R339. -/
def fwcStat (i : Nat) : Nat := 0x839004 + i * 0x40000
/-- R339. -/
def fwcUecnt (i : Nat) : Nat := 0x839008 + i * 0x40000
/-- R592. -/
def spallCtl : Nat := 0xC00000
/-- R592. -/
def spallStat : Nat := 0xC00004
/-- R592. -/
def spallPeriods : Nat := 0xC00008
/-- R592. -/
def spallFailcnt : Nat := 0xC0000C
/-- R592. -/
def spallProgress : Nat := 0xC00010
/-- R592. -/
def spallSkip : Nat := 0xC00014
/-- R592. -/
def spallLastf0 : Nat := 0xC00018
/-- R592. -/
def spallLastf1 : Nat := 0xC0001C
/-- R577. -/
def dbgStat : Nat := 0xC80000
/-- R577. -/
def dbgCtl : Nat := 0xC80004
/-- R577. -/
def dbgHalt (i : Nat) : Nat := 0xC80008 + i * 0x4
/-- R577. -/
def mspCfg : Nat := 0xC80014
/-- R435. -/
def qCtl (i : Nat) : Nat := 0x1000000 + i * 0x100
/-- R435. -/
def qSize (i : Nat) : Nat := 0x1000004 + i * 0x100
/-- R435. -/
def qBaseLo (i : Nat) : Nat := 0x1000008 + i * 0x100
/-- R435. -/
def qBaseHi (i : Nat) : Nat := 0x100000C + i * 0x100
/-- R435. -/
def qLink (i : Nat) : Nat := 0x1000010 + i * 0x100
/-- R435. -/
def qIrq (i : Nat) : Nat := 0x1000014 + i * 0x100
/-- R435. -/
def qMod (i : Nat) : Nat := 0x1000018 + i * 0x100
/-- R435. -/
def qBind (i : Nat) : Nat := 0x100001C + i * 0x100
/-- R435. -/
def qHead (i : Nat) : Nat := 0x1000020 + i * 0x100
/-- R435. -/
def qTail (i : Nat) : Nat := 0x1000024 + i * 0x100
/-- R435. -/
def qStat (i : Nat) : Nat := 0x1000028 + i * 0x100
/-- R435. -/
def qSeqhi (i : Nat) : Nat := 0x100002C + i * 0x100
/-- R435. -/
def qDupcnt (i : Nat) : Nat := 0x1000030 + i * 0x100
/-- R435. -/
def qStalecnt (i : Nat) : Nat := 0x1000034 + i * 0x100
/-- R435. -/
def qFullcnt (i : Nat) : Nat := 0x1000038 + i * 0x100
/-- R428. -/
def hostIfrst1 : Nat := 0x100000000
/-- R428. -/
def hostStat1 : Nat := 0x100000004
/-- R428. -/
def hostDberrcnt1 : Nat := 0x10000000C
/-- R562. -/
def mbxCtl : Nat := 0x100001000
/-- R562. -/
def mbxStat : Nat := 0x100001004
/-- R562. -/
def mbxReqlen : Nat := 0x100001008
/-- R562. -/
def mbxRpllen : Nat := 0x10000100C
/-- R562. -/
def mbxIrq : Nat := 0x100001010
/-- R562. -/
def mbxReq (i : Nat) : Nat := 0x100002000 + i * 0x4
/-- R562. -/
def mbxRpl (i : Nat) : Nat := 0x100004000 + i * 0x4
/-- R429. -/
def msixVec1 (i : Nat) : Nat := 0x100008000 + i * 0x10
/-- R429. -/
def msixHi1 (i : Nat) : Nat := 0x100008004 + i * 0x10
/-- R429. -/
def msixData1 (i : Nat) : Nat := 0x100008008 + i * 0x10
/-- R429. -/
def msixCtl1 (i : Nat) : Nat := 0x10000800C + i * 0x10
/-- R429. -/
def msixPba1 (i : Nat) : Nat := 0x100009000 + i * 0x4

end A

/-! ## The maps -/

/-- Register maps, part 0: rdCtl (R48) to hostIfrst0 (R432). -/
def regMap0 : List Reg :=
  [ ⟨0x1000, [(0x100, 4)], [⟨0, 1, .rw, 0⟩, ⟨1, 3, .rw, 3⟩, ⟨4, 2, .rw, 0⟩, ⟨6, 3, .rw, 0⟩, ⟨9, 3, .rw, 3⟩, ⟨12, 2, .rw, 0⟩, ⟨14, 1, .wo, 0⟩]⟩,
    ⟨0x1004, [(0x100, 4)], [⟨0, 2, .ro, 0⟩, ⟨2, 1, .ro, 0⟩, ⟨3, 1, .ro, 0⟩, ⟨4, 1, .ro, 0⟩, ⟨16, 16, .ro, 0⟩]⟩,
    ⟨0x1008, [(0x100, 4)], [⟨0, 32, .rw, 0⟩]⟩,
    ⟨0x100C, [(0x100, 4)], [⟨0, 32, .rw, 0⟩]⟩,
    ⟨0x1010, [(0x100, 4)], [⟨0, 32, .rs, 0⟩]⟩,
    ⟨0x1014, [(0x100, 4)], [⟨0, 32, .ro, 0⟩]⟩,
    ⟨0x1018, [(0x100, 4)], [⟨0, 32, .rs, 0⟩]⟩,
    ⟨0x101C, [(0x100, 4)], [⟨0, 32, .ro, 0⟩]⟩,
    ⟨0x200, [], [⟨0, 1, .rw, 0⟩, ⟨1, 1, .w1c, 0⟩, ⟨2, 2, .ro, 2⟩]⟩,
    ⟨0x204, [], [⟨0, 2, .ro, 0⟩]⟩,
    ⟨0x208, [], [⟨0, 1, .ro, 0⟩, ⟨1, 2, .ro, 0⟩, ⟨3, 1, .ro, 0⟩, ⟨4, 1, .ro, 0⟩]⟩,
    ⟨0x20C, [], [⟨0, 3, .ro, 0⟩, ⟨8, 2, .ro, 0⟩]⟩,
    ⟨0x2000, [], [⟨0, 32, .w1c, 0⟩]⟩,
    ⟨0x2004, [], [⟨0, 32, .w1c, 0⟩]⟩,
    ⟨0x2008, [], [⟨0, 6, .ro, 0⟩, ⟨6, 1, .w1c, 0⟩]⟩,
    ⟨0x200C, [], [⟨0, 32, .ro, 0⟩]⟩,
    ⟨0x2010, [], [⟨0, 16, .ro, 0⟩, ⟨16, 5, .ro, 0⟩]⟩,
    ⟨0x2014, [], [⟨0, 8, .rw, 0x64⟩]⟩,
    ⟨0x4000, [(0x100, 4)], [⟨0, 2, .ro, 0⟩, ⟨2, 1, .ro, 0⟩]⟩,
    ⟨0x4004, [(0x100, 4)], [⟨0, 16, .rc, 0⟩, ⟨16, 16, .rc, 0⟩]⟩,
    ⟨0x4008, [(0x100, 4)], [⟨0, 32, .rs, 0⟩]⟩,
    ⟨0x400C, [(0x100, 4)], [⟨0, 16, .ro, 0⟩]⟩,
    ⟨0x4010, [(0x100, 4)], [⟨0, 1, .rw, 1⟩]⟩,
    ⟨0x8000, [], [⟨0, 8, .wo, 0⟩, ⟨8, 1, .ro, 0⟩]⟩ ]

/-- Register maps, part 1: hostStat0 (R432) to evtTgt (R510). -/
def regMap1 : List Reg :=
  [ ⟨0x8004, [], [⟨0, 3, .ro, 0⟩, ⟨3, 5, .ro, 0⟩, ⟨8, 1, .ro, 0⟩, ⟨9, 2, .ro, 0⟩, ⟨11, 1, .ro, 0⟩]⟩,
    ⟨0x8008, [], [⟨0, 8, .rw, 0⟩]⟩,
    ⟨0x800C, [], [⟨0, 32, .rc, 0⟩]⟩,
    ⟨0x90000, [(0x10, 1792)], [⟨0, 32, .rw, 0⟩]⟩,
    ⟨0x90004, [(0x10, 1792)], [⟨0, 32, .rw, 0⟩]⟩,
    ⟨0x90008, [(0x10, 1792)], [⟨0, 32, .rw, 0⟩]⟩,
    ⟨0x9000C, [(0x10, 1792)], [⟨0, 1, .rw, 1⟩]⟩,
    ⟨0x98000, [(0x4, 56)], [⟨0, 32, .ro, 0⟩]⟩,
    ⟨0x100000, [(0x40, 96)], [⟨0, 16, .rs, 0xFFFF⟩]⟩,
    ⟨0x100004, [(0x40, 96)], [⟨0, 10, .wo, 0⟩]⟩,
    ⟨0x100008, [(0x40, 96)], [⟨0, 1, .rw, 0⟩]⟩,
    ⟨0x10000C, [(0x40, 96)], [⟨0, 10, .ro, 0⟩, ⟨10, 1, .ro, 0⟩, ⟨11, 1, .w1c, 0⟩, ⟨12, 1, .w1c, 0⟩, ⟨13, 1, .ro, 0⟩, ⟨14, 1, .w1c, 0⟩]⟩,
    ⟨0x100010, [(0x40, 96)], [⟨0, 1, .rw, 0⟩, ⟨1, 7, .rw, 0⟩]⟩,
    ⟨0x100014, [(0x40, 96)], [⟨2, 30, .rw, 0⟩]⟩,
    ⟨0x100020, [(0x40, 96), (0x4, 4)], [⟨0, 32, .ro, 0⟩]⟩,
    ⟨0x102000, [], [⟨0, 11, .ro, 0⟩]⟩,
    ⟨0x102100, [(0x4, 64)], [⟨0, 16, .rw, 0⟩, ⟨16, 16, .rw, 0⟩]⟩,
    ⟨0x102200, [(0x4, 3)], [⟨0, 32, .rw, 0⟩]⟩,
    ⟨0x10220C, [], [⟨0, 2, .rw, 0⟩]⟩,
    ⟨0x102300, [(0x4, 32)], [⟨0, 32, .w1c, 0⟩]⟩,
    ⟨0x102400, [(0x4, 32)], [⟨0, 32, .ro, 0⟩]⟩,
    ⟨0x108000, [(0x20, 1024)], [⟨0, 1, .rw, 0⟩, ⟨1, 1, .rw, 0⟩, ⟨4, 8, .rw, 0⟩, ⟨12, 16, .rw, 0⟩]⟩,
    ⟨0x108004, [(0x20, 1024)], [⟨0, 16, .rw, 0⟩, ⟨16, 2, .rw, 0⟩]⟩,
    ⟨0x108008, [(0x20, 1024), (0x4, 3)], [⟨0, 32, .rw, 0⟩]⟩ ]

/-- Register maps, part 2: evtSstat (R510) to fabWaitmax (R139). -/
def regMap2 : List Reg :=
  [ ⟨0x108014, [(0x20, 1024)], [⟨0, 2, .ro, 0⟩, ⟨2, 1, .ro, 0⟩, ⟨3, 1, .ro, 0⟩, ⟨8, 8, .ro, 0⟩, ⟨16, 7, .ro, 0⟩]⟩,
    ⟨0x200000, [(0x4, 49152)], [⟨0, 32, .ro, 0⟩]⟩,
    ⟨0x230000, [(0x40, 384), (0x4, 8)], [⟨0, 32, .ro, 0⟩]⟩,
    ⟨0x230020, [(0x40, 384)], [⟨0, 1, .ro, 0⟩, ⟨1, 1, .ro, 0⟩]⟩,
    ⟨0x240000, [(0x4, 16384)], [⟨0, 32, .rw, 0⟩]⟩,
    ⟨0x250000, [], [⟨0, 22, .rw, 0x1E8480⟩]⟩,
    ⟨0x250004, [], [⟨0, 5, .ro, 0⟩, ⟨5, 1, .ro, 0⟩]⟩,
    ⟨0x250008, [], [⟨0, 32, .rc, 0⟩]⟩,
    ⟨0x25000C, [], [⟨0, 32, .rc, 0⟩]⟩,
    ⟨0x250100, [(0x40, 16)], [⟨0, 32, .ro, 0⟩]⟩,
    ⟨0x250104, [(0x40, 16)], [⟨0, 8, .ro, 0⟩, ⟨8, 2, .ro, 0⟩, ⟨10, 2, .ro, 0⟩]⟩,
    ⟨0x250108, [(0x40, 16)], [⟨0, 16, .ro, 0⟩, ⟨16, 16, .ro, 0⟩]⟩,
    ⟨0x250110, [(0x40, 16)], [⟨0, 32, .ro, 0⟩]⟩,
    ⟨0x250114, [(0x40, 16)], [⟨0, 32, .ro, 0⟩]⟩,
    ⟨0x250118, [(0x40, 16)], [⟨0, 32, .ro, 0⟩]⟩,
    ⟨0x250120, [(0x40, 16)], [⟨0, 32, .ro, 0⟩]⟩,
    ⟨0x250124, [(0x40, 16)], [⟨0, 32, .ro, 0⟩]⟩,
    ⟨0x300000, [], [⟨0, 1, .ro, 0⟩, ⟨1, 1, .rw, 0⟩]⟩,
    ⟨0x300004, [], [⟨0, 1, .w1c, 0⟩, ⟨1, 1, .w1c, 0⟩, ⟨2, 1, .ro, 0⟩, ⟨16, 14, .ro, 0⟩]⟩,
    ⟨0x300008, [], [⟨0, 32, .rc, 0⟩]⟩,
    ⟨0x30000C, [], [⟨0, 32, .rc, 0⟩]⟩,
    ⟨0x300010, [], [⟨0, 32, .rc, 0⟩]⟩,
    ⟨0x300014, [], [⟨0, 32, .rc, 0⟩]⟩,
    ⟨0x300018, [], [⟨0, 16, .rc, 0⟩, ⟨16, 6, .rc, 0⟩]⟩ ]

/-- Register maps, part 3: routePage (R125) to netGclBaseHi (R381). -/
def regMap3 : List Reg :=
  [ ⟨0x380000, [(0x40000, 2), (0x4, 65536)], [⟨0, 32, .rw, 0⟩]⟩,
    ⟨0x400000, [(0x10000, 16)], [⟨0, 1, .ro, 0⟩, ⟨1, 1, .rw, 0⟩]⟩,
    ⟨0x400004, [(0x10000, 16)], [⟨0, 1, .w1c, 0⟩, ⟨1, 1, .w1c, 0⟩, ⟨2, 1, .w1c, 0⟩, ⟨3, 1, .ro, 0⟩, ⟨4, 1, .ro, 0⟩, ⟨16, 11, .ro, 0⟩]⟩,
    ⟨0x400008, [(0x10000, 16)], [⟨0, 32, .rc, 0⟩]⟩,
    ⟨0x400100, [(0x10000, 16), (0x10, 8)], [⟨0, 1, .rw, 0⟩, ⟨1, 1, .rw, 0⟩, ⟨2, 2, .rw, 0⟩, ⟨4, 2, .rw, 0⟩, ⟨6, 1, .rw, 1⟩, ⟨7, 1, .rw, 0⟩, ⟨8, 2, .rw, 2⟩, ⟨10, 6, .rw, 0xF⟩]⟩,
    ⟨0x400104, [(0x10000, 16), (0x10, 8)], [⟨0, 2, .ro, 0⟩, ⟨2, 1, .w1c, 0⟩]⟩,
    ⟨0x400108, [(0x10000, 16), (0x10, 8)], [⟨0, 16, .rc, 0⟩, ⟨16, 16, .rc, 0⟩]⟩,
    ⟨0x40010C, [(0x10000, 16), (0x10, 8)], [⟨0, 32, .ro, 0⟩]⟩,
    ⟨0x404000, [(0x10000, 16), (0x4, 5120)], [⟨0, 32, .rw, 0⟩]⟩,
    ⟨0x40A000, [(0x10000, 16), (0x4, 5120)], [⟨0, 32, .rw, 0⟩]⟩,
    ⟨0x500000, [], [⟨0, 4, .rw, 0xF⟩, ⟨4, 1, .rw, 0⟩]⟩,
    ⟨0x500004, [], [⟨0, 1, .w1c, 0⟩, ⟨1, 1, .w1c, 0⟩, ⟨2, 1, .ro, 0⟩, ⟨3, 1, .ro, 0⟩, ⟨16, 9, .ro, 0⟩]⟩,
    ⟨0x500008, [], [⟨0, 32, .rs, 0⟩]⟩,
    ⟨0x50000C, [], [⟨0, 32, .ro, 0⟩]⟩,
    ⟨0x501000, [(0x1000, 8)], [⟨0, 1, .rw, 0⟩, ⟨1, 1, .rw, 1⟩, ⟨2, 1, .rw, 1⟩, ⟨3, 2, .rw, 2⟩, ⟨5, 1, .rw, 0⟩]⟩,
    ⟨0x501004, [(0x1000, 8)], [⟨0, 1, .ro, 0⟩, ⟨1, 1, .w1c, 0⟩, ⟨16, 16, .rc, 0⟩]⟩,
    ⟨0x501008, [(0x1000, 8)], [⟨0, 3, .ro, 0⟩]⟩,
    ⟨0x50100C, [(0x1000, 8)], [⟨0, 32, .ro, 0⟩]⟩,
    ⟨0x501010, [(0x1000, 8)], [⟨0, 16, .rw, 0⟩, ⟨16, 16, .rw, 0⟩]⟩,
    ⟨0x501040, [(0x1000, 8), (0x4, 8)], [⟨0, 17, .rw, 0⟩]⟩,
    ⟨0x501100, [(0x1000, 8)], [⟨0, 1, .rw, 0⟩, ⟨1, 1, .wo, 0⟩, ⟨2, 1, .ro, 0⟩, ⟨3, 8, .rw, 0⟩]⟩,
    ⟨0x501104, [(0x1000, 8)], [⟨0, 32, .rw, 0⟩]⟩,
    ⟨0x501108, [(0x1000, 8)], [⟨0, 32, .rw, 0⟩]⟩,
    ⟨0x50110C, [(0x1000, 8)], [⟨0, 32, .rw, 0⟩]⟩ ]

/-- Register maps, part 4: netGate (R381) to dmaCtl (R341). -/
def regMap4 : List Reg :=
  [ ⟨0x501800, [(0x1000, 8), (0x4, 256)], [⟨0, 8, .rw, 0⟩, ⟨8, 24, .rw, 0⟩]⟩,
    ⟨0x520000, [(0x4000, 2), (0x4, 4096)], [⟨0, 32, .rw, 0⟩]⟩,
    ⟨0x528000, [(0x4000, 2), (0x4, 4096)], [⟨0, 32, .rw, 0⟩]⟩,
    ⟨0x530000, [(0x4, 8192)], [⟨0, 32, .rw, 0⟩]⟩,
    ⟨0x540000, [(0x8, 512)], [⟨0, 16, .rc, 0⟩, ⟨16, 16, .rc, 0⟩]⟩,
    ⟨0x540004, [(0x8, 512)], [⟨0, 16, .rc, 0⟩]⟩,
    ⟨0x541000, [(0x8, 512)], [⟨0, 16, .rc, 0⟩]⟩,
    ⟨0x600000, [], [⟨0, 1, .rw, 1⟩, ⟨1, 1, .wo, 0⟩]⟩,
    ⟨0x600004, [], [⟨0, 6, .ro, 0⟩, ⟨6, 1, .ro, 0⟩, ⟨7, 1, .ro, 0⟩, ⟨8, 2, .ro, 0⟩, ⟨10, 1, .w1c, 0⟩, ⟨11, 1, .w1c, 0⟩, ⟨12, 1, .w1c, 0⟩, ⟨13, 1, .w1c, 0⟩, ⟨14, 1, .ro, 0⟩, ⟨15, 1, .ro, 0⟩, ⟨16, 7, .ro, 0⟩, ⟨24, 6, .ro, 0⟩]⟩,
    ⟨0x600010, [(0x10, 4)], [⟨0, 2, .ro, 0⟩, ⟨16, 16, .rc, 0⟩]⟩,
    ⟨0x600014, [(0x10, 4)], [⟨0, 16, .ro, 0⟩]⟩,
    ⟨0x600018, [(0x10, 4)], [⟨0, 32, .rc, 0⟩]⟩,
    ⟨0x600100, [], [⟨0, 2, .rw, 0⟩, ⟨16, 16, .rw, 0x400⟩]⟩,
    ⟨0x600104, [], [⟨0, 3, .ro, 0⟩, ⟨3, 1, .ro, 0⟩, ⟨4, 1, .ro, 0⟩, ⟨8, 3, .ro, 0⟩]⟩,
    ⟨0x600108, [], [⟨0, 32, .ro, 0⟩]⟩,
    ⟨0x60010C, [], [⟨0, 32, .ro, 0⟩]⟩,
    ⟨0x600110, [], [⟨0, 32, .rc, 0⟩]⟩,
    ⟨0x600114, [], [⟨0, 32, .rw, 0⟩]⟩,
    ⟨0x600118, [], [⟨0, 32, .rw, 0⟩]⟩,
    ⟨0x601000, [(0x4, 64)], [⟨0, 32, .ro, 0⟩]⟩,
    ⟨0x602000, [(0x400, 2), (0x4, 256)], [⟨0, 32, .rw, 0⟩]⟩,
    ⟨0x602800, [(0x400, 2), (0x4, 256)], [⟨0, 32, .rw, 0⟩]⟩,
    ⟨0x603000, [(0x4, 64)], [⟨0, 16, .rc, 0⟩, ⟨16, 16, .rc, 0⟩]⟩,
    ⟨0x700000, [(0x8000, 32)], [⟨0, 1, .wo, 0⟩, ⟨1, 1, .wo, 0⟩, ⟨2, 1, .rw, 0⟩, ⟨3, 1, .rw, 0⟩, ⟨8, 8, .rw, 0⟩]⟩ ]

/-- Register maps, part 5: dmaStat (R341) to coreTrigLatest (R61). -/
def regMap5 : List Reg :=
  [ ⟨0x700004, [(0x8000, 32)], [⟨0, 2, .ro, 0⟩, ⟨2, 1, .w1c, 0⟩, ⟨3, 1, .w1c, 0⟩, ⟨4, 1, .ro, 0⟩, ⟨8, 8, .ro, 0⟩, ⟨16, 4, .ro, 0⟩, ⟨20, 7, .ro, 0⟩]⟩,
    ⟨0x700008, [(0x8000, 32)], [⟨0, 32, .rs, 0⟩]⟩,
    ⟨0x70000C, [(0x8000, 32)], [⟨0, 32, .ro, 0⟩]⟩,
    ⟨0x700010, [(0x8000, 32)], [⟨0, 32, .rc, 0⟩]⟩,
    ⟨0x700014, [(0x8000, 32)], [⟨0, 32, .rc, 0⟩]⟩,
    ⟨0x700018, [(0x8000, 32)], [⟨0, 32, .ro, 0⟩]⟩,
    ⟨0x70001C, [(0x8000, 32)], [⟨0, 32, .rc, 0⟩]⟩,
    ⟨0x700100, [(0x8000, 32), (0x4, 16)], [⟨0, 32, .rw, 0⟩]⟩,
    ⟨0x704000, [(0x8000, 32), (0x4, 512)], [⟨0, 32, .rw, 0⟩]⟩,
    ⟨0x800000, [(0x40000, 12), (0x4000, 8)], [⟨0, 1, .rw, 0⟩, ⟨1, 1, .rw, 0⟩, ⟨2, 1, .rw, 0⟩, ⟨3, 1, .rw, 0⟩, ⟨4, 1, .rw, 0⟩, ⟨5, 2, .rw, 0⟩]⟩,
    ⟨0x800004, [(0x40000, 12), (0x4000, 8)], [⟨0, 3, .ro, 0⟩]⟩,
    ⟨0x800008, [(0x40000, 12), (0x4000, 8)], [⟨0, 1, .ro, 0⟩, ⟨1, 1, .ro, 0⟩, ⟨2, 1, .ro, 0⟩, ⟨3, 1, .ro, 0⟩, ⟨4, 1, .ro, 0⟩, ⟨5, 2, .ro, 0⟩]⟩,
    ⟨0x800100, [(0x40000, 12), (0x4000, 8)], [⟨0, 1, .w1c, 0⟩, ⟨1, 1, .w1c, 0⟩, ⟨8, 8, .ro, 0⟩, ⟨16, 3, .ro, 0⟩, ⟨19, 1, .ro, 0⟩, ⟨20, 1, .ro, 0⟩, ⟨21, 1, .ro, 0⟩, ⟨22, 4, .ro, 0⟩, ⟨26, 3, .ro, 0⟩]⟩,
    ⟨0x800104, [(0x40000, 12), (0x4000, 8)], [⟨0, 32, .ro, 0⟩]⟩,
    ⟨0x800108, [(0x40000, 12), (0x4000, 8)], [⟨0, 32, .ro, 0⟩]⟩,
    ⟨0x80010C, [(0x40000, 12), (0x4000, 8)], [⟨0, 7, .ro, 0⟩, ⟨16, 16, .ro, 0⟩]⟩,
    ⟨0x800110, [(0x40000, 12), (0x4000, 8)], [⟨0, 32, .ro, 0⟩]⟩,
    ⟨0x800114, [(0x40000, 12), (0x4000, 8)], [⟨0, 32, .ro, 0⟩]⟩,
    ⟨0x800118, [(0x40000, 12), (0x4000, 8)], [⟨0, 32, .rc, 0⟩]⟩,
    ⟨0x800200, [(0x40000, 12), (0x4000, 8)], [⟨0, 1, .rw, 0⟩, ⟨1, 1, .rw, 0⟩, ⟨2, 1, .rw, 0⟩, ⟨4, 7, .rw, 0⟩]⟩,
    ⟨0x800204, [(0x40000, 12), (0x4000, 8)], [⟨2, 30, .rw, 0⟩]⟩,
    ⟨0x800208, [(0x40000, 12), (0x4000, 8)], [⟨0, 16, .rw, 0⟩]⟩,
    ⟨0x80020C, [(0x40000, 12), (0x4000, 8)], [⟨2, 26, .rw, 0⟩]⟩,
    ⟨0x800210, [(0x40000, 12), (0x4000, 8)], [⟨0, 16, .rw, 0⟩]⟩ ]

/-- Register maps, part 6: coreGstat (R61) to fthCtl (R157). -/
def regMap6 : List Reg :=
  [ ⟨0x800214, [(0x40000, 12), (0x4000, 8)], [⟨0, 1, .ro, 0⟩, ⟨1, 1, .ro, 0⟩, ⟨2, 1, .ro, 0⟩, ⟨3, 1, .ro, 0⟩]⟩,
    ⟨0x800218, [(0x40000, 12), (0x4000, 8)], [⟨0, 32, .rc, 0⟩]⟩,
    ⟨0x80021C, [(0x40000, 12), (0x4000, 8)], [⟨0, 32, .ro, 0⟩]⟩,
    ⟨0x800800, [(0x40000, 12), (0x4000, 8)], [⟨0, 1, .rw, 0⟩, ⟨1, 1, .rw, 0⟩, ⟨2, 1, .wo, 0⟩]⟩,
    ⟨0x800804, [(0x40000, 12), (0x4000, 8)], [⟨0, 32, .ro, 0⟩]⟩,
    ⟨0x800808, [(0x40000, 12), (0x4000, 8)], [⟨0, 32, .ro, 0⟩]⟩,
    ⟨0x80080C, [(0x40000, 12), (0x4000, 8)], [⟨0, 32, .ro, 0⟩]⟩,
    ⟨0x800810, [(0x40000, 12), (0x4000, 8)], [⟨0, 32, .ro, 0⟩]⟩,
    ⟨0x800814, [(0x40000, 12), (0x4000, 8)], [⟨0, 32, .ro, 0⟩]⟩,
    ⟨0x800818, [(0x40000, 12), (0x4000, 8)], [⟨0, 32, .ro, 0⟩]⟩,
    ⟨0x80081C, [(0x40000, 12), (0x4000, 8)], [⟨0, 32, .ro, 0⟩]⟩,
    ⟨0x800820, [(0x40000, 12), (0x4000, 8)], [⟨0, 32, .ro, 0⟩]⟩,
    ⟨0x800824, [(0x40000, 12), (0x4000, 8)], [⟨0, 32, .ro, 0⟩]⟩,
    ⟨0x800828, [(0x40000, 12), (0x4000, 8)], [⟨0, 16, .ro, 0⟩, ⟨16, 16, .ro, 0⟩]⟩,
    ⟨0x80082C, [(0x40000, 12), (0x4000, 8)], [⟨0, 32, .ro, 0⟩]⟩,
    ⟨0x800830, [(0x40000, 12), (0x4000, 8)], [⟨0, 32, .ro, 0⟩]⟩,
    ⟨0x800834, [(0x40000, 12), (0x4000, 8)], [⟨0, 32, .ro, 0⟩]⟩,
    ⟨0x800838, [(0x40000, 12), (0x4000, 8)], [⟨0, 16, .ro, 0⟩]⟩,
    ⟨0x80083C, [(0x40000, 12), (0x4000, 8)], [⟨0, 16, .rc, 0⟩]⟩,
    ⟨0x820000, [(0x40000, 12), (0x4, 32)], [⟨0, 8, .ro, 0xFF⟩, ⟨8, 8, .ro, 0xFF⟩, ⟨16, 1, .ro, 0⟩, ⟨23, 1, .wo, 0⟩, ⟨24, 8, .wo, 0⟩]⟩,
    ⟨0x820080, [(0x40000, 12), (0x4, 32)], [⟨0, 2, .rw, 0⟩, ⟨4, 2, .ro, 0⟩]⟩,
    ⟨0x820100, [(0x40000, 12), (0x4, 32)], [⟨0, 32, .rc, 0⟩]⟩,
    ⟨0x820180, [(0x40000, 12), (0x4, 32)], [⟨0, 16, .rc, 0⟩, ⟨16, 16, .rc, 0⟩]⟩,
    ⟨0x830000, [(0x40000, 12)], [⟨0, 1, .ro, 0⟩, ⟨1, 1, .rw, 0⟩]⟩ ]

/-- Register maps, part 7: fthStat (R157) to spallPeriods (R592). -/
def regMap7 : List Reg :=
  [ ⟨0x830004, [(0x40000, 12)], [⟨0, 1, .w1c, 0⟩, ⟨1, 1, .w1c, 0⟩, ⟨2, 1, .ro, 0⟩, ⟨3, 1, .ro, 0⟩, ⟨4, 1, .ro, 0⟩]⟩,
    ⟨0x830008, [(0x40000, 12), (0x8, 2)], [⟨4, 22, .rw, 0⟩]⟩,
    ⟨0x83000C, [(0x40000, 12), (0x8, 2)], [⟨0, 18, .rw, 0⟩, ⟨18, 1, .rw, 0⟩, ⟨19, 1, .rw, 0⟩]⟩,
    ⟨0x830018, [(0x40000, 12), (0x4, 2)], [⟨0, 16, .rw, 0⟩]⟩,
    ⟨0x830020, [(0x40000, 12)], [⟨0, 32, .rc, 0⟩]⟩,
    ⟨0x830024, [(0x40000, 12)], [⟨0, 18, .ro, 0⟩]⟩,
    ⟨0x830028, [(0x40000, 12)], [⟨0, 32, .rc, 0⟩]⟩,
    ⟨0x83002C, [(0x40000, 12)], [⟨0, 32, .rc, 0⟩]⟩,
    ⟨0x830030, [(0x40000, 12)], [⟨0, 16, .ro, 0⟩]⟩,
    ⟨0x830034, [(0x40000, 12)], [⟨0, 16, .rc, 0⟩]⟩,
    ⟨0x831000, [(0x40000, 12), (0x1000, 2), (0x4, 1024)], [⟨0, 32, .rw, 0⟩]⟩,
    ⟨0x833000, [(0x40000, 12), (0x1000, 2), (0x4, 1024)], [⟨0, 32, .rw, 0⟩]⟩,
    ⟨0x838000, [(0x40000, 12)], [⟨0, 2, .rw, 0⟩]⟩,
    ⟨0x838004, [(0x40000, 12)], [⟨0, 1, .w1c, 0⟩]⟩,
    ⟨0x838010, [(0x40000, 12)], [⟨0, 11, .rw, 0x3E8⟩]⟩,
    ⟨0x838014, [(0x40000, 12)], [⟨0, 11, .ro, 0x3E8⟩, ⟨11, 1, .ro, 1⟩, ⟨12, 1, .ro, 0⟩]⟩,
    ⟨0x838018, [(0x40000, 12)], [⟨0, 2, .rw, 0⟩, ⟨2, 1, .w1c, 0⟩, ⟨4, 3, .ro, 1⟩]⟩,
    ⟨0x83801C, [(0x40000, 12)], [⟨0, 1, .wo, 0⟩, ⟨1, 1, .ro, 0⟩]⟩,
    ⟨0x839000, [(0x40000, 12)], [⟨0, 1, .wo, 0⟩]⟩,
    ⟨0x839004, [(0x40000, 12)], [⟨0, 1, .ro, 0⟩]⟩,
    ⟨0x839008, [(0x40000, 12)], [⟨0, 16, .rc, 0⟩]⟩,
    ⟨0xC00000, [], [⟨0, 1, .rw, 1⟩, ⟨1, 2, .rw, 0⟩]⟩,
    ⟨0xC00004, [], [⟨0, 1, .ro, 0⟩, ⟨1, 1, .ro, 0⟩, ⟨2, 9, .ro, 0⟩, ⟨11, 7, .ro, 0⟩]⟩,
    ⟨0xC00008, [], [⟨0, 32, .ro, 0⟩]⟩ ]

/-- Register maps, part 8: spallFailcnt (R592) to qFullcnt (R435). -/
def regMap8 : List Reg :=
  [ ⟨0xC0000C, [], [⟨0, 32, .ro, 0⟩]⟩,
    ⟨0xC00010, [], [⟨0, 20, .ro, 0⟩]⟩,
    ⟨0xC00014, [], [⟨0, 12, .ro, 0⟩]⟩,
    ⟨0xC00018, [], [⟨0, 16, .ro, 0⟩, ⟨16, 4, .ro, 0⟩]⟩,
    ⟨0xC0001C, [], [⟨0, 32, .ro, 0⟩]⟩,
    ⟨0xC80000, [], [⟨0, 2, .ro, 0⟩, ⟨2, 1, .ro, 0⟩, ⟨3, 1, .ro, 0⟩]⟩,
    ⟨0xC80004, [], [⟨0, 1, .rw, 0⟩]⟩,
    ⟨0xC80008, [(0x4, 3)], [⟨0, 32, .ro, 0⟩]⟩,
    ⟨0xC80014, [], [⟨0, 3, .rw, 0⟩, ⟨16, 16, .rc, 0⟩]⟩,
    ⟨0x1000000, [(0x100, 65536)], [⟨0, 1, .rw, 0⟩, ⟨1, 2, .rw, 0⟩, ⟨3, 1, .rw, 0⟩, ⟨4, 1, .wo, 0⟩]⟩,
    ⟨0x1000004, [(0x100, 65536)], [⟨0, 16, .rw, 0⟩]⟩,
    ⟨0x1000008, [(0x100, 65536)], [⟨0, 32, .rw, 0⟩]⟩,
    ⟨0x100000C, [(0x100, 65536)], [⟨0, 32, .rw, 0⟩]⟩,
    ⟨0x1000010, [(0x100, 65536)], [⟨0, 16, .rw, 0⟩]⟩,
    ⟨0x1000014, [(0x100, 65536)], [⟨0, 11, .rw, 0⟩, ⟨11, 1, .rw, 0⟩]⟩,
    ⟨0x1000018, [(0x100, 65536)], [⟨0, 16, .rw, 0⟩, ⟨16, 16, .rw, 0⟩]⟩,
    ⟨0x100001C, [(0x100, 65536)], [⟨0, 2, .ro, 0⟩]⟩,
    ⟨0x1000020, [(0x100, 65536)], [⟨0, 16, .ro, 0⟩]⟩,
    ⟨0x1000024, [(0x100, 65536)], [⟨0, 16, .ro, 0⟩, ⟨16, 1, .ro, 1⟩]⟩,
    ⟨0x1000028, [(0x100, 65536)], [⟨0, 2, .ro, 0⟩, ⟨2, 1, .ro, 0⟩, ⟨3, 1, .ro, 0⟩, ⟨4, 4, .w1c, 0⟩]⟩,
    ⟨0x100002C, [(0x100, 65536)], [⟨0, 32, .ro, 0⟩]⟩,
    ⟨0x1000030, [(0x100, 65536)], [⟨0, 32, .rc, 0⟩]⟩,
    ⟨0x1000034, [(0x100, 65536)], [⟨0, 32, .rc, 0⟩]⟩,
    ⟨0x1000038, [(0x100, 65536)], [⟨0, 32, .rc, 0⟩]⟩ ]

/-- Register maps, part 9: hostIfrst1 (R428) to msixPba1 (R429). -/
def regMap9 : List Reg :=
  [ ⟨0x100000000, [], [⟨0, 8, .wo, 0⟩, ⟨8, 1, .ro, 0⟩]⟩,
    ⟨0x100000004, [], [⟨0, 3, .ro, 0⟩, ⟨3, 5, .ro, 0⟩, ⟨8, 1, .ro, 0⟩, ⟨9, 2, .ro, 0⟩, ⟨11, 1, .ro, 0⟩]⟩,
    ⟨0x10000000C, [], [⟨0, 32, .rc, 0⟩]⟩,
    ⟨0x100001000, [], [⟨0, 1, .wo, 0⟩]⟩,
    ⟨0x100001004, [], [⟨0, 1, .ro, 0⟩, ⟨1, 1, .w1c, 0⟩]⟩,
    ⟨0x100001008, [], [⟨0, 13, .rw, 0⟩]⟩,
    ⟨0x10000100C, [], [⟨0, 13, .ro, 0⟩]⟩,
    ⟨0x100001010, [], [⟨0, 8, .rw, 0⟩, ⟨8, 1, .rw, 0⟩]⟩,
    ⟨0x100002000, [(0x4, 2048)], [⟨0, 32, .rw, 0⟩]⟩,
    ⟨0x100004000, [(0x4, 2048)], [⟨0, 32, .ro, 0⟩]⟩,
    ⟨0x100008000, [(0x10, 256)], [⟨0, 32, .rw, 0⟩]⟩,
    ⟨0x100008004, [(0x10, 256)], [⟨0, 32, .rw, 0⟩]⟩,
    ⟨0x100008008, [(0x10, 256)], [⟨0, 32, .rw, 0⟩]⟩,
    ⟨0x10000800C, [(0x10, 256)], [⟨0, 1, .rw, 1⟩]⟩,
    ⟨0x100009000, [(0x4, 8)], [⟨0, 32, .ro, 0⟩]⟩ ]

/-- Every register map of the manual. -/
def regMap : List Reg :=
  regMap0 ++ regMap1 ++ regMap2 ++ regMap3 ++ regMap4 ++ regMap5 ++ regMap6 ++ regMap7 ++ regMap8 ++ regMap9

/-- The offset lies in the register or array: each index is in range and nothing remains. -/
def Reg.hits (r : Reg) (off : Nat) : Bool :=
  off ≥ r.base && go r.dims (off - r.base)
where
  go : List (Nat × Nat) → Nat → Bool
    | [], rest => rest == 0
    | (st, n) :: ds, rest => rest / st < n && go ds (rest % st)

/-- The map of the register at a control offset; none where the offset holds no register (R13). -/
def regOf (off : Nat) : Option Reg := regMap.find? (fun r => r.hits off)

/-- The reset value of a list of fields (the Reset column). -/
def fieldsReset : List Field → Nat
  | [] => 0
  | f :: fs => f.rst <<< f.lo ||| fieldsReset fs

/-- The reset value of the register at a control offset: its map's, but for `BANK_ELIG` word 4 (R174: bit 141 set) and
`Q_BIND` (R434: queues 63,488 to 65,535 to PF1). -/
def resetOf (off : Nat) : Word :=
  if off ≥ 0x230000 && off < 0x236000 then
    if (off - 0x230000) % 0x40 = 0x10 then 0x2000 else 0
  else if off ≥ 0x1000000 && off < 0x2000000 && off % 0x100 = 0x1C then
    if (off - 0x1000000) / 0x100 ≥ 63488 then 1 else 0
  else match regOf off with
    | some r => BitVec.ofNat 32 (fieldsReset r.fields)
    | none => 0

end Sys2Proof.Machine
end

