-- ==== Sys2Proof/Machine/Ops.lean ====
section
/-! DEFINITION. The named operations over tables, bit fields, registers and memory that every meaning is built from. -/

namespace Sys2Proof.Machine

/-! ## Tables -/

/-- The listed entry of a table. -/
def tfind {α : Type} : Tbl α → Nat → Option α
  | [], _ => none
  | (k, v) :: t, n => if k = n then some v else tfind t n

/-- The entry of a table, its default where it is not listed. -/
def tget {α : Type} (d : α) (t : Tbl α) (n : Nat) : α := (tfind t n).getD d

/-- The table without entry n. -/
def tdel {α : Type} (t : Tbl α) (n : Nat) : Tbl α := t.filter (fun e => e.1 != n)

/-- The table with entry n listed as x, in its place. -/
def tput {α : Type} : Tbl α → Nat → α → Tbl α
  | [], n, x => [(n, x)]
  | (k, v) :: t, n, x =>
    if n < k then (n, x) :: (k, v) :: t
    else if n = k then (n, x) :: t
    else (k, v) :: tput t n x

/-- The table with entry n equal to x; an entry equal to the default is not listed. -/
def tset {α : Type} [DecidableEq α] (d : α) (t : Tbl α) (n : Nat) (x : α) : Tbl α :=
  if x = d then tdel t n else tput t n x

/-- The canonical form of a table with one default: entries strictly rising, none equal to the default. -/
def tblWf {α : Type} [DecidableEq α] (d : α) : Tbl α → Bool
  | [] => true
  | [(_, v)] => decide (v ≠ d)
  | (k, v) :: (k', v') :: t => decide (v ≠ d) && decide (k < k') && tblWf d ((k', v') :: t)

/-! ## Bit fields -/

/-- Bits [lo + w - 1 : lo] of a number. -/
def bitsAt (x lo w : Nat) : Nat := x / 2 ^ lo % 2 ^ w

/-- Bit i of a number. -/
def bitAt (x i : Nat) : Bool := x / 2 ^ i % 2 == 1

/-- A number with bits [lo + w - 1 : lo] replaced by those of y. -/
def bitsPut (x lo w y : Nat) : Nat := x - bitsAt x lo w * 2 ^ lo + y % 2 ^ w * 2 ^ lo

/-- A field of a word. -/
def fget (v : Word) (lo w : Nat) : Nat := bitsAt v.toNat lo w

/-- A word with a field replaced. -/
def fput (v : Word) (lo w x : Nat) : Word := BitVec.ofNat 32 (bitsPut v.toNat lo w x)

/-- 1 or 0. -/
def b2n (b : Bool) : Nat := if b then 1 else 0

/-- The number of `w` bits read as signed. -/
def sgn (x w : Nat) : Int := if x % 2 ^ w < 2 ^ (w - 1) then (x % 2 ^ w : Int) else (x % 2 ^ w : Int) - 2 ^ w

/-- The low `w` bits of an integer. -/
def wrapN (x : Int) (w : Nat) : Nat := (x % (2 ^ w : Nat)).toNat

/-- An integer held to the signed range of `w` bits. -/
def satI (x : Int) (w : Nat) : Int :=
  if x > 2 ^ (w - 1) - 1 then 2 ^ (w - 1) - 1 else if x < -(2 ^ (w - 1)) then -(2 ^ (w - 1)) else x

/-- A number below `cap` plus 1, or `cap` (a counter that holds at its largest value). -/
def incTo (cap x : Nat) : Nat := if x < cap then x + 1 else cap

/-! ## Registers: the stored word and its fields -/

/-- The stored word of a register. -/
def State.rawReg (s : State) (off : Nat) : Word := tget (resetOf off) s.regs off

/-- The stored word of a table in control space whose words reset to 0 (route pages, slot maps, descriptors, ...). -/
def State.tab (s : State) (off : Nat) : Word := tget 0 s.regs off

/-- Sets the stored word of a register. -/
def State.setReg (s : State) (off : Nat) (v : Word) : State :=
  { s with regs := tset (resetOf off) s.regs off v }

/-- A field of a register. -/
def State.fld (s : State) (off lo w : Nat) : Nat := fget (s.rawReg off) lo w

/-- A bit of a register. -/
def State.bit (s : State) (off i : Nat) : Bool := s.fld off i 1 == 1

/-- Sets a field of a register. -/
def State.setFld (s : State) (off lo w x : Nat) : State := s.setReg off (fput (s.rawReg off) lo w x)

/-- Counts 1 in a counter field, which holds at its largest value. -/
def State.count (s : State) (off lo w : Nat) : State :=
  s.setFld off lo w (incTo (2 ^ w - 1) (s.fld off lo w))

/-- Raises a counter field to at least x, holding at its largest value. -/
def State.maxFld (s : State) (off lo w x : Nat) : State :=
  let y := Nat.min x (2 ^ w - 1)
  if s.fld off lo w < y then s.setFld off lo w y else s

/-- A 64-bit value in two registers, the low word at `lo`. -/
def State.reg64 (s : State) (lo hi : Nat) : DWord := (s.rawReg hi) ++ (s.rawReg lo)

/-- Sets a 64-bit value in two registers. -/
def State.setReg64 (s : State) (lo hi : Nat) (v : DWord) : State :=
  (s.setReg lo (v.setWidth 32)).setReg hi ((v >>> 32).setWidth 32)

/-! ## Access codes (00 R12, R13) -/

/-- The bits of a field list with one of the given access codes, as a mask. -/
def accMask (p : Acc → Bool) : List Field → Nat
  | [] => 0
  | f :: fs => (if p f.acc then (2 ^ f.w - 1) <<< f.lo else 0) ||| accMask p fs

/-- What a plain read of a register returns: its stored word in the implemented, readable bits; 0 elsewhere. -/
def readMask (fs : List Field) : Word := BitVec.ofNat 32 (accMask (fun a => a != .wo) fs)

/-- The stored word after a plain write: RW fields take the written value, W1C bits written 1 clear, the rest stay. -/
def writeFields (fs : List Field) (old v : Word) : Word :=
  let rw := BitVec.ofNat 32 (accMask (fun a => a == .rw) fs)
  let w1c := BitVec.ofNat 32 (accMask (fun a => a == .w1c) fs)
  ((old &&& ~~~rw) ||| (v &&& rw)) &&& ~~~(w1c &&& v)

/-- The stored word after a read: every RC field at its reset value. -/
def clearFields (fs : List Field) (old : Word) : Word :=
  let rc := BitVec.ofNat 32 (accMask (fun a => a == .rc) fs)
  (old &&& ~~~rc) ||| (BitVec.ofNat 32 (fieldsReset fs) &&& rc)

/-- A plain write by the access codes (R12); nothing at an offset without a register (R13). -/
def State.plainWrite (s : State) (off : Nat) (v : Word) : State :=
  match regOf off with
  | some r => s.setReg off (writeFields r.fields (s.rawReg off) v)
  | none => s

/-- The value a quiet read returns (R14): implemented bits of the stored word, WO fields and reserved bits 0. -/
def State.plainRead (s : State) (off : Nat) : Word :=
  match regOf off with
  | some r => s.rawReg off &&& readMask r.fields
  | none => 0

/-- The RC effect of a read (R12): the whole register's RC fields take their reset value. -/
def State.readClear (s : State) (off : Nat) : State :=
  match regOf off with
  | some r => s.setReg off (clearFields r.fields (s.rawReg off))
  | none => s

/-! ## Parts of the state -/

def State.dom (s : State) (d : Nat) : Dom := tget Dom.init s.doms d
def State.setDom (s : State) (d : Nat) (x : Dom) : State := { s with doms := tset Dom.init s.doms d x }
def State.core (s : State) (c : Nat) : Core := tget Core.init s.cores c
def State.setCore (s : State) (c : Nat) (x : Core) : State := { s with cores := tset Core.init s.cores c x }
def State.bench (s : State) (b : Nat) : Bench := tget Bench.init s.benches b
def State.setBench (s : State) (b : Nat) (x : Bench) : State := { s with benches := tset Bench.init s.benches b x }
def State.bank (s : State) (n : Nat) : Bank := tget Bank.init s.banks n
def State.setBank (s : State) (n : Nat) (x : Bank) : State := { s with banks := tset Bank.init s.banks n x }
def State.group (s : State) (k : Nat) : Group := tget Group.init s.groups k
def State.setGroup (s : State) (k : Nat) (x : Group) : State := { s with groups := tset Group.init s.groups k x }
def State.seqr (s : State) (k : Nat) : Dma := tget Dma.init s.dma k
def State.setSeqr (s : State) (k : Nat) (x : Dma) : State := { s with dma := tset Dma.init s.dma k x }
def State.qst (s : State) (q : Nat) : QState := tget QState.init s.queues q
def State.setQst (s : State) (q : Nat) (x : QState) : State := { s with queues := tset QState.init s.queues q x }
def State.fn (s : State) (f : Nat) : Fn := tget Fn.init s.fns f
def State.setFn (s : State) (f : Nat) (x : Fn) : State := { s with fns := tset Fn.init s.fns f x }
def State.src (s : State) (n : Nat) : Src := tget Src.init s.evt.src n
def State.setSrc (s : State) (n : Nat) (x : Src) : State :=
  { s with evt := { s.evt with src := tset Src.init s.evt.src n x } }
def State.ethPort (s : State) (e : Nat) : EthPort := tget EthPort.init s.net.ports e
def State.setEthPort (s : State) (e : Nat) (x : EthPort) : State :=
  { s with net := { s.net with ports := tset EthPort.init s.net.ports e x } }
def State.chPort (s : State) (p : Nat) : ChPort := tget ChPort.init s.chain.ports p
def State.setChPort (s : State) (p : Nat) (x : ChPort) : State :=
  { s with chain := { s.chain with ports := tset ChPort.init s.chain.ports p x } }

/-- The state with another queue of waiting commands. -/
def State.withQueue (s : State) (q : List Instr) : State := { s with pending := q }

/-- Every command ends in a next state; the queue of waiting commands is not part of its effect. -/
def finish (s t : State) : Host.Outcome State Fault Refusal := .next (t.withQueue s.pending)

/-- The next free value's number is taken (log entry 5). -/
def State.stir (s : State) : State := { s with fresh := s.fresh + 1 }

/-- Appends to what has left the unit (log entry 6). -/
def State.emit (s : State) (o : Out) : State := { s with out := s.out ++ [o] }

/-- Folds a state over 0 ≤ i < n. -/
def upTo (n : Nat) (f : State → Nat → State) (s : State) : State := (List.range n).foldl f s

/-! ## Benches, cores, domains -/

/-- The bench of a core, of a bank (R16). -/
def benchOfCore (c : Nat) : Nat := c / 8
def benchOfBank (n : Nat) : Nat := n / 32

/-- The state of a rate domain: 0 OFF, 1 ACQUIRE, 2 LOCKED, 3 HOLDOVER (02 R49). -/
def State.domState (s : State) (d : Nat) : Nat := s.fld (A.rdStat d) 0 2

/-- Grains run only in LOCKED and HOLDOVER (02 R41). -/
def State.domRuns (s : State) (d : Nat) : Bool := s.domState d ≥ 2

/-- The rate domain of a bench (06 R207). -/
def State.benchDom (s : State) (b : Nat) : Nat := s.fld (A.benchCtl b) 0 2

/-- Registers of core c by its bench and place. -/
def coreReg (f : Nat → Nat → Nat) (c : Nat) : Nat := f (c / 8) (c % 8)

/-- Registers of bank n by its bench and place. -/
def bankReg (f : Nat → Nat → Nat) (n : Nat) : Nat := f (n / 32) (n % 32)

/-- The grain rate of a RATE code in Hz (02 R35). -/
def rateHz (code : Nat) : Nat :=
  match code with
  | 0 => 44100
  | 1 => 48000
  | 2 => 88200
  | 3 => 96000
  | 4 => 176400
  | 5 => 192000
  | 6 => 352800
  | _ => 384000

/-- The rate of a domain in Hz. -/
def State.domHz (s : State) (d : Nat) : Nat := rateHz (s.fld (A.rdCtl d) 1 3)

/-- The always-on reference's time in ns: the 1 µs timer, and the ns of the µs in progress. -/
def State.refNs (s : State) (ns : Nat) : Nat := s.timer * 1000 + ns

/-- Ethernet port e's clock (11 R360, R362): in MASTER it follows unit time. -/
def State.portTime (s : State) (e ns : Nat) : Nat :=
  if s.fld (A.netServo e) 0 3 = 4 then s.utime + ns else ((s.refNs ns : Int) + (s.ethPort e).clk).toNat

/-- The ns of a cycle (network clock) of the current µs. -/
def edgeNs (edge : Nat) : Nat := edge * 5 / 4

/-- The nominal cycles (fabric clock) per grain of a RATE code, rounded to nearest (02 R35). -/
def fabCycles (code : Nat) : Nat := (2 * 1600000000 + rateHz code) / (2 * rateHz code)

/-- An island runs (17 R528): 0-11 bench, 12 fabric, 13-28 port group, 29 network, 30 chain, 31 host, 32 far memory, 33
foreman. All stop without the reference; outside RUN only the host island and the foreman are up (18 R551). -/
def State.islandUp (s : State) (i : Nat) : Bool :=
  !s.sys.refLost && !s.sys.stopped.contains i && !s.sys.stopped.contains (100 + i) && (s.fld A.sysPwr 2 2 == 2 || i == 31 || i == 33)

/-- What happens in an island happens only while it runs. -/
def State.within (s : State) (i : Nat) (t : State) : State := if s.islandUp i then t else s

/-! ## Raises (15 R486) -/

/-- The grain of each domain as a record would name it: bits [31:0], or 0xFFFF_FFFF in OFF (R501). -/
def State.grainsNow (s : State) : List Word :=
  (List.range 4).map (fun d => if s.domState d = 0 then 0xFFFFFFFF else (s.dom d).cnt.setWidth 32)

/-- The fault latch records a raise of a unit fault source, 0 to 63 (17 R530). -/
def State.latch (s : State) (src : Nat) : State :=
  let s1 := if src < 32 then s.setFld A.ufLatchLo src 1 1 else s.setFld A.ufLatchHi (src - 32) 1 1
  if s1.bit A.ufFirst 6 then s1
  else (s1.setReg A.ufFirst (BitVec.ofNat 32 (src + 0x40))).setReg A.ufFirstt (BitVec.ofNat 32 s.timer)

/-- A block raises an event source: the raise sets off for the controller, and the latch records a fault. -/
def State.raise (s : State) (src obj info : Nat) : State :=
  let s1 := { s with raises := s.raises ++ [⟨src, BitVec.ofNat 16 obj, BitVec.ofNat 40 info, s.grainsNow⟩] }
  if src < 64 then s1.latch src else s1

/-! ## The global address map (01 R28, R30) -/

/-- What a PCIe function presents (13 R427): its identity, and the sizes of its 64-bit memory BARs. -/
structure PciFn where
  vendor : BitVec 16
  device : BitVec 16
  cls : BitVec 24
  bar0 : Nat
  bar2 : Nat
  bar4 : Nat

def pciFn (f : Nat) : PciFn :=
  if f = 0 then ⟨Config.vendorId, 0x9612, 0x040100, 0x4000000, 0x40000000, 0x80000⟩
  else ⟨Config.vendorId, 0x9613, 0x088000, 0x2000000, 0, 0x80000⟩

/-- First byte after the banks. -/
def bankEnd : Nat := 0x0C000000
/-- Far memory. -/
def farBase : Nat := 0x100000000
def farEnd : Nat := 0x1900000000
/-- Control register space. -/
def ctlBase : Nat := 0x10000000000
def ctlEnd : Nat := 0x10100000000

def inBanks (a : Nat) : Bool := a < bankEnd
def inFar (a : Nat) : Bool := farBase ≤ a && a < farEnd
def inCtl (a : Nat) : Bool := ctlBase ≤ a && a < ctlEnd

/-- The bank of a bank address. -/
def bankOf (a : Nat) : Nat := a / 0x80000

/-- Raises ADDRESS_MAP, source 7 (R31, 17 R528): OBJ the requester, INFO bits [47:8] of the address. -/
def State.addressMap (s : State) (who addr : Nat) : State := s.raise 7 who (addr / 256)

/-- Debug is open (19 R577). -/
def State.debugOpen (s : State) : Bool := s.fld A.dbgStat 0 2 == 3

/-- Who reaches the control space below the 64 MiB that BAR0 shows: PF0, the foreman, and the debug bus master once UNLOCK is
complete (01 R30). -/
def State.mainReach (s : State) (who : Nat) : Bool := who == 140 || who == 141 || (who == 144 && s.debugOpen)

/-- A read with an effect, by a requester: its data, or 0 with ADDRESS_MAP where it may not reach the register (01 R31). -/
def State.readBy (s : State) (who off : Nat) (f : State → State × Word) : State :=
  if s.mainReach who then
    let r := f s
    r.1.emit (.readData who r.2)
  else (s.addressMap who (ctlBase + off)).emit (.readData who 0)

/-! ## Memory -/

/-- The byte at an address: 0 where none is listed (18 R544). -/
def memByte (m : Mem) (a : Nat) : Byte := tget 0 m a

/-- Writes bytes at rising addresses. -/
def memPut (m : Mem) : Nat → List Byte → Mem
  | _, [] => m
  | a, b :: bs => memPut (tset 0 m a b) (a + 1) bs

/-- `n` bytes from an address as a little-endian number (R8). -/
def memNat (m : Mem) (a : Nat) : Nat → Nat
  | 0 => 0
  | n + 1 => (memByte m a).toNat + 256 * memNat m (a + 1) n

/-- The `n` bytes of a number, least significant first. -/
def bytesOf (x : Nat) : Nat → List Byte
  | 0 => []
  | n + 1 => BitVec.ofNat 8 x :: bytesOf (x / 256) n

/-- The little-endian number of a list of bytes. -/
def natOf : List Byte → Nat
  | [] => 0
  | b :: bs => b.toNat + 256 * natOf bs

/-- The canonical form of memory. -/
def Memory.wf (m : Mem) : Bool := tblWf 0 m

/-- The word addresses (byte address rounded down to 4) that `n` bytes from `a` touch. -/
def wordsOf (a n : Nat) : List Nat :=
  if n = 0 then [] else (List.range ((a + n - 1) / 4 - a / 4 + 1)).map (fun i => (a / 4 + i) * 4)

/-- Writes bytes at an address; every word touched holds valid check bits again (log entry 8). -/
def State.poke (s : State) (a : Nat) (bs : List Byte) : State :=
  let ws := wordsOf a bs.length
  { s with mem := memPut s.mem a bs,
           ce := s.ce.filter (fun w => !ws.contains w), ue := s.ue.filter (fun w => !ws.contains w) }

/-- Clears a range of memory: every byte 0 with valid check bits. -/
def State.wipe (s : State) (a n : Nat) : State :=
  let out := fun w => !(a ≤ w && w < a + n)
  { s with mem := s.mem.filter (fun e => out e.1), ce := s.ce.filter out, ue := s.ue.filter out }

/-- The effect of reading bank words on the error counters (05 R163): each correctable word counts CE; each
uncorrectable one counts UE and raises source 30 once per word in a report interval. -/
def State.eccRead (s : State) (a n : Nat) : State :=
  (wordsOf a n).foldl (init := s) fun s w =>
    let k := bankOf w
    if s.ue.contains w then
      let s1 := s.count (bankReg A.bankEcccnt k) 16 16
      if (s1.bank k).ueWords.contains w then s1
      else ({ s1 with banks := tset Bank.init s1.banks k
                        { s1.bank k with ueWords := (s1.bank k).ueWords ++ [w] } }).raise 30 k (w % 0x80000 * 2 ^ 10)
    else if s.ce.contains w then s.count (bankReg A.bankEcccnt k) 0 16
    else s

/-! ## Owners of banks (05 R171-R185) -/

/-- The owner and the lender of a bank. -/
def State.owner (s : State) (n : Nat) : Nat := s.fld (bankReg A.bankOwn n) 0 8
def State.lender (s : State) (n : Nat) : Nat := s.fld (bankReg A.bankOwn n) 8 8

/-- The eligibility bits of a bank (R174). -/
def State.fabw (s : State) (n : Nat) : Bool := s.bit (A.bankEligF n) 0
def State.hostr (s : State) (n : Nat) : Bool := s.bit (A.bankEligF n) 1
def State.eligible (s : State) (n id : Nat) : Bool := s.bit (A.bankElig n (id / 32)) (id % 32)

/-- A bank whose power state is not ON refuses every access (R185). -/
def State.awake (s : State) (n : Nat) : Bool := s.fld (bankReg A.bankPwr n) 4 2 == 0

/-- Source 28 at most once per bank in a report interval (R173, R188). -/
def State.denied (s : State) (n who off : Nat) (asleep : Bool) : State :=
  if (s.bank n).denied then s
  else (s.setBank n { s.bank n with denied := true }).raise 28 n (who + b2n asleep * 2 ^ 9 + off % 0x80000 * 2 ^ 10)

end Sys2Proof.Machine
end

