-- ==== Sys2Proof/Machine/Inflight.lean ====
section
/-! DEFINITION. Results in flight in a core (09 R304, R305) and how the data of a load become such results (07 R245, 08
R296): shared by the core's own loads and by the port B writes that tear them (05 R167). -/

namespace Sys2Proof.Machine

/-- Changes a core. -/
def State.modCore (s : State) (c : Nat) (f : Core → Core) : State := s.setCore c (f (s.core c))

/-- Lane i of a vector; the vector of a function of the lane. -/
def lane (v : BitVec 512) (i : Nat) : Word := (v >>> (32 * i)).setWidth 32
def vecOf (f : Nat → Word) : BitVec 512 :=
  BitVec.ofNat 512 ((List.range 16).foldr (fun i x => (f i).toNat + 2 ^ 32 * x) 0)

/-- Order of results: write point, then bundle, then slot (R194, R305). -/
def pwBefore (x y : PW) : Bool :=
  x.due < y.due || (x.due == y.due && (x.bundle < y.bundle || (x.bundle == y.bundle && x.slot < y.slot)))

/-- A result put in its place. -/
def pwInsert (x : PW) : List PW → List PW
  | [] => [x]
  | y :: ys => if pwBefore x y then x :: y :: ys else y :: pwInsert x ys

/-- The byte that an entry holds for an address: that of its last store there. -/
def SbEntry.byteAt (e : SbEntry) (a : Nat) : Option Byte :=
  e.parts.reverse.findSome? fun p =>
    if p.addr ≤ a && a < p.addr + p.size then some (BitVec.ofNat 8 (p.data.toNat / 256 ^ (a - p.addr))) else none

/-- The addresses of an element's bytes. -/
def Elem.addrs (x : Elem) : List Nat := (List.range x.size).map (fun i => x.addr + i)

/-- An element of a load with its data. -/
def Elem.got (x : Elem) (v : DWord) : Elem := { x with data := some v }

/-- The value a scalar load writes (07 R245). -/
def loadWord (bits : Nat) (signed : Bool) (v : DWord) : Word :=
  if signed then BitVec.ofInt 32 (sgn v.toNat bits) else BitVec.ofNat 32 (v.toNat % 2 ^ bits)

/-- The result of one element that is not a vector lane goes on its way. -/
def putResult (j : LoadJob) (k : Core) (x : Elem) : Core :=
  let v := x.data.getD 0
  let pw (n : BitVec 6) (w : Word) (ps : List PW) : List PW := pwInsert ⟨j.due, j.bundle, j.slot, .s n, w.setWidth 512⟩ ps
  match x.dst with
  | .s n bits sg => { k with pws := pw n (loadWord bits sg v) k.pws }
  | .pair n => { k with pws := pw (n + 1) ((v >>> 32).setWidth 32) (pw n (v.setWidth 32) k.pws) }
  | .ret => { k with dslot := some (true, v.setWidth 32) }
  | .lanes _ _ => k

/-- The lanes of vector n that a load writes. -/
def laneMask (n : BitVec 5) (xs : List Elem) : BitVec 16 :=
  xs.foldl (fun m x => match x.dst with | .lanes r b => if r = n then m ||| b else m | _ => m) 0

/-- The value of lane i of vector n in a load. -/
def laneVal (n : BitVec 5) (xs : List Elem) (i : Nat) : Word :=
  (xs.findSome? fun x =>
    match x.dst with
    | .lanes r b => if r = n && b.getLsbD i then some ((x.data.getD 0).setWidth 32) else none
    | _ => none).getD 0

/-- The results of a load with all its data, on their way in a core (R304, 08 R296). -/
def landLoad (j : LoadJob) (k : Core) : Core :=
  let vs := (j.elems.filterMap (fun x => match x.dst with | .lanes n _ => some n | _ => none)).eraseDups
  let k1 := j.elems.foldl (putResult j) k
  { k1 with pws := vs.foldl (fun ps n =>
      pwInsert ⟨j.due, j.bundle, j.slot, .v n (laneMask n j.elems), vecOf (laneVal n j.elems)⟩ ps) k1.pws }

/-! ## Loads that a port B write of the same cycle meets (05 R167) -/

/-- A result of load j, rather than the post-modify of its slot. -/
def PW.ofLoad (x : PW) (j : LoadJob) : Bool :=
  x.bundle == j.bundle && x.slot == j.slot && x.due == j.due && (match x.tgt with | .s _ => true | .v _ _ => true | _ => false)

/-- The data of an element after a write of bytes at address a in the cycle of its read: each byte old or new, as `pick`
says. -/
def Elem.torn (x : Elem) (a : Nat) (bs : List Byte) (pick : Nat → Bool) : Elem :=
  let old := bytesOf (x.data.getD 0).toNat x.size
  x.got (BitVec.ofNat 64 (natOf (old.zipIdx.map fun b =>
    let i := x.addr + b.2 - a
    if a ≤ x.addr + b.2 && i < bs.length && pick i then bs.getD i b.1 else b.1)))

/-- Load j was read in the words that a write of n bytes at address a reaches. -/
def LoadJob.meets (j : LoadJob) (a n : Nat) : Bool := j.elems.any fun x => x.addr < a + n && a < x.addr + x.size

/-- The results in flight of a core's loads of this cycle after a write that met them. -/
def tearCore (a : Nat) (bs : List Byte) (pick : Nat → Bool) (k : Core) : Core :=
  let js := (k.reads.filter (fun j => j.meets a bs.length && k.pws.any (fun x => x.ofLoad j))).map fun j =>
    { j with elems := j.elems.map (fun x => x.torn a bs pick) }
  js.foldl (fun k j => landLoad j { k with pws := k.pws.filter (fun x => !x.ofLoad j) })
    { k with reads := k.reads.map fun j =>
        if j.meets a bs.length then { j with elems := j.elems.map (fun x => x.torn a bs pick) } else j }

/-- The cores of the bench of a bank address. -/
def coresAt (a : Nat) : List Nat := (List.range 8).map (fun i => benchOfBank (bankOf a) * 8 + i)

/-- A port A read of this cycle was made in the bytes that a port B write reaches. -/
def State.portAReads (s : State) (a n : Nat) : Bool := (coresAt a).any fun c => (s.core c).reads.any (fun j => j.meets a n)

/-- A port B write met port A reads of its words (R167): the reads return, byte by byte, the old or the new value. -/
def State.tear (s : State) (a : Nat) (bs : List Byte) : State :=
  if s.portAReads a bs.length then
    let pick (i : Nat) : Bool := Config.freeBit (s.fresh + i)
    (coresAt a).foldl (fun s c => s.modCore c (tearCore a bs pick)) { s with fresh := s.fresh + bs.length }
  else s

/-- The byte that the port A write of this cycle brings to an address: that of the entry at the head of a store buffer of
the bank's bench. -/
def State.portAByte (s : State) (a : Nat) : Option Byte :=
  (coresAt a).findSome? fun c =>
    match (s.core c).sb with
    | e :: _ => if e.ctl then none else e.byteAt a
    | [] => none

/-- Port A has a write of the word at address w in hand. -/
def State.portAWrites (s : State) (w : Nat) : Bool := (List.range 4).any fun i => (s.portAByte (w + i)).isSome

/-- BUSY (R169), with the completion of a port B access to the bank of address a. -/
def State.countBusy (s : State) (a : Nat) : State := s.count (bankReg A.bankBusycnt (bankOf a)) 0 32

/-- A port B read that met a port A write (R167-R169): each byte of the shared words is the old or the new one, those words
raise no ECC error, and BUSY is counted. -/
def State.readMet (s : State) (a n : Nat) : State × Nat :=
  let byte (i : Nat) : Byte :=
    match s.portAByte (a + i) with
    | some b => if Config.freeBit (s.fresh + i) then b else memByte s.mem (a + i)
    | none => memByte s.mem (a + i)
  let s1 := ((wordsOf a n).filter (fun w => !s.portAWrites w)).foldl (fun s w => s.eccRead w 4) s
  ({ (s1.countBusy a) with fresh := s1.fresh + n }, natOf ((List.range n).map byte))

end Sys2Proof.Machine
end

