-- ==== Sys2Proof/Machine/Maps.lean ====
section
/-! DEFINITION. The tables that say where samples go: slot-map entries (03), route entries (04), network and chain
stream entries (11, 12), and the completed bank write, which the tables watch (04 R129, 03 R105). -/

namespace Sys2Proof.Machine

/-- An entry of a configuration store holds an uncorrectable error (17 R528, log entry 9). -/
def State.bad (s : State) (store entry : Nat) : Bool := s.cfgUe.contains (store, entry)

/-! ## Slot maps (03 R100-R103) -/

/-- Offset of word i of a slot-map page. -/
def smOff (g p i : Nat) : Nat := if p = 0 then A.slotPage0 g i else A.slotPage1 g i

/-- Entry i of a page as a 64-bit number: words 0x400 + 2i and 0x401 + 2i of the page. -/
def State.smEntry (s : State) (g p i : Nat) : Nat :=
  (s.tab (smOff g p (0x400 + 2 * i))).toNat + (s.tab (smOff g p (0x401 + 2 * i))).toNat * 2 ^ 32

def smOp (e : Nat) : Nat := bitsAt e 60 4
/-- IN and OUT: LANE, SLOT, JUST, TS or MODE, COUNT - 1, STRIDE, FB (OUT), ADDR. -/
def smLane (e : Nat) : Nat := bitsAt e 54 6
def smSlot (e : Nat) : Nat := bitsAt e 49 5
def smJust (e : Nat) : Bool := bitAt e 48
def smTs (e : Nat) : Bool := bitAt e 47
def smCount (e : Nat) : Nat := bitsAt e 36 11 + 1
def smStride (e : Nat) : Nat := bitsAt e 28 8
def smAddr (e : Nat) : Nat := bitsAt e 0 26
/-- DIRECT: ILANE and ISLOT are LANE and SLOT; OLANE, OSLOT, MUTE, MODE, FB, GAIN. -/
def smOlane (e : Nat) : Nat := bitsAt e 43 6
def smOslot (e : Nat) : Nat := bitsAt e 38 5
def smMute (e : Nat) : Bool := bitAt e 37
/-- MODE (true: ARRIVE) and FB of an OUT or DIRECT entry. -/
def smArrive (e : Nat) : Bool := if smOp e = 3 then bitAt e 36 else bitAt e 47
def smFb (e : Nat) : Nat := if smOp e = 3 then bitsAt e 34 2 else bitsAt e 26 2

/-- The entries of a page that act, with their indices: from 0 up to the first END (R102). -/
def State.smFrom (s : State) (g p : Nat) : Nat → Nat → List (Nat × Nat)
  | 0, _ => []
  | n + 1, i =>
    if s.bad 1 (g * 4096 + p * 2048 + i) then s.smFrom g p n (i + 1)
    else if smOp (s.smEntry g p i) = 0 then []
    else (i, s.smEntry g p i) :: s.smFrom g p n (i + 1)

def State.smEntries (s : State) (g p : Nat) : List (Nat × Nat) := s.smFrom g p 2048 0

/-- The registers of clock group k by its port group and place (R86). -/
def cgReg (f : Nat → Nat → Nat) (k : Nat) : Nat := f (k / 8) (k % 8)

/-- SLOTS of clock group k (R96). -/
def State.cgSlots (s : State) (k : Nat) : Nat := s.fld (cgReg A.cgCtl k) 10 6 + 1

/-- SLOTS of the eight clock groups of a port group now. -/
def State.slotsNow (s : State) (g : Nat) : List Nat := (List.range 8).map (fun c => s.cgSlots (8 * g + c))

/-- SLOTS with which a page was expanded when it was committed (R103); a page never committed: SLOTS now. -/
def State.smSlots (s : State) (g p : Nat) : List Nat :=
  let l := tget [] s.smap (g * 2 + p)
  if l.isEmpty then s.slotsNow g else l

/-- The first n positions from (lane, slot) on: slot by slot, then the next local lane (R103). -/
def smPos (sl : List Nat) : Nat → Nat → Nat → List (Nat × Nat)
  | 0, _, _ => []
  | n + 1, lane, slot =>
    (lane, slot) :: (if slot + 1 < sl.getD (lane / 8) 0 then smPos sl n lane (slot + 1) else smPos sl n (lane + 1) 0)

/-- The positions of an IN or OUT entry with their word addresses (÷ 4). -/
def smCover (sl : List Nat) (e : Nat) : List (Nat × Nat × Nat) :=
  (smPos sl (smCount e) (smLane e) (smSlot e)).zipIdx.map
    (fun x => (x.1.1, x.1.2, smAddr e + x.2 * smStride e))

/-- The slot-map page that frame f of clock group k follows (R93, R109). Until the group has changed over, a group in the
domain of an accepted commit follows the new page from the frame numbered C on. -/
def State.pageFor (s : State) (k : Nat) (f : DWord) : Nat :=
  let x := s.group k
  match x.due with
  | some (d, c) =>
    if d = s.fld (cgReg A.cgCtl k) 2 2 ∧ c.toNat ≤ f.toNat then 1 - s.fld (A.pgCtl (k / 8)) 0 1 else x.page
  | none => if f.toNat < x.since.toNat then 1 - x.page else x.page

/-- The page that the group's frame in progress follows. -/
def State.groupPage (s : State) (k : Nat) : Nat := s.pageFor k (s.group k).frame

/-- The OUT entries' positions whose outbox word (÷ 4) is w, as global lane and slot. -/
def State.smOutOf (s : State) (g p w : Nat) : List (Nat × Nat) :=
  (s.smEntries g p).flatMap fun ie =>
    if smOp ie.2 = 2 then
      ((smCover (s.smSlots g p) ie.2).filter (fun x => x.2.2 == w)).map (fun x => (64 * g + x.1, x.2.1))
    else []

/-- The OUT or DIRECT entry of an output position (local lane, slot), if any. -/
def State.smOutEntry (s : State) (g p lane slot : Nat) : Option Nat :=
  ((s.smEntries g p).find? fun ie =>
    if smOp ie.2 = 2 then (smPos (s.smSlots g p) (smCount ie.2) (smLane ie.2) (smSlot ie.2)).contains (lane, slot)
    else smOp ie.2 == 3 && smOlane ie.2 == lane && smOslot ie.2 == slot).map (·.2)

/-- The direction bit of a local lane in a page: true for an output (R100). -/
def State.smDir (s : State) (g p lane : Nat) : Bool := bitAt (s.tab (smOff g p (lane / 32))).toNat (lane % 32)

/-! ## Route entries (04 R125-R127) -/

/-- The two 64-bit words of route entry i of page p. -/
def State.rt0 (s : State) (p i : Nat) : Nat :=
  (s.tab (A.routePage p (4 * i))).toNat + (s.tab (A.routePage p (4 * i + 1))).toNat * 2 ^ 32
def State.rt1 (s : State) (p i : Nat) : Nat :=
  (s.tab (A.routePage p (4 * i + 2))).toNat + (s.tab (A.routePage p (4 * i + 3))).toNat * 2 ^ 32

def rtKind (w0 : Nat) : Nat := bitsAt w0 60 4
def rtDom (w0 : Nat) : Nat := bitsAt w0 58 2
def rtWagon (w0 : Nat) : Nat := bitsAt w0 52 6
def rtOfs (w0 : Nat) : Nat := bitsAt w0 36 16
def rtCount (w0 : Nat) : Nat := bitsAt w0 26 10 + 1
def rtSrc (w0 : Nat) : Nat := bitsAt w0 0 26
def rtBench (w0 : Nat) : Nat := bitsAt w0 16 4
def rtChan (w0 : Nat) : Nat := bitsAt w0 0 16
def rtSstride (w1 : Nat) : Nat := bitsAt w1 56 8
def rtDstride (w1 : Nat) : Nat := bitsAt w1 48 8
def rtDst (w1 : Nat) : Nat := bitsAt w1 0 26

/-- The entries of a route page that act, as (index, word 0, word 1): from 0 up to the first END (R126). -/
def State.rtFrom (s : State) (p : Nat) : Nat → Nat → List (Nat × Nat × Nat)
  | 0, _ => []
  | n + 1, i =>
    if s.bad 0 (p * 16384 + i) then s.rtFrom p n (i + 1)
    else if rtKind (s.rt0 p i) = 0 then []
    else (i, s.rt0 p i, s.rt1 p i) :: s.rtFrom p n (i + 1)

def State.rtEntries (s : State) (p : Nat) : List (Nat × Nat × Nat) := s.rtFrom p 16384 0

/-- The active route page (R125). -/
def State.rtPage (s : State) : Nat := s.fld A.fabCtl 0 1

/-- The destinations (÷ 4) of WATCH entries that cover word w (÷ 4) (R129). -/
def State.watchOf (s : State) (w : Nat) : List Nat :=
  (s.rtEntries s.rtPage).flatMap fun e =>
    if rtKind e.2.1 = 2 then
      ((List.range (rtCount e.2.1)).filter (fun i => rtSrc e.2.1 + i * rtSstride e.2.2 == w)).map
        (fun i => rtDst e.2.2 + i * rtDstride e.2.2)
    else []

/-- The destination (÷ 4) of a bench's push channel (R130). -/
def State.pushOf (s : State) (b ch : Nat) : Option Nat :=
  ((s.rtEntries s.rtPage).findSome? fun e =>
    if rtKind e.2.1 = 3 && rtBench e.2.1 == b && rtChan e.2.1 ≤ ch && ch < rtChan e.2.1 + rtCount e.2.1 then
      some (rtDst e.2.2 + (ch - rtChan e.2.1) * rtDstride e.2.2)
    else none)

/-! ## Stream entries (11 R369, 12 R402) -/

/-- A network stream entry as a 256-bit number: `dir` 0 ingress, 1 egress. -/
def netOff (dir p i : Nat) : Nat := if dir = 0 then A.netIngress p i else A.netEgress p i
def State.netEntry (s : State) (dir p i : Nat) : Nat :=
  natOf ((List.range 8).flatMap (fun k => bytesOf (s.tab (netOff dir p (8 * i + k))).toNat 4))
/-- A chain stream entry as a 128-bit number. -/
def chOff (dir p i : Nat) : Nat := if dir = 0 then A.chIngress p i else A.chEgress p i
def State.chEntry (s : State) (dir p i : Nat) : Nat :=
  natOf ((List.range 4).flatMap (fun k => bytesOf (s.tab (chOff dir p (4 * i + k))).toNat 4))

/-- Indices of the streams in use in a page, in rising order: those whose stored first word has EN = 1. A page word
equal to 0 is not listed, so only listed words are looked at. -/
def State.netLive (s : State) (dir p : Nat) : List Nat :=
  (s.regs.filterMap fun e =>
    let o := e.1 - netOff dir p 0
    if netOff dir p 0 ≤ e.1 && o < 0x4000 && o % 32 == 0 && bitAt e.2.toNat 0
        && !s.bad 5 (dir * 1024 + p * 512 + o / 32) then some (o / 32) else none)

def State.chLive (s : State) (dir p : Nat) : List Nat :=
  (s.regs.filterMap fun e =>
    let o := e.1 - chOff dir p 0
    if chOff dir p 0 ≤ e.1 && o < 0x400 && o % 16 == 0 && bitAt e.2.toNat 0
        && !s.bad 5 (2048 + dir * 128 + p * 64 + o / 16) then some (o / 16) else none)

/-- Fields shared by both directions of a network stream entry. -/
def neDom (e : Nat) : Nat := bitsAt e 6 2
def neNch (e : Nat) : Nat := bitsAt e 11 6 + 1
def neWagon (e : Nat) : Nat := bitsAt e 18 2
def neAddr (e : Nat) : Nat := bitsAt e 32 26
def neStride (e : Nat) : Nat := bitsAt e 64 8
def neLink (e : Nat) : Nat := bitsAt e 72 11 + 1
/-- Fields of a chain stream entry. -/
def cePeer (e : Nat) : Nat := bitsAt e 1 6
def ceDom (e : Nat) : Nat := bitsAt e 7 2
def ceWagon (e : Nat) : Nat := bitsAt e 9 1
def ceNch (e : Nat) : Nat := bitsAt e 10 6 + 1
def ceStride (e : Nat) : Nat := bitsAt e 16 8
def ceSid (e : Nat) : Nat := bitsAt e 24 8
def ceAddr (e : Nat) : Nat := bitsAt e 32 26
def ceLink (e : Nat) : Nat := bitsAt e 64 8

/-! ## The completed bank write -/

/-- A core of the unit is halted (19 R576). -/
def State.anyHalted (s : State) : Bool := s.cores.any (fun e => e.2.halted)

/-- A block with its freeze bit at (off, bit) is frozen: a core is halted, or the block has not yet seen the grain start
after the last halt ended (19 R576). -/
def State.frozen (s : State) (block off bit : Nat) : Bool :=
  s.bit off bit && (s.anyHalted || s.sys.thaw.contains block)

/-- The blocks whose freeze bit is set, by the numbers of `Sys.thaw`. -/
def State.freezeSet (s : State) : List Nat :=
  (List.range 16).filter (fun g => s.bit (A.pgCtl g) 1) ++ (if s.bit A.fabCtl 1 then [16] else []) ++
  ((List.range 12).filter (fun b => s.bit (A.fthCtl b) 1)).map (fun b => 17 + b) ++
  ((List.range 32).filter (fun k => s.bit (A.dmaCtl k) 3)).map (fun k => 29 + k) ++
  (if s.bit A.netCtl 4 then [61] else [])

/-- After the last halt of `s` ended with `t`, its frozen blocks wait for their next grain start (19 R576). -/
def State.thawFrom (s t : State) : State :=
  if s.anyHalted && !t.anyHalted then { t with sys := { t.sys with thaw := t.freezeSet } } else t

/-- The tap fabric is frozen: SCHED, WATCH and PUSH entries do nothing (19 R576). -/
def State.fabFrozen (s : State) : Bool := s.frozen 16 A.fabCtl 1

/-- The grain tag of a word written now in a bank of bench b (02 R67; log entry 10). -/
def State.tagOf (s : State) (b : Nat) : BitVec 16 := (s.bench b).grain.setWidth 16

/-- The carriages that a completed write to the word at address w starts (03 R105, 04 R129, 11 R375, 12 R403). -/
def State.carriesOf (s : State) (w : Nat) : List Carry :=
  let q := w / 4
  let b := benchOfBank (bankOf w)
  let tag := s.tagOf b
  (if s.fabFrozen then [] else (s.watchOf q).map (fun d => ⟨52 + b, w, .bank (d * 4), tag⟩)) ++
  (List.range 16).flatMap (fun g =>
    (s.smOutOf g (tget 0 s.fab.carryPage g) q).map (fun x => ⟨16 + g, w, .lane x.1 x.2, tag⟩)) ++
  (s.netLive 1 s.net.page).flatMap (fun i =>
    let e := s.netEntry 1 s.net.page i
    ((List.range (neNch e)).filter (fun c => neAddr e + c * neStride e == q)).map
      (fun c => ⟨36 + neWagon e, w, .net i c, tag⟩)) ++
  (s.chLive 1 s.chain.page).flatMap (fun i =>
    let e := s.chEntry 1 s.chain.page i
    ((List.range (ceNch e)).filter (fun c => ceAddr e + c * ceStride e == q)).map
      (fun c => ⟨42 + ceWagon e, w, .chain i c, tag⟩))

/-- Core c's program of its bench's grain has not started yet (02 R57, R65). -/
def State.owes (s : State) (c : Nat) : Bool :=
  let k := s.core c
  k.trigWait || (k.prog == .grain && k.grain != (s.bench (c / 8)).grain)

/-- A completed write to word address w, seen by core c's arrival trigger (02 R57, R59, R65). -/
def trigSeen (w : Nat) (s : State) (c : Nat) : State :=
  let k := s.core c
  if bitAt k.gctl.toNat 2 && k.trig.toNat == w && s.owes c && !k.trigPast then
    s.setCore c { k with trigHit := true }
  else s

/-- A write by requester `by` clears every other core's reservation of the line (07 R268). -/
def unreserve (who line : Nat) (s : State) (c : Nat) : State :=
  if c != who && (s.core c).res == some line then s.setCore c { s.core c with res := none } else s

/-- What follows from a completed write of the words ws of one bank by requester `who`. -/
def State.wrote (s : State) (who : Nat) (ws : List Nat) : State :=
  ws.foldl (init := s) fun s w =>
    let b := benchOfBank (bankOf w)
    let s1 := (List.range 8).foldl (fun s i => trigSeen w (unreserve who (w / 64) s (8 * b + i)) (8 * b + i)) s
    { s1 with fab := { s1.fab with carries := s1.fab.carries ++ s1.carriesOf w } }

/-- A write that a bank port makes: the bytes land and the write is complete. -/
def State.bankPut (s : State) (who a : Nat) (bs : List Byte) : State :=
  (s.poke a bs).wrote who (wordsOf a bs.length)

end Sys2Proof.Machine
end

