-- ==== Sys2Proof/Machine/Banks.lean ====
section
/-! DEFINITION. Banks (05): handover, loans, eviction, power. -/

namespace Sys2Proof.Machine

/-- The address lies in the stripe that spall has borrowed (20 R585). -/
def State.inStripe (s : State) (a : Nat) : Bool :=
  match s.spall.borrow with
  | some (n, st) => inBanks a && bankOf a == n && a % 0x80000 / 4096 == st
  | none => false

/-- Bank n is locked by a LOCK sequence of a core of its bench other than c (07 R265). -/
def State.lockedFor (s : State) (n c : Nat) : Bool :=
  (List.range 8).any fun i =>
    let o := benchOfBank n * 8 + i
    o != c && (s.core o).locks.any (fun l => l.taken && l.bank == n)

/-- An access of a port B requester waits: for a borrowed stripe (20 R585), or for a locked bank (07 R265, 09 R322). -/
def State.borrowed (s : State) (a : Nat) : Bool :=
  s.inStripe a || (inBanks a && s.lockedFor (bankOf a) 999)

/-- A port B access of n bytes from a waits. -/
def State.rangeWaits (s : State) (a n : Nat) : Bool :=
  inBanks a &&
  ((match s.spall.borrow with
    | some (k, st) => a < k * 0x80000 + (st + 1) * 4096 && k * 0x80000 + st * 4096 < a + n
    | none => false) ||
   (List.range ((a + n - 1) / 0x80000 - a / 0x80000 + 1)).any (fun i => s.lockedFor (bankOf a + i) 999))

/-- The bytes of a store, least significant first, and of a store-buffer entry. -/
def StPart.cells (p : StPart) : List Host.Cell := (bytesOf p.data.toNat p.size).zipIdx.map (fun x => (p.addr + x.2, x.1))
def SbEntry.touches (e : SbEntry) (n : Nat) : Bool :=
  !e.ctl && e.parts.any (fun p => inBanks p.addr && bankOf p.addr == n)

/-- A core has stores for bank n in its store buffer, or waiting to enter it (R181). -/
def State.queuedFor (s : State) (c n : Nat) : Bool :=
  ((s.core c).sb ++ (s.core c).sbWait).any (fun e => e.touches n) || s.fab.stores.any (fun x => x.1 == c && x.2.touches n)

/-- A change of bank n's owner is decided: PEND reads 1 until it takes effect (R177, R180). -/
def State.beginChange (s : State) (n owner lender : Nat) (wait : Bool) : State :=
  (s.setFld (bankReg A.bankOwn n) 16 1 1).setBank n
    { s.bank n with chg := some ⟨BitVec.ofNat 8 owner, BitVec.ofNat 8 lender, wait⟩ }

/-- The conditions of R179 for a write of `BANK_OWN[n]` under an identity: the number of the first that fails. -/
def State.ownFails (s : State) (n id : Nat) (v : Word) : Option Nat :=
  let next := fget v 24 8
  let loan := fget v 23 1 == 1
  let onLoan := s.lender n != 255
  if s.bit (bankReg A.bankOwn n) 16 then some 0
  else if next = 142 || (143 ≤ next && next ≤ 254) then some 1
  else if !(next == 255 || s.eligible n next) then some 2
  else if loan && (next == 255 || onLoan) then some 3
  else if !(s.owner n == id && (!onLoan || (next == s.lender n && !loan))) then some 4
  else if fget v 17 6 != 0 then some 5
  else none

/-- A write of `BANK_OWN[n]` under an identity (R179, R180): refused with source 29, or begun. Naming the current owner
without LOAN changes nothing. -/
def State.ownWrite (s : State) (n id : Nat) (v : Word) : State :=
  match s.ownFails n id v with
  | some k => s.raise 29 n (id + k * 2 ^ 9)
  | none =>
    let next := fget v 24 8
    if fget v 23 1 = 1 then s.beginChange n next (s.owner n) false
    else if next = s.owner n then s
    else s.beginChange n next 255 false

/-- The identity under which a path writes `BANK_OWN` (R178): a core of the bank's bench, the host, the foreman (and
the debug bus master, which reaches control space as the foreman does, R30), a sequencer. -/
def ownIdentity (n : Nat) (who : Nat) : Option Nat :=
  if who < 96 then (if who / 8 = n / 32 then some who else none)
  else if 108 ≤ who && who < 140 then some who
  else if who = 140 || who = 141 then some who
  else if who = 144 then some 141
  else none

/-- BANK_OWN_WRITE (R179): from a path that reaches the register; any other access is one of R31. -/
def bankOwnWrite (n : BankId) (who : Requester) (v : Word) (s : State) : State :=
  match ownIdentity n.val who.val with
  | some id => s.ownWrite n.val id v
  | none => s.addressMap who.val (ctlBase + bankReg A.bankOwn n.val)

/-- A reservation that core c holds on a line of bank n ends. -/
def State.loseRes (s : State) (n c : Nat) : State :=
  match (s.core c).res with
  | some l => if bankOf (l * 64) = n then s.setCore c { s.core c with res := none } else s
  | none => s

/-- The new owner is in effect (R180): OWNER and LENDER take their values and PEND clears; reservations on the bank are
cleared (07 R268); a bank assignment that waited is then applied (R183). -/
def State.takeOwner (s : State) (n : Nat) (ch : OwnChg) : State :=
  let s1 := ((s.setFld (bankReg A.bankOwn n) 0 8 ch.owner.toNat).setFld (bankReg A.bankOwn n) 8 8
    ch.lender.toNat).setFld (bankReg A.bankOwn n) 16 1 0
  let s2 := s1.setBank n { s1.bank n with chg := none, next := none }
  let b := benchOfBank n
  let s3 := (List.range 8).foldl (fun s i => s.loseRes n (8 * b + i)) s2
  match (s.bank n).next with
  | some o => if ch.owner = o ∧ ch.lender = 255 then s3 else s3.beginChange n o.toNat 255 true
  | none => s3

/-- A change waits: for the old owner's queued stores (R181, R182), or for a borrow of the bank (20 R586). -/
def State.changeWaits (s : State) (n : Nat) (ch : OwnChg) : Bool :=
  ch.wait && ((s.owner n < 96 && s.queuedFor (s.owner n) n) ||
    (match s.spall.borrow with | some (m, _) => m == n | none => false))

/-- HANDOVER_EFFECT (R180): cycle 2 of a pending change; no effect where none is pending or it still waits. -/
def handoverEffect (n : BankId) (s : State) : State :=
  match (s.bank n.val).chg with
  | some ch => if s.changeWaits n.val ch then s else s.takeOwner n.val ch
  | none => s

/-- The foreman's bank assignment at its commit grain (R183): it needs only the new owner's eligibility, checked at
validation; a change already pending goes first. DESIGN CHOICE (log entry 117): of two assignments that wait for one pending
change the later one is kept. -/
def State.assignBank (s : State) (n owner : Nat) : State :=
  if s.bit (bankReg A.bankOwn n) 16 then s.setBank n { s.bank n with next := some (BitVec.ofNat 8 owner) }
  else if s.owner n = owner ∧ s.lender n = 255 then s
  else s.beginChange n owner 255 true

/-- Banks on loan to an identity, by number: their `BANK_OWN` words are listed, since the reset value has no lender. -/
def State.loansOf (s : State) (id : Nat) : List Nat :=
  s.regs.filterMap fun e =>
    let o := e.1 - A.bankOwn 0 0
    if A.bankOwn 0 0 ≤ e.1 && e.1 < A.bankOwn 12 0 && o % 0x40000 < 0x80 && fget e.2 0 8 == id
        && fget e.2 8 8 != 255 then some (o / 0x40000 * 32 + o % 0x40000 / 4) else none

/-- The borrower's release point (R182): every bank on loan to it goes back to its lender. -/
def State.releaseLoans (s : State) (id : Nat) : State :=
  (s.loansOf id).foldl (init := s) fun s n =>
    if s.bit (bankReg A.bankOwn n) 16 then s else s.beginChange n (s.lender n) 255 true

/-- An eligibility change took effect (R176): an owner no longer in MASK loses the bank to 255 and any loan ends; source
31. Queued stores of the old owner are written first, and a borrow ends first (20 R586). -/
def State.evict (s : State) (n : Nat) : State :=
  let o := s.owner n
  if o = 255 ∨ o = 142 ∨ s.eligible n o then s
  else
    let s1 := s.raise 31 n (o + s.lender n * 2 ^ 8)
    let ch : OwnChg := ⟨255, 255, true⟩
    if s1.changeWaits n ch then s1.beginChange n 255 255 true else s1.takeOwner n ch

/-! ## Power of a bank (R184-R186) -/

/-- The state that REQ asks for as the bench allows it (18 R553): in RETAIN, RETAIN or OFF; in OFF, OFF. -/
def State.bankWants (s : State) (n : Nat) : Nat :=
  let r := s.fld (bankReg A.bankPwr n) 0 2
  match s.fld (A.benchPwr (benchOfBank n)) 4 3 with
  | 2 => if r = 2 then 2 else 1
  | 3 => 2
  | _ => r

/-- A bank's change of power state begins, where the state asked for differs from STATE and none is in progress, the
bench's own included. -/
def State.bankPwrStart (s : State) (n : Nat) : State :=
  let r := bankReg A.bankPwr n
  if s.fld (A.benchPwr (benchOfBank n)) 4 3 ≠ 4 ∧ s.fld r 4 2 ≠ 3 ∧ s.bankWants n ≠ s.fld r 4 2 then
    (s.setBank n { s.bank n with pwrTo := some (BitVec.ofNat 2 (s.bankWants n)) }).setFld r 4 2 3
  else s

/-- BANK_PWR_WRITE (R184): by the current owner or the foreman; from any other path source 29 with bit 12. -/
def bankPwrWrite (n : BankId) (who : Requester) (v : Word) (s : State) : State :=
  match ownIdentity n.val who.val with
  | none => s.addressMap who.val (ctlBase + bankReg A.bankPwr n.val)
  | some id =>
    if id = 141 ∨ id = s.owner n.val then
      if fget v 0 2 = 3 then s
      else (s.setFld (bankReg A.bankPwr n.val) 0 2 (fget v 0 2)).bankPwrStart n.val
    else s.raise 29 n.val (who.val + 2 ^ 12)

/-- BANK_POWER_CHANGE_DONE (R185): the state is reached. OFF loses the contents and ON from OFF writes every word 0, so
a bank that has been OFF holds zeros; a request that came meanwhile begins its change (R186). -/
def bankPowerChangeDone (n : BankId) (s : State) : State :=
  match (s.bank n.val).pwrTo with
  | none => s
  | some p =>
    let s1 := (s.setFld (bankReg A.bankPwr n.val) 4 2 p.toNat).setBank n.val { s.bank n.val with pwrTo := none }
    let s2 := if p = 2 then s1.wipe (n.val * 0x80000) 0x80000 else s1
    s2.bankPwrStart n.val

/-! ## Reads and writes on port B (R172, R173) -/

/-- Who may read and write a bank on port B by the owner rules (R172), power apart. -/
def State.mayRead (s : State) (who n : Nat) : Bool :=
  who == 144 || s.owner n == who || (who == 140 && s.hostr n)
def State.mayWrite (s : State) (who n : Nat) : Bool := who == 144 || s.owner n == who

/-- A port B read by a requester of `len` bytes within one line: the bytes, or none where it is refused (source 28). -/
def State.portRead (s : State) (who a len : Nat) : State × Option Nat :=
  let n := bankOf a
  if !s.awake n then (s.denied n who a true, none)
  else if !s.mayRead who n then (s.denied n who a false, none)
  else (s.eccRead a len, some (memNat s.mem a len))

/-- A port B read that met a port A write of its words (R167), where `met` says so. -/
def State.portReadMet (s : State) (who a len : Nat) (met : Bool) : State × Option Nat :=
  match s.portRead who a len with
  | (s1, some v) =>
    if met then
      let r := s.readMet a len
      (r.1, some r.2)
    else (s1, some v)
  | r => r

/-- A port B write by a requester within one line: true where it is made. -/
def State.portWrite (s : State) (who a : Nat) (bs : List Byte) : State × Bool :=
  let n := bankOf a
  if !s.awake n then (s.denied n who a true, false)
  else if !s.mayWrite who n then (s.denied n who a false, false)
  else (s.bankPut who a bs, true)

/-- A port B write that met port A reads of its words (R167), where `met` says so: BUSY, and those reads are torn. -/
def State.portWriteMet (s : State) (who a : Nat) (bs : List Byte) (met : Bool) : State × Bool :=
  match s.portWrite who a bs with
  | (s1, true) => (if met then (s1.countBusy a).tear a bs else s1, true)
  | r => r

/-- Port B accesses of which no command says whether they meet a port A access to their words: a free choice where one is in
hand (R167). -/
def State.portReadFree (s : State) (who a len : Nat) : State × Option Nat :=
  if (wordsOf a len).any (fun w => s.portAWrites w) then s.stir.portReadMet who a len (Config.freeBit s.fresh)
  else s.portRead who a len
def State.portWriteFree (s : State) (who a : Nat) (bs : List Byte) : State × Bool :=
  if s.portAReads a bs.length then s.stir.portWriteMet who a bs (Config.freeBit s.fresh) else s.portWrite who a bs

/-- A port B write that has left its requester and waits at its bank (09 R315, R319). -/
def State.latchStore (s : State) (who : Nat) (e : SbEntry) : State :=
  { s with fab := { s.fab with stores := s.fab.stores ++ [(who, e)] } }

/-- The foreman may write the words of a PARAM_WRITE to bank n (R172). -/
def State.paramMay (s : State) (n : Nat) : Bool := s.owner n == 141 || s.eligible n 141

/-- The words of a PARAM_WRITE on port B (R172, R173, 14 R473): refused to a bank not ON or without eligibility for 141. -/
def State.paramPut (s : State) (a : Nat) (bs : List Byte) : State :=
  let n := bankOf a
  if !s.awake n then s.denied n 141 a true
  else if !s.paramMay n then s.denied n 141 a false
  else if s.portAReads a bs.length then
    let s1 := s.stir.bankPut 141 a bs
    if Config.freeBit s.fresh then (s1.countBusy a).tear a bs else s1
  else s.bankPut 141 a bs

/-! ## The commands -/

/-- BANK_OWN_WRITE (05 R179). -/
def execBankOwnWrite (n : BankId) (who : Requester) (v : Word) (s : State) : Host.Outcome State Fault Refusal :=
  finish s (bankOwnWrite n who v s)
/-- HANDOVER_EFFECT (05 R180). -/
def execHandoverEffect (n : BankId) (s : State) : Host.Outcome State Fault Refusal := finish s (handoverEffect n s)
/-- BANK_PWR_WRITE (05 R184). -/
def execBankPwrWrite (n : BankId) (who : Requester) (v : Word) (s : State) : Host.Outcome State Fault Refusal :=
  finish s (bankPwrWrite n who v s)
/-- BANK_POWER_CHANGE_DONE (05 R185). -/
def execBankPowerChangeDone (n : BankId) (s : State) : Host.Outcome State Fault Refusal :=
  finish s (bankPowerChangeDone n s)

end Sys2Proof.Machine
end

