-- ==== Sys2Proof/Machine/Fabric.lean ====
section
/-! DEFINITION. The tap fabric (04): carriages, wagon queues, writes to banks, route pages. -/

namespace Sys2Proof.Machine

/-- The fabric as the maker of a port B write. -/
def fabricWho : Nat := 145

/-- Queue depth of a wagon (R122); SCHED wagons never queue, ingress queues cannot fill. -/
def wagonDepth (w : Nat) : Nat :=
  if w < 16 then 128 else if w < 32 then 2048 else 1024

/-- The word at address a as the fabric reads it on port B, whatever the owner (R172); none from a bank asleep.
`busy`: the read met a port A write of the word (R167, R168), and the word is carried as read (R170). -/
def State.fabRead (s : State) (a : Nat) (busy : Bool) : State × Option Word :=
  if s.awake (bankOf a) then
    if busy then
      let r := s.readMet a 4
      (r.1, some (BitVec.ofNat 32 r.2))
    else (s.eccRead a 4, some (BitVec.ofNat 32 (memNat s.mem a 4)))
  else (s.denied (bankOf a) Config.fabricRequester.toNat a true, none)

/-- The bank-bound words waiting on a wagon. -/
def State.wq (s : State) (w : Nat) : List FabWord := tget [] s.fab.q w
def State.setWq (s : State) (w : Nat) (l : List FabWord) : State :=
  { s with fab := { s.fab with q := tset [] s.fab.q w l } }
/-- The egress-bound words waiting on a wagon. -/
def State.weq (s : State) (w : Nat) : List EgrWord := tget [] s.fab.eq w
def State.setWeq (s : State) (w : Nat) (l : List EgrWord) : State :=
  { s with fab := { s.fab with eq := tset [] s.fab.eq w l } }

/-- A word dropped from a full queue (R124, R140): `dst` is the destination's byte address, where there is one. -/
def State.fabDrop (s : State) (w : Nat) (dst : Option Nat) : State :=
  (s.count A.fabDropcnt 0 32).raise 24 w (match dst with | some a => a / 4 + 2 ^ 26 | none => 0)

/-- A word for a bank offered to a wagon's queue (R122). -/
def State.offer (s : State) (w : Nat) (x : FabWord) : State :=
  if (s.wq w).length < wagonDepth w then s.setWq w (s.wq w ++ [x]) else s.fabDrop w (some x.dst)

/-- The page that SCHED entries of domain d follow (R133). -/
def State.schedPg (s : State) (d : Nat) : Nat := tget 0 s.fab.schedPage d

/-- SCHED_CARRY (R128): covered word i of a SCHED entry of the domain is read and goes to its destination. A read in a stripe
that spall has borrowed, or in a locked bank, waits (R135, 09 R322). -/
def schedCarry (d : DomId) (entry : Fin 16384) (i : Fin 1024) (busy : Bool) (s : State) : State :=
  s.within 12 <| match (s.rtEntries (s.schedPg d.val)).find? (fun e => e.1 == entry.val) with
  | some e =>
    let src := (rtSrc e.2.1 + i.val * rtSstride e.2.2) * 4
    if rtKind e.2.1 = 1 ∧ rtDom e.2.1 = d.val ∧ i.val < rtCount e.2.1 ∧ s.domRuns d.val ∧ !s.fabFrozen ∧ !s.borrowed src then
      match s.fabRead src busy with
      | (s1, some v) =>
        s1.setWq (rtWagon e.2.1) (s1.wq (rtWagon e.2.1) ++ [⟨(rtDst e.2.2 + i.val * rtDstride e.2.2) * 4, v, none⟩])
      | (s1, none) => s1
    else s
  | none => s

/-- The first carriage that satisfies p, and the carriages without it. -/
def takeCarry (p : Carry → Bool) : List Carry → Option (Carry × List Carry)
  | [] => none
  | c :: cs => if p c then some (c, cs) else (takeCarry p cs).map (fun r => (r.1, c :: r.2))

def carryToBank (c : Carry) : Bool := match c.target with | .bank _ => true | _ => false

/-- WATCH_CARRY (R129): the oldest watched write of the bench is read on port B and offered to the bench's wagon. A read
in a stripe that spall has borrowed waits. -/
def watchCarry (b : BenchId) (busy : Bool) (s : State) : State :=
  s.within 12 <| match takeCarry (fun c => c.wagon == 52 + b.val && carryToBank c) s.fab.carries with
  | some (c, rest) =>
    if s.borrowed c.src then s
    else
      let s1 := { s with fab := { s.fab with carries := rest } }
      if s1.fabFrozen then s1
      else match c.target, s1.fabRead c.src busy with
        | .bank dst, (s2, some v) => s2.offer c.wagon ⟨dst, v, none⟩
        | _, (s2, _) => s2
  | none => s

/-- A Fathom engine's results waiting for its wagon. -/
def State.setPushes (s : State) (b : Nat) (l : List (BitVec 16 × Word)) : State :=
  s.setBench b { s.bench b with fth := { (s.bench b).fth with pushes := l } }

/-- PUSH_CARRY (R130, R152): the oldest result of the engine enters its wagon by its route; with no route it is
discarded and source 27 raised; while the queue is full it waits. -/
def pushCarry (b : BenchId) (s : State) : State :=
  s.within 12 <| match (s.bench b.val).fth.pushes with
  | [] => s
  | (ch, v) :: rest =>
    if s.fabFrozen then s.setPushes b.val rest
    else match s.pushOf b.val ch.toNat with
      | none => ((s.setPushes b.val rest).count A.fabNoroutecnt 0 32).raise 27 (52 + b.val) ch.toNat
      | some dst =>
        if (s.wq (52 + b.val)).length < wagonDepth (52 + b.val) then
          (s.setPushes b.val rest).offer (52 + b.val) ⟨dst * 4, v, none⟩
        else s

/-- A word leaves the front of wagon w's queue, and with it the words that grain starts stand behind (02 R53). -/
def State.takeWord (s : State) (w : Nat) (rest : List FabWord) : State :=
  (List.range 12).foldl (init := s.setWq w rest) fun s b =>
    let x := s.bench b
    if x.ahead = [] then s else s.setBench b { x with ahead := tset 0 x.ahead w (tget 0 x.ahead w - 1) }

/-- The longest wagon wait and its wagon (R139). -/
def State.waitMax (s : State) (w waited : Nat) : State :=
  if s.fld A.fabWaitmax 0 16 < waited then (s.setFld A.fabWaitmax 0 16 waited).setFld A.fabWaitmax 16 6 w else s

/-- The bytes of a word on a wagon, with its timestamp. -/
def FabWord.bytes (x : FabWord) : List Byte :=
  bytesOf x.val.toNat 4 ++ (match x.ts with | some t => bytesOf t.toNat 4 | none => [])

/-- One fabric write on port B, from wagon w (R136). `busy`: it meets port A reads of its words (05 R167). -/
def State.fabPut (s : State) (w : Nat) (x : FabWord) (busy : Bool) : State :=
  let n := bankOf x.dst
  if !s.awake n then s.denied n Config.fabricRequester.toNat x.dst true
  else if !s.fabw n then (s.count A.fabDenycnt 0 32).raise 25 w (x.dst / 4 + 2 ^ 26)
  else
    let s1 := s.bankPut fabricWho x.dst x.bytes
    if busy then (s1.countBusy x.dst).tear x.dst x.bytes else s1

/-- The place of a wagon in the order of fabric writes that reach one bank in one cycle: SCHED wagons first, then the others,
each in increasing number (R135). -/
def wagonRank (w : Nat) : Nat := if 44 ≤ w ∧ w ≤ 51 then w else 64 + w

/-- The word of another wagon that reaches the same word in the same cycle, where one is at the head of its queue. -/
def State.meetsWord (s : State) (w : Nat) (x : FabWord) (meets : Option WagonId) : Option (Nat × FabWord × List FabWord) :=
  match meets with
  | none => none
  | some o =>
    match s.wq o.val with
    | y :: rest => if o.val ≠ w ∧ y.dst = x.dst ∧ s.awake (bankOf x.dst) ∧ s.fabw (bankOf x.dst) then some (o.val, y, rest) else none
    | [] => none

/-- FABRIC_BANK_WRITE (R136, R137): the word at the head of a wagon's queue reaches port B of its bank. `meets`: the wagon
whose word reaches the same word in the same cycle; both are then written, in the order of R135, and the pair is counted.
`seamUe`: the seam transfer had an uncorrectable error, so the word is not delivered (17 R528; path 4, fabric to bench).
`busy`: it meets port A reads of its words (05 R167). `waited`: the cycles (fabric clock) it waited for its wagon (R139). -/
def fabricBankWrite (w : WagonId) (meets : Option WagonId) (seamUe busy : Bool) (waited : BitVec 16) (s : State) : State :=
  match s.wq w.val with
  | [] => s
  | x :: rest =>
    if s.borrowed x.dst || !s.islandUp 12 then s
    else
      let s1 := (s.takeWord w.val rest).waitMax w.val waited.toNat
      if seamUe then s1.raise 6 4 w.val
      else match s.meetsWord w.val x meets with
        | none => s1.fabPut w.val x busy
        | some (o, y, orest) =>
          let s2 := s1.takeWord o orest
          let first := wagonRank w.val < wagonRank o
          let s3 := if first then (s2.fabPut w.val x busy).fabPut o y busy else (s2.fabPut o y busy).fabPut w.val x busy
          (s3.count A.fabCollcnt 0 32).raise 26 (if first then o else w.val)
            (x.dst / 4 + 2 ^ 26 + (if first then w.val else o) * 2 ^ 27)

/-- A write to a paged table (R101, R126, R153): to the active page or to a pending page it has no effect and sets a
status bit. -/
def State.pagedWrite (s : State) (off : Nat) (v : Word) (isActive pend : Bool) (st actBit pendBit : Nat)
    (store entry : Nat) : State :=
  if isActive then s.setFld st actBit 1 1
  else if pend then s.setFld st pendBit 1 1
  else { s.setReg off v with cfgUe := s.cfgUe.filter (fun e => e != (store, entry)) }

/-- ROUTE_PAGE_WRITE (R126). -/
def routePageWrite (page : Fin 2) (word : Fin 65536) (v : Word) (s : State) : State :=
  s.pagedWrite (A.routePage page.val word.val) v (page.val == s.rtPage) (s.bit A.fabStat 2) A.fabStat 0 1
    0 (page.val * 16384 + word.val / 4)

/-! ## The commands -/

/-- SCHED_CARRY (04 R128). -/
def execSchedCarry (d : DomId) (entry : Fin 16384) (i : Fin 1024) (busy : Bool) (s : State) : Host.Outcome State Fault Refusal :=
  finish s (schedCarry d entry i busy s)
/-- WATCH_CARRY (04 R129). -/
def execWatchCarry (b : BenchId) (busy : Bool) (s : State) : Host.Outcome State Fault Refusal := finish s (watchCarry b busy s)
/-- PUSH_CARRY (04 R130). -/
def execPushCarry (b : BenchId) (s : State) : Host.Outcome State Fault Refusal := finish s (pushCarry b s)
/-- FABRIC_BANK_WRITE (04 R137). -/
def execFabricBankWrite (w : WagonId) (meets : Option WagonId) (seamUe busy : Bool) (waited : BitVec 16) (s : State) :
    Host.Outcome State Fault Refusal := finish s (fabricBankWrite w meets seamUe busy waited s)
/-- ROUTE_PAGE_WRITE (04 R126). -/
def execRoutePageWrite (page : Fin 2) (word : Fin 65536) (v : Word) (s : State) : Host.Outcome State Fault Refusal :=
  finish s (routePageWrite page word v s)

end Sys2Proof.Machine
end

