-- ==== Sys2Proof/Machine/Crc.lean ====
section
/-! DEFINITION. CRC-32C, as tally digests (12 R412) and serial frames (19 R561) use it. -/

namespace Sys2Proof.Machine

/-- One bit of the reflected division. -/
def crcBit (x : Word) : Word := if x.getLsbD 0 then (x >>> 1) ^^^ 0x82F63B78 else x >>> 1

/-- One byte. -/
def crcByte (x : Word) (b : Byte) : Word :=
  crcBit (crcBit (crcBit (crcBit (crcBit (crcBit (crcBit (crcBit (x ^^^ b.setWidth 32))))))))

/-- The CRC of bytes that follow those with CRC x; of no bytes it is 0. -/
def crc32cFrom (x : Word) (bs : List Byte) : Word := ~~~(bs.foldl crcByte (~~~x))

def crc32c (bs : List Byte) : Word := crc32cFrom 0 bs

end Sys2Proof.Machine
end

