-- ==== Sys2Proof/Machine/Events.lean ====
section
/-! DEFINITION. The event controller (15): coalescers, class C states, claims, hold-offs, waiting class H records. -/

namespace Sys2Proof.Machine

/-- Fields of a source's registers (R510). -/
def State.evCen (s : State) (n : Nat) : Bool := s.bit (A.evtCfg n) 0
def State.evHen (s : State) (n : Nat) : Bool := s.bit (A.evtCfg n) 1
def State.evCcount (s : State) (n : Nat) : Nat := s.fld (A.evtCfg n) 4 8
def State.evCtime (s : State) (n : Nat) : Nat := s.fld (A.evtCfg n) 12 16
def State.evTgt (s : State) (n c : Nat) : Bool := s.bit (A.evtTgt n (c / 32)) (c % 32)
/-- The global disable of a target: 0-95 cores, 96 PF0, 97 PF1 (R505). -/
def State.gdis (s : State) (t : Nat) : Bool := s.bit (A.evtGdis (t / 32)) (t % 32)

/-- CSTATE codes (R489). -/
def csIdle : BitVec 2 := 0
def csPending : BitVec 2 := 1
def csActive : BitVec 2 := 2
def csActivePending : BitVec 2 := 3

/-- Source n is claimable by core c (R490). -/
def State.claimable (s : State) (n c : Nat) : Bool :=
  (s.src n).cstate == csPending && s.evCen n && s.evTgt n c && !s.gdis c

/-- A hold-off of group g runs (R500, R503). -/
def State.cHold (s : State) (g : Nat) : Bool := tget 0 s.evt.chold g != 0
def State.hHold (s : State) (g : Nat) : Bool := tget 0 s.evt.hhold g != 0

/-- Source n is deliverable to core c (R490). -/
def State.deliverable (s : State) (n c : Nat) : Bool := s.claimable n c && !s.cHold (n / 16)

/-- The lowest source that core c could claim, or be sent a start for. Sources not listed are IDLE. -/
def State.firstClaim (s : State) (c : Nat) : Option Nat :=
  (s.evt.src.find? (fun e => s.claimable e.1 c)).map (·.1)
def State.firstDeliver (s : State) (c : Nat) : Option Nat :=
  (s.evt.src.find? (fun e => s.deliverable e.1 c)).map (·.1)

/-- Occurrences added up (R501: the record saturates at 255; the count itself is kept exact). -/
def addFiring (a b : Firing) : Firing := { a with occ := a.occ + b.occ }

/-- A firing joins the one already there, or stands alone. -/
def joinFiring (o : Option Firing) (f : Firing) : Option Firing :=
  some (match o with | some x => addFiring x f | none => f)

/-- A firing of source n (R488): with CEN class C by R489, with HEN class H, merged into a waiting record (R502). -/
def State.fire (s : State) (n : Nat) (f : Firing) : State :=
  let x := s.src n
  let x1 :=
    if s.evCen n then
      if x.cstate = csIdle then { x with cstate := csPending, firing := some f }
      else if x.cstate = csPending then { x with firing := joinFiring x.firing f }
      else { x with cstate := csActivePending, later := joinFiring x.later f }
    else x
  s.setSrc n (if s.evHen n then { x1 with hrec := joinFiring x1.hrec f } else x1)

/-- The open window of a source closes and the source fires once (R487). -/
def State.closeWindow (s : State) (n : Nat) : State :=
  match (s.src n).win with
  | some (_, f) => (s.setSrc n { s.src n with win := none }).fire n f
  | none => s

/-- A raise at the coalescer of its source (R487). A raise at or after the end of a window closes it first and opens the
next. -/
def State.coalesce (s : State) (r : Raise) : State :=
  let n := r.src
  if s.evCtime n = 0 then s.fire n ⟨1, r⟩
  else
    let s0 := match (s.src n).win with
      | some (e, _) => if e ≤ s.timer then s.closeWindow n else s
      | none => s
    let w := match (s0.src n).win with
      | some (e, f) => (e, addFiring f ⟨1, r⟩)
      | none => (s0.timer + s0.evCtime n, ⟨1, r⟩)
    let s1 := s0.setSrc n { s0.src n with win := some w }
    if s0.evCcount n ≠ 0 ∧ s0.evCcount n ≤ w.2.occ then s1.closeWindow n else s1

/-- The record of a firing without its phase bit (R501). -/
def State.eventRecord (s : State) (n : Nat) (f : Firing) : BitVec 128 :=
  let dom := s.fld (A.evtEq n) 16 2
  BitVec.ofNat 128 (n + Nat.min f.occ 255 * 2 ^ 16 + dom * 2 ^ 24 + b2n (255 < f.occ) * 2 ^ 26 +
    (f.r.grains.getD dom 0xFFFFFFFF).toNat * 2 ^ 32 + f.r.obj.toNat * 2 ^ 64 + f.r.info.toNat * 2 ^ 80)

/-- The source that core c holds (`EVT_CSTAT.HV`, HELD). -/
def State.holds (s : State) (c : Nat) : Option Nat :=
  if s.bit (A.evtCstat c) 10 then some (s.fld (A.evtCstat c) 0 10) else none

/-- Core c claims (R496): the lowest claimable source becomes ACTIVE, held by c, its record in EVT_CREC; 0xFFFF where
there is none, or c already holds one. -/
def State.claim (s : State) (c : Nat) : State × Word :=
  match s.holds c, s.firstClaim c with
  | none, some n =>
    let x := s.src n
    let r : BitVec 128 := match x.firing with | some f => s.eventRecord n f | none => 0
    let s1 := s.setSrc n { x with cstate := csActive, holder := c, firing := none }
    let s2 := ((s1.setFld (A.evtCstat c) 0 10 n).setFld (A.evtCstat c) 10 1 1)
    ((List.range 4).foldl (fun s j => s.setReg (A.evtCrec c j) ((r >>> (32 * j)).setWidth 32)) s2,
      BitVec.ofNat 32 n)
  | _, _ => (s, 0xFFFF)

/-- What a quiet read of EVT_CLAIM returns (19 R575). -/
def State.claimPeek (s : State) (c : Nat) : Word :=
  match s.holds c, s.firstClaim c with
  | none, some n => BitVec.ofNat 32 n
  | _, _ => 0xFFFF

/-- The held source of core c is completed (R489): ACTIVE to IDLE, ACTIVE_PENDING to PENDING. -/
def State.complete (s : State) (c n : Nat) : State :=
  let x := s.src n
  let x1 := if x.cstate = csActivePending then { x with cstate := csPending, firing := x.later, later := none, holder := 0 }
    else { x with cstate := csIdle, firing := none, holder := 0 }
  (s.setSrc n x1).setFld (A.evtCstat c) 10 1 0

/-- A held source released with its holder's program (R499). -/
def State.autoRelease (s : State) (c : Nat) : State :=
  match s.holds c with
  | some n => (s.complete c n).setFld (A.evtCstat c) 14 1 1
  | none => s

/-- EVT_DONE (R498). -/
def evtDoneWrite (c : CoreId) (v : Word) (s : State) : State :=
  if s.holds c.val = some (fget v 0 10) then s.complete c.val (fget v 0 10)
  else s.setFld (A.evtCstat c.val) 11 1 1

/-- A source withdrawn through EVT_PEND (R489). -/
def State.withdraw (s : State) (n : Nat) : State :=
  let x := s.src n
  if x.cstate = csPending then s.setSrc n { x with cstate := csIdle, firing := none }
  else if x.cstate = csActivePending then s.setSrc n { x with cstate := csActive, later := none }
  else s

/-- EVT_PEND_WRITE (R489): each 1 withdraws its source. -/
def evtPendWrite (w : Fin 32) (v : Word) (s : State) : State :=
  upTo 32 (fun s i => if v.getLsbD i then s.withdraw (32 * w.val + i) else s) s

/-- EVT_GDIS_WRITE (R505). -/
def evtGdisWrite (w : Fin 4) (v : Word) (s : State) : State := s.plainWrite (A.evtGdis w.val) v

/-- Bits of EVT_PEND and EVT_ACTV (R511). -/
def State.evtBits (s : State) (w : Nat) (p : BitVec 2 → Bool) : Word :=
  BitVec.ofNat 32 ((List.range 32).foldr (fun i x => b2n (p (s.src (32 * w + i)).cstate) + 2 * x) 0)

/-- EVT_SSTAT (R510). -/
def State.sstat (s : State) (n : Nat) : Word :=
  let x := s.src n
  BitVec.ofNat 32 (x.cstate.toNat + b2n x.hrec.isSome * 4 + b2n x.win.isSome * 8 +
    (match x.win with | some (_, f) => Nat.min f.occ 255 | none => 0) * 2 ^ 8 + x.holder * 2 ^ 16)

/-- EVT_STAT.HWAIT (R511). -/
def State.hwait (s : State) : Nat := (s.evt.src.filter (fun e => e.2.hrec.isSome)).length

/-- A bench whose cores have clocks: `BENCH_PWR.STATE` RUN or IDLE (18 R554). -/
def State.benchUp (s : State) (b : Nat) : Bool := s.fld (A.benchPwr b) 4 3 < 2

/-- Core c is idle (R491): no program runs, none of this grain waits for its trigger, it is neither halted nor in
reset and holds no lock (07 R265), in a bench that is up. -/
def State.coreIdle (s : State) (c : Nat) : Bool :=
  let k := s.core c
  k.prog == .none && !k.trigWait && !k.halted && !k.resetting && !k.locks.any (fun l => l.taken) && s.benchUp (c / 8)

/-- A start or wake that counts for source n starts its group's class C hold-off (R500). -/
def State.beginCHold (s : State) (n : Nat) : State :=
  let g := n / 16
  let d := s.fld (A.evtGhold g) 0 16
  if d = 0 then s else { s with evt := { s.evt with chold := tset 0 s.evt.chold g (s.timer + d) } }

/-- EVENT_START (R491): in one cycle (fabric clock) the controller sends a start to every core that is idle, whose event
entry is enabled and to which some source is deliverable; each counts for the lowest such source (R500). -/
def eventStart (s : State) : State :=
  let cs := (List.range 96).filter fun c =>
    s.coreIdle c && s.bit (A.evtCentry c) 0 && (s.firstDeliver c).isSome && !s.evt.starts.contains c
  let s1 := { s with evt := { s.evt with starts := s.evt.starts ++ cs } }
  cs.foldl (fun t c => match s.firstDeliver c with | some n => t.beginCHold n | none => t) s1

/-- COALESCE_WINDOW_END (R487): the window of a source ends by time. -/
def coalesceWindowEnd (n : SourceId) (s : State) : State :=
  match (s.src n.val).win with
  | some (e, _) => if e ≤ s.timer then s.closeWindow n.val else s
  | none => s

/-- CLASS_C_HOLDOFF_END, CLASS_H_HOLDOFF_END (R500, R503): a hold-off that has run its time ends. -/
def classCHoldoffEnd (g : EvtGroupId) (s : State) : State :=
  if tget 0 s.evt.chold g.val ≤ s.timer then { s with evt := { s.evt with chold := tset 0 s.evt.chold g.val 0 } } else s
def classHHoldoffEnd (g : EvtGroupId) (s : State) : State :=
  if tget 0 s.evt.hhold g.val ≤ s.timer then { s with evt := { s.evt with hhold := tset 0 s.evt.hhold g.val 0 } } else s

/-- EVT_CLAIM_READ (R496, R497): a read by any path that reaches the block claims for the core whose block it is. A core
reaches its own block only (R30). -/
def evtClaimRead (c : CoreId) (who : Requester) (s : State) : State :=
  if who.val = c.val ∨ s.mainReach who.val then
    let r := s.claim c.val
    r.1.emit (.readData who.val r.2)
  else (s.addressMap who.val (ctlBase + A.evtClaim c.val)).emit (.readData who.val 0)

/-! ## The commands -/

/-- EVT_CLAIM_READ (15 R496). -/
def execEvtClaimRead (c : CoreId) (who : Requester) (s : State) : Host.Outcome State Fault Refusal :=
  finish s (evtClaimRead c who s)
/-- EVT_DONE_WRITE (15 R498). -/
def execEvtDoneWrite (c : CoreId) (v : Word) (s : State) : Host.Outcome State Fault Refusal :=
  finish s (evtDoneWrite c v s)
/-- EVT_PEND_WRITE (15 R489). -/
def execEvtPendWrite (w : Fin 32) (v : Word) (s : State) : Host.Outcome State Fault Refusal :=
  finish s (evtPendWrite w v s)
/-- EVT_GDIS_WRITE (15 R505). -/
def execEvtGdisWrite (w : Fin 4) (v : Word) (s : State) : Host.Outcome State Fault Refusal :=
  finish s (evtGdisWrite w v s)
/-- EVENT_START (15 R491). -/
def execEventStart (s : State) : Host.Outcome State Fault Refusal := finish s (eventStart s)
/-- COALESCE_WINDOW_END (15 R487). -/
def execCoalesceWindowEnd (n : SourceId) (s : State) : Host.Outcome State Fault Refusal :=
  finish s (coalesceWindowEnd n s)
/-- CLASS_C_HOLDOFF_END (15 R500). -/
def execClassCHoldoffEnd (g : EvtGroupId) (s : State) : Host.Outcome State Fault Refusal :=
  finish s (classCHoldoffEnd g s)
/-- CLASS_H_HOLDOFF_END (15 R503). -/
def execClassHHoldoffEnd (g : EvtGroupId) (s : State) : Host.Outcome State Fault Refusal :=
  finish s (classHHoldoffEnd g s)

end Sys2Proof.Machine
end

