-- ==== Sys2Proof/Machine/Packet.lean ====
section
/-! DEFINITION. Command packets (14 R458), pending commits that are dropped (R465), proposals that lapse (16 R519). -/

namespace Sys2Proof.Machine

/-! ## Packet fields (R458) -/

/-- `n` bytes of a packet from byte i, little-endian. -/
def pk (p : Packet) (i n : Nat) : Nat := bitsAt p.toNat (8 * i) (8 * n)

/-- Bit j of byte i. -/
def pkBit (p : Packet) (i j : Nat) : Bool := bitAt p.toNat (8 * i + j)

def pkOpcode (p : Packet) : Nat := pk p 0 2
def pkDom (p : Packet) : Nat := bitsAt p.toNat 16 2
def pkSeq (p : Packet) : Word := BitVec.ofNat 32 (pk p 4 4)
def pkTarget (p : Packet) : Nat := pk p 8 2
def pkCommit (p : Packet) : DWord := BitVec.ofNat 64 (pk p 16 8)

/-! ## The unit's own index -/

/-- The link index, where one is held (12 R394, `CH_STAT`). -/
def State.index (s : State) : Option Nat := if s.bit A.chStat 6 then some (s.fld A.chStat 0 6) else none

/-! ## Pending commits -/

/-- A pending flag of a page pair is cleared: its commit took effect or was dropped (R109, R133, R153, 11 R368, 12
R402). -/
def State.unpend (s : State) (c : Commit) : State :=
  match c.opcode.toNat with
  | 0x0300 => s.setFld A.fabStat 2 1 0
  | 0x0301 => s.setFld (A.fthStat (pk c.pkt 24 1)) 2 1 0
  | 0x0400 =>
    let g := pk c.pkt 24 1
    (List.range 8).foldl (fun s i => s.setGroup (8 * g + i)
      { s.group (8 * g + i) with page := s.fld (A.pgCtl g) 0 1, since := 0, due := none }) (s.setFld (A.pgStat g) 3 1 0)
  | 0x0401 => s.setFld A.netStat 2 1 0
  | 0x0402 => s.setFld A.chStat 14 1 0
  | _ => s

/-- Source 33, COMMIT_SKIPPED (R465). -/
def State.skipped (s : State) (c : Commit) : State :=
  s.raise 33 c.opcode.toNat (c.seq.toNat + c.origin.toNat * 2 ^ 32)

/-- The slot of a proposal identifier (16 R515). -/
def State.slotOf (s : State) (pid : Word) : Option (Nat × Proposal) :=
  s.prot.slots.findSome? fun e => match e.2 with | some x => if x.pid = pid then some (e.1, x) else none | none => none

def State.setSlot (s : State) (i : Nat) (x : Option Proposal) : State :=
  { s with prot := { s.prot with slots := tset none s.prot.slots i x } }

/-- A proposal's slot is freed. -/
def State.freePid (s : State) (pid : Word) : State :=
  match s.slotOf pid with
  | some (i, _) => s.setSlot i none
  | none => s

/-- The copy of an image is over, for its LOAD_IMAGE or without it. -/
def State.imageGone (s : State) (p : Packet) : State :=
  { s with cmds := { s.cmds with images := s.cmds.images.filter (fun i => i.pkt != p) } }

/-- An accepted command whose effect can no longer be made (R465): no part of it is made, and its place is freed. -/
def State.dropCommit (s : State) (c : Commit) : State :=
  let s1 := (s.unpend c).skipped c
  if c.opcode = 0x0600 then s1.freePid c.pid else if c.opcode = 0x0100 then s1.imageGone c.pkt else s1

/-- A pending proposal lapses (16 R519, R526). -/
def State.lapse (s : State) (i : Nat) (x : Proposal) : State :=
  let s1 := s.setSlot i (some { x with state := 3, lapsedAt := s.prot.lapses })
  let s2 := { s1 with prot := { s1.prot with lapses := s1.prot.lapses + 1 } }
  (s2.count A.protLapcnt 0 32).raise 37 x.pid.toNat x.kind.toNat

/-- A domain enters OFF (02 R76): its pending commits are dropped and its awaiting proposals lapse. -/
def State.dropDomain (s : State) (d : Nat) : State :=
  let gone := s.cmds.commits.filter (fun c => c.dom == d)
  let s1 := { s with cmds := { s.cmds with commits := s.cmds.commits.filter (fun c => c.dom != d) } }
  let s2 := gone.foldl (fun s c => s.dropCommit c) s1
  s2.prot.slots.foldl (init := s2) fun s e =>
    match e.2 with
    | some x => if x.state = 1 ∧ x.dom = d then s.lapse e.1 x else s
    | none => s

end Sys2Proof.Machine
end

