-- ==== Sys2Proof/Machine/Domains.lean ====
section
/-! DEFINITION. Rate domains (02 R33-R51): sources, states, grain counters, RESYNC. -/

namespace Sys2Proof.Machine

/-- Changes a domain. -/
def State.modDom (s : State) (d : Nat) (f : Dom → Dom) : State := s.setDom d (f (s.dom d))

/-- Fields of `RD_CTL[d]` (R48) and `RD_STAT[d]` (R49). -/
def State.domEn (s : State) (d : Nat) : Bool := s.bit (A.rdCtl d) 0
def State.domSrc (s : State) (d : Nat) : Nat := s.fld (A.rdCtl d) 4 2
def State.setDomState (s : State) (d x : Nat) : State := s.setFld (A.rdStat d) 0 2 x
def State.stepReq (s : State) (d : Nat) : Bool := s.bit (A.rdStat d) 2
def State.rsPend (s : State) (d : Nat) : Bool := s.bit (A.rdStat d) 4

/-- A time or a count held to the signed range of 32 bits, as INFO carries it (R84). -/
def info32 (x : Int) : Nat := wrapN (satI x 32) 32

/-- A phase error of more than half a grain (R43). -/
def State.overHalf (s : State) (d : Nat) (errNs : Int) : Bool := errNs.natAbs * 2 * s.domHz d > 1000000000

/-- A LOCKED domain enters HOLDOVER (R42, R43): source 21. -/
def State.enterHoldover (s : State) (d : Nat) : State := (s.setDomState d 3).raise 21 d (s.domSrc d)

/-- A present source compared with the domain (R43). A kept RESYNC request is made before any comparison (R46). -/
def State.compare (s : State) (d : Nat) (err : Int) : State :=
  if s.rsPend d then s
  else if s.domState d = 2 then (if s.overHalf d err then s.enterHoldover d else s)
  else if s.domState d = 3 then
    if s.overHalf d err then
      if s.stepReq d then s else (s.setFld (A.rdStat d) 2 1 1).raise 22 d (info32 err)
    else if err = 0 ∧ !s.stepReq d then s.setDomState d 2
    else s
  else s

/-- A domain sees its source: absent at a boundary says nothing; present is compared. -/
def State.seeSource (s : State) (d : Nat) (v : SourceView) : State :=
  match v with
  | .absent => s
  | .present err => s.compare d err

/-! ## Sources (R38, R42, R43) -/

/-- The port that a domain follows (R48). -/
def State.domPort (s : State) (d : Nat) : Nat := s.fld (A.rdCtl d) 6 3

/-- The grain whose PTP instant n ÷ rate is the nearest to now on the port's clock (R38, R46, 11 R364). -/
def State.ptpGrain (s : State) (d ns : Nat) : DWord :=
  BitVec.ofNat 64 ((s.portTime (s.domPort d) ns * s.domHz d + 500000000) / 1000000000)

/-- Where a domain's source has grain n's boundary, less now: for PTP n ÷ rate on the port's clock (11 R364); for the chain
where the last MARK places its own grain (12 R401), at the domain's rate from there. -/
def State.phaseError (s : State) (d : Nat) (n : Nat) (ns : Nat) : Int :=
  let x := s.dom d
  if s.domSrc d = 2 then (n * 1000000000 / s.domHz d : Nat) - (s.portTime (s.domPort d) ns : Int)
  else x.markAt + ((n : Int) - x.markGrain.toNat) * 1000000000 / s.domHz d - s.refNs ns

/-- What the domain sees of its source in the grain that runs. The internal reference never loses phase (R46), and WCLKIN is
`v`. PTP is absent while the port's servo is not locked (11 R363), the chain once 3 expected grains brought no MARK (R42). -/
def State.sourceView (s : State) (d : Nat) (v : SourceView) (ns : Nat) : SourceView :=
  let src := s.domSrc d
  if src = 0 then .present 0
  else if src = 1 then v
  else if (src = 2 && s.fld (A.netServo (s.domPort d)) 0 3 < 3) || (src = 3 && 4 ≤ (s.dom d).quiet) then .absent
  else .present (s.phaseError d (s.dom d).cnt.toNat ns)

/-! ## Coverage periods of the spall test (20 R579, R580) -/

/-- Grains of a coverage period. -/
def periodGrains : Nat := 2 ^ 20

/-- The coverage period in progress is not counted as complete. -/
def State.spallCut (s : State) : State := { s with spall := { s.spall with period := 0 } }

/-- Spall runs (R579). -/
def State.spallRuns (s : State) : Bool := s.bit A.spallCtl 0 && s.domRuns (s.fld A.spallCtl 1 2)

/-- A bench with a core or a stripe whose test has not completed in the period (R580). -/
def State.spallSkipped (s : State) (b : Nat) : Bool :=
  (List.range 8).any (fun i => tget 0 s.spall.katNext (8 * b + i) < 128) ||
  (List.range 32).any (fun n => (List.range 128).any (fun st => !s.spall.tested.contains (32 * b + n, st)))

/-- A coverage period completes: counted, source 960; with a skip, source 961. -/
def State.spallComplete (s : State) (k : Nat) : State :=
  let mask := (List.range 12).foldr (fun b x => b2n (s.spallSkipped b) + 2 * x) 0
  let s1 := ((s.count A.spallPeriods 0 32).raise 960 k 0).setReg A.spallSkip (BitVec.ofNat 32 mask)
  if mask = 0 then s1 else s1.raise 961 mask 0

/-- The spall domain has taken a new grain number: the period in progress goes on, or ends, and one starts with its first
grain. -/
def State.spallTick (s : State) (d : Nat) : State :=
  if s.fld A.spallCtl 1 2 ≠ d then s
  else if !s.spallRuns then s.spallCut
  else
    let n := (s.dom d).cnt.toNat
    let k := n / periodGrains
    if s.spall.period = k + 1 then s
    else
      let s1 := if 0 < s.spall.period ∧ s.spall.period ≤ k then s.spallComplete (s.spall.period - 1) else s
      if n % periodGrains = 0 then { s1 with spall := { s1.spall with period := k + 1, katNext := [], strNext := [], tested := [] } }
      else s1.spallCut

/-- A write of `SPALL_CTL` (R592): DOM changes only while EN is 0; EN = 0 ends the period uncounted. -/
def State.spallCtlWrite (s : State) (v : Word) : State :=
  let s1 := if s.bit A.spallCtl 0 then s else s.setFld A.spallCtl 1 2 (fget v 1 2)
  let s2 := s1.setFld A.spallCtl 0 1 (fget v 0 1)
  if fget v 0 1 = 0 then s2.spallCut else s2

/-! ## Boundaries -/

/-- At a boundary of domain d, the ingress words that were sampled before it stand ahead of its grain start in the channel of
each of its benches (R53): those in the port wagons' queues. Which words of the other wagons have entered a channel by then is
timing (log entry 130). -/
def State.markAhead (s : State) (d : Nat) : State :=
  let words : Tbl Nat := (List.range 16).foldl (fun t w => tset 0 t w (tget [] s.fab.q w).length) []
  (List.range 12).foldl (init := s) fun s b =>
    if s.benchDom b = d then s.setBench b { s.bench b with ahead := words } else s

/-- The domain takes grain number g at a boundary, `ns` into the current µs of unit time (R51). -/
def State.takeGrain (s : State) (d : Nat) (g : DWord) (stepped : Bool) (ns : Nat) : State :=
  (s.modDom d fun x =>
    { x with cnt := g, btime := BitVec.ofNat 64 (s.utime + ns), fabDue := true, stepped := stepped, quiet := x.quiet + 1 }).markAhead d

/-- The boundary of the next grain (R45): the counter, the time of the boundary, the comparison of R43. -/
def State.boundary (s : State) (d : Nat) (v : SourceView) (ns : Nat) : State :=
  let t := s.takeGrain d ((s.dom d).cnt + 1) false ns
  t.seeSource d (t.sourceView d v ns)

/-- WCLKIN as the domain needs it runs at one of the eight grain rates, all of one family (R39): codes that differ by 2 are a
factor of 2 apart (R35), and WRATIO 3 is the ratio 1. -/
def State.wclkOk (s : State) (d : Nat) : Bool :=
  let k := s.fld (A.rdCtl d) 1 3 / 2
  let r := s.fld (A.rdCtl d) 9 3
  r ≤ 6 && r ≤ k + 3 && k ≤ r

/-- The grain number of the source's boundary now (R38, R46): `other` for a source that carries none. -/
def State.srcGrain (s : State) (d : Nat) (other : DWord) (ns : Nat) : DWord :=
  if s.domSrc d < 2 then other else if s.domSrc d = 2 then s.ptpGrain d ns else (s.dom d).markGrain

/-- DOMAIN_LOCK (R41, R44, R50): a domain in ACQUIRE locks and loads its first counter value: `RD_GSET` for the internal
reference and WCLKIN, the grain of the port's clock for PTP, that of the last MARK for the chain (R38). A reserved WRATIO or one that R39 does not allow, a PTP port whose servo is not locked
(11 R363) and a chain without 16 agreeing MARKs (12 R401) keep the domain in ACQUIRE. -/
def domainLock (d : DomId) (ns : SubNs) (s : State) : State :=
  let src := s.domSrc d.val
  let ready :=
    if src = 1 then s.wclkOk d.val
    else if src = 2 then s.fld (A.netServo (s.domPort d.val)) 0 3 ≥ 3
    else if src = 3 then (s.dom d.val).marks ≥ 16
    else true
  if s.domState d.val = 1 ∧ ready ∧ s.islandUp 12 then
    let g := s.srcGrain d.val (s.reg64 (A.rdGsetLo d.val) (A.rdGsetHi d.val)) ns.val
    let s1 := (s.takeGrain d.val g false ns.val).modDom d.val fun x => { x with fabOn := false }
    (s1.setDomState d.val 2).spallTick d.val
  else s

/-- GRAIN_HOLDOVER (R42, R43): the source is lost, or shows a phase error. The internal reference is never lost. -/
def grainHoldover (d : DomId) (v : SourceView) (ns : SubNs) (s : State) : State :=
  if !s.domRuns d.val then s
  else match s.sourceView d.val v ns.val with
    | .present err => s.seeSource d.val (.present err)
    | .absent =>
      let s1 := s.modDom d.val fun x => { x with marks := 0 }
      if s1.domState d.val = 2 then s1.enterHoldover d.val else s1

/-- GRAIN_ACQUIRE_TIMEOUT (R44): once for each entry into ACQUIRE. -/
def grainAcquireTimeout (d : DomId) (s : State) : State :=
  if s.domState d.val = 1 ∧ !s.bit (A.rdStat d.val) 3 then
    (s.setFld (A.rdStat d.val) 3 1 1).raise 35 d.val (s.domSrc d.val)
  else s

/-- A request for a step (R46). -/
def State.requestResync (s : State) (d : Nat) : State := if s.domRuns d then s.setFld (A.rdStat d) 4 1 1 else s

/-- GRAIN_STEP (R46): the kept step is made at the source's boundary; a source that is absent has none. Commits that it passes
over wait for the next one. The boundary of WCLKIN is the command itself. -/
def grainStep (d : DomId) (ns : SubNs) (s : State) : State :=
  if s.domRuns d.val ∧ s.rsPend d.val ∧ s.sourceView d.val (.present 0) ns.val ≠ .absent then
    let next := (s.dom d.val).cnt + 1
    let g := s.srcGrain d.val next ns.val
    let s1 := s.takeGrain d.val g (next.toNat < g.toNat) ns.val
    let s2 := ((s1.setDomState d.val 2).setFld (A.rdStat d.val) 2 1 0).setFld (A.rdStat d.val) 4 1 0
    s2.raise 20 d.val (info32 ((g.toNat : Int) - next.toNat))
  else s

/-- Clock groups follow their domain (03 R98): every enabled group is in ALIGN while the domain does not run. One that was LOST
raises no BCLK_RETURN when it aligns again (log entry 13). -/
def State.alignGroups (s : State) (d : Nat) : State :=
  s |> upTo 128 fun s k =>
    if s.fld (cgReg A.cgCtl k) 0 1 = 1 ∧ s.fld (cgReg A.cgCtl k) 2 2 = d ∧ s.fld (cgReg A.cgStat k) 0 2 ≠ 1 then
      (s.setFld (cgReg A.cgStat k) 0 2 1).setGroup k { s.group k with marks := 0 }
    else s

/-- The domain enters OFF (R48, R49, R76). -/
def State.domOff (s : State) (d : Nat) : State :=
  let s0 := if s.fld A.spallCtl 1 2 = d then s.spallCut else s
  let s1 := s0.setReg (A.rdStat d) 0
  let s2 := (s1.modDom d fun x => { x with fabOn := false, fabDue := false, marks := 0 }).alignGroups d
  let s3 := (List.range 12).foldl (init := s2) fun s b =>
    if s.benchDom b = d then s.setBench b { s.bench b with due := false } else s
  s3.dropDomain d

/-- A write of `RD_CTL[d]` (R48): RATE, SRC, PORT, WRATIO and CDOM change only while EN is 0. -/
def State.rdCtlWrite (s : State) (d : Nat) (v : Word) : State :=
  let old := s.rawReg (A.rdCtl d)
  if s.domEn d then
    if fget v 0 1 = 0 then (s.setReg (A.rdCtl d) (fput old 0 1 0)).domOff d
    else if fget v 14 1 = 1 then s.requestResync d
    else s
  else
    let s1 := s.setReg (A.rdCtl d) (v &&& 0x3FFF)
    if fget v 0 1 = 1 then s1.setReg (A.rdStat d) 1 else s1

/-- DOMAIN_ENABLE (R48): a write with EN = 1. -/
def domainEnable (d : DomId) (v : Word) (s : State) : State := s.rdCtlWrite d.val (v ||| 1)
/-- DOMAIN_DISABLE (R76): a write with EN = 0. -/
def domainDisable (d : DomId) (v : Word) (s : State) : State := s.rdCtlWrite d.val (v &&& 0xFFFFFFFE)
/-- RESYNC (R46): a write of RD_CTL with EN and RESYNC 1 while the domain is enabled. -/
def resync (d : DomId) (s : State) : State := s.requestResync d.val

/-- RD_GCNT_READ and RD_BTIME_READ (R51): the low word, and the high word copied. -/
def State.gcntRead (s : State) (d : Nat) : State × Word :=
  let g := (s.dom d).cnt
  (s.setReg (A.rdGcntHi d) ((g >>> 32).setWidth 32), g.setWidth 32)
def State.btimeRead (s : State) (d : Nat) : State × Word :=
  let g := (s.dom d).btime
  (s.setReg (A.rdBtimeHi d) ((g >>> 32).setWidth 32), g.setWidth 32)

def rdGcntRead (d : DomId) (who : Requester) (s : State) : State :=
  s.readBy who.val (A.rdGcntLo d.val) (fun s => s.gcntRead d.val)
def rdBtimeRead (d : DomId) (who : Requester) (s : State) : State :=
  s.readBy who.val (A.rdBtimeLo d.val) (fun s => s.btimeRead d.val)

/-! ## The commands -/

/-- DOMAIN_LOCK (02 R41). -/
def execDomainLock (d : DomId) (ns : SubNs) (s : State) : Host.Outcome State Fault Refusal := finish s (domainLock d ns s)
/-- GRAIN_HOLDOVER (02 R42). -/
def execGrainHoldover (d : DomId) (v : SourceView) (ns : SubNs) (s : State) : Host.Outcome State Fault Refusal :=
  finish s (grainHoldover d v ns s)
/-- GRAIN_ACQUIRE_TIMEOUT (02 R44). -/
def execGrainAcquireTimeout (d : DomId) (s : State) : Host.Outcome State Fault Refusal :=
  finish s (grainAcquireTimeout d s)
/-- RESYNC (02 R46). -/
def execResync (d : DomId) (s : State) : Host.Outcome State Fault Refusal := finish s (resync d s)
/-- DOMAIN_ENABLE (02 R48). -/
def execDomainEnable (d : DomId) (v : Word) (s : State) : Host.Outcome State Fault Refusal := finish s (domainEnable d v s)
/-- DOMAIN_DISABLE (02 R76). -/
def execDomainDisable (d : DomId) (v : Word) (s : State) : Host.Outcome State Fault Refusal :=
  finish s (domainDisable d v s)
/-- RD_GCNT_READ (02 R51). -/
def execRdGcntRead (d : DomId) (who : Requester) (s : State) : Host.Outcome State Fault Refusal :=
  finish s (rdGcntRead d who s)
/-- RD_BTIME_READ (02 R51). -/
def execRdBtimeRead (d : DomId) (who : Requester) (s : State) : Host.Outcome State Fault Refusal :=
  finish s (rdBtimeRead d who s)

end Sys2Proof.Machine
end

