-- ==== Sys2Proof/Machine/Links.lean ====
section
/-! DEFINITION. The chain links (12 R383-R392): frames sent, kept, accepted and passed on; the member's state in its pair
(12 R405-R420). -/

namespace Sys2Proof.Machine

/-! ## Ports and frames -/

/-- The port is UP (R385, `CH_PSTAT`), and the chain island runs. -/
def State.portUp (s : State) (p : Nat) : Bool := s.fld (A.chPstat p) 0 2 == 2 && s.islandUp 30

/-- SRC of the unit's own frames: 0xFF before enumeration (R387). -/
def State.ownSrc (s : State) : BitVec 8 := match s.index with | some i => BitVec.ofNat 8 i | none => 0xFF

/-- A sequenced frame leaves on a port with the next LSEQ and is kept until the partner acknowledges it (R389); only UP
ports send (R385). ACK names the highest LSEQ received in order. The first frame after reset has LSEQ 1 (log entry 14). -/
def State.sendFrame (s : State) (p : Nat) (src dst : BitVec 8) (body : Frame) : State :=
  if s.portUp p then
    let c := s.chPort p
    let n := c.txSeq + 1
    (s.setChPort p { c with txSeq := n, held := c.held ++ [⟨s.timer, 0, n, src, dst, body⟩] }).emit
      (.frame p n c.rxSeq src dst false body)
  else s

/-- A frame of this unit. -/
def State.sendOwn (s : State) (p : Nat) (dst : BitVec 8) (body : Frame) : State := s.sendFrame p s.ownSrc dst body

/-- The link index of the twin (R405). -/
def State.twinIndex (s : State) : Option Nat := s.index.map (fun i => if i % 2 = 0 then i + 1 else i - 1)

/-- The twin's index as an origin (R465); 0xFF where this unit holds none. -/
def State.twinSrc (s : State) : BitVec 8 := match s.twinIndex with | some i => BitVec.ofNat 8 i | none => 0xFF

/-- The path of a pair frame (R414): twin A, twin B, or the chain. -/
def State.pairPath (s : State) : Option (Nat × BitVec 8) :=
  if s.portUp 2 then some (2, 0xFF)
  else if s.portUp 3 then some (3, 0xFF)
  else if s.portUp 1 then s.twinIndex.map (fun i => (1, BitVec.ofNat 8 i))
  else none

/-- Sends a pair frame. -/
def State.sendPair (s : State) (body : Frame) : State :=
  match s.pairPath with
  | some (p, d) => s.sendOwn p d body
  | none => s

/-- Sends a tally frame: on twin A, or on twin B while twin A is not UP (R411; TDIG likewise, log entry 15). -/
def State.sendTally (s : State) (body : Frame) : State :=
  if s.portUp 2 then s.sendOwn 2 0xFF body else s.sendOwn 3 0xFF body

/-- Sends on twin A, on twin B and on chain-out to the twin (R409, R410). -/
def State.sendThree (s : State) (body : Frame) : State :=
  let s1 := (s.sendOwn 2 0xFF body).sendOwn 3 0xFF body
  match s.twinIndex with
  | some i => s1.sendOwn 1 (BitVec.ofNat 8 i) body
  | none => s1

/-- Frames that the partner has acknowledged are kept no longer (R387 ACK, R389). -/
def ackHeld (held : List Held) (ack : BitVec 16) : List Held :=
  if held.any (fun h => h.lseq == ack) then (held.dropWhile (fun h => h.lseq != ack)).drop 1 else held

/-- A NAK naming the LSEQ expected leaves on a port (R390). -/
def State.sendNak (s : State) (p : Nat) : State :=
  s.emit (.frame p 0 (s.chPort p).rxSeq s.ownSrc 0xFF false (.nak ((s.chPort p).rxSeq + 1)))

/-- The partner's ACK releases frames, in whatever frame it comes (R387, R389). -/
def State.ackSeen (s : State) (p : Nat) (ack : BitVec 16) : State :=
  s.setChPort p { s.chPort p with held := ackHeld (s.chPort p).held ack }

/-- A sequenced frame arrives with a good CRC (R390): accepted when its LSEQ is the one expected, otherwise discarded with
one NAK. -/
def State.accept (s : State) (p : Nat) (h : ChHdr) : State × Bool :=
  if !s.portUp p then (s, false)
  else
    let c := s.chPort p
    if h.lseq = c.rxSeq + 1 then (s.setChPort p { c with rxSeq := h.lseq, held := ackHeld c.held h.ack }, true)
    else (s.sendNak p, false)

/-- The frame is for this unit: addressed to its index, or to the partner on the port (R387). -/
def State.forMe (s : State) (h : ChHdr) : Bool := h.dst == 0xFF || some h.dst.toNat == s.index

/-- A frame arrives on a port: accepted, passed on from chain-in to chain-out when it is addressed elsewhere (R392), or
handled. -/
def State.arrive (s : State) (p : Nat) (h : ChHdr) (body : Frame) (f : State → State) : State :=
  match s.accept p h with
  | (s1, true) =>
    if s1.forMe h then f s1
    else if p = 0 then s1.sendFrame 1 h.src h.dst body
    else s1
  | (s1, false) => s1

/-- A port leaves or enters a state (R385): LINK_CHANGE on every change into or out of UP. -/
def State.setPort (s : State) (p x : Nat) : State :=
  let was := s.fld (A.chPstat p) 0 2 == 2
  let s1 := s.setFld (A.chPstat p) 0 2 x
  if was != (x == 2) then s1.raise (64 + 2 * p) p 0 else s1

/-- Retry exhaustion (R391): counted and raised; every frame held is lost; the port trains, one that is DOWN stays so. -/
def State.exhaust (s : State) (p : Nat) : State :=
  let s1 := (s.count (A.chPstat p) 16 16).raise (65 + 2 * p) p 0
  let s2 := s1.setChPort p { s1.chPort p with held := [] }
  if s2.fld (A.chPstat p) 0 2 = 2 then s2.setPort p 1 else s2

/-- The frames a port holds are retransmitted (R390): RETX is set, and each counts. Where one has been retransmitted 8 times
already, the retries are exhausted (R391, log entry 136). -/
def State.resend (s : State) (p : Nat) : State :=
  let c := s.chPort p
  if !s.portUp p then s
  else if c.held.any (fun h => 8 ≤ h.tries) then s.exhaust p
  else
    c.held.foldl (fun s h => (s.count (A.chRetrycnt p) 0 32).emit (.frame p h.lseq c.rxSeq h.src h.dst true h.body))
      (s.setChPort p { c with held := c.held.map (fun h => { h with tries := h.tries + 1 }) })

/-- NAK (R390): what came before the named frame has been received; the rest is retransmitted. -/
def nak (p : ChainPortId) (expected : BitVec 16) (s : State) : State :=
  s.within 30 ((s.ackSeen p.val (expected - 1)).resend p.val)

/-- BAD_FRAME: a frame that is not taken. With a bad CRC it is discarded, and a NAK names the LSEQ expected (R390); with a reserved
KIND or a nonzero reserved byte it is acknowledged and discarded (R388); of an IDLE frame only the ACK counts (R387). -/
def badFrame (p : ChainPortId) (k : BadKind) (s : State) : State :=
  match k with
  | .crc => if s.portUp p.val then s.sendNak p.val else s
  | .reserved lseq ack => (s.accept p.val ⟨0xFF, 0xFF, lseq, ack⟩).1
  | .idle ack => s.within 30 (s.ackSeen p.val ack)

/-- RETRANSMIT_TIMEOUT (R390): 250 ns without acknowledgement. -/
def retransmitTimeout (p : ChainPortId) (s : State) : State := s.resend p.val

/-- RETRY_EXHAUSTED (R391): a held frame has been retransmitted 8 times, or its first transmission lies 2 µs back. -/
def retryExhausted (p : ChainPortId) (s : State) : State :=
  if s.islandUp 30 && (s.chPort p.val).held.any (fun h => 8 ≤ h.tries || h.sent + 2 ≤ s.timer) then s.exhaust p.val else s

/-- PORT_DELAY_MEASURE (R386): half the measured round trip. A port in UP whose round trip exceeds 200 ns is not asked
to leave UP. -/
def portDelayMeasure (p : ChainPortId) (roundTripCycles : BitVec 16) (s : State) : State :=
  if s.portUp p.val then s.setFld (A.chPdelay p.val) 0 16 (roundTripCycles.toNat / 2) else s

/-- PARTNER_SIGNAL_DETECT (R385): DOWN to TRAIN while `CH_CTL.EN` is 1. -/
def partnerSignalDetect (p : ChainPortId) (s : State) : State :=
  if s.bit A.chCtl 0 ∧ s.fld (A.chPstat p.val) 0 2 = 0 ∧ s.islandUp 30 then s.setPort p.val 1 else s

/-! ## The frame's bytes (R387, R388) -/

/-- A list cut or filled with 0 to n bytes. -/
def padTo (n : Nat) (bs : List Byte) : List Byte := (bs ++ List.replicate n 0).take n

/-- KIND. -/
def Frame.kind : Frame → Byte
  | .nak _ => 0x01
  | .mark _ _ _ => 0x10
  | .hb _ _ _ _ => 0x20
  | .take _ _ => 0x21
  | .fence _ _ _ => 0x22
  | .relay _ _ | .prep _ _ _ _ _ _ | .acc _ | .rej _ _ | .commit _ | .abort _ => 0x23
  | .tsamp _ => 0x24
  | .tdig _ _ _ => 0x25
  | .strm _ => 0x30
  | .cmd _ _ _ _ => 0x40
  | .cpl _ _ _ => 0x41
  | .enumToken _ _ | .enumDone _ _ | .enumRequest => 0x50

/-- HDR of a PAIRC frame. -/
def pairHdr (step : Nat) (status : Byte) (tag : Word) : List Byte := [Config.pairStep step, status, 0, 0] ++ bytesOf tag.toNat 4

/-- HDR; bytes not given are reserved, 0. -/
def Frame.hdr : Frame → List Byte
  | .nak e => bytesOf e.toNat 2
  | .mark d _ _ => [BitVec.ofNat 8 d]
  | .hb st drv e _ => [st.setWidth 8, BitVec.ofNat 8 (b2n drv), 0, 0] ++ bytesOf e.toNat 4
  | .take e _ => [0, 0, 0, 0] ++ bytesOf e.toNat 4
  | .fence c e _ => [c, 0, 0, 0] ++ bytesOf e.toNat 4
  | .relay tag _ => pairHdr 0 0 tag
  | .prep tag _ _ _ _ _ => pairHdr 1 0 tag
  | .acc tag => pairHdr 2 0 tag
  | .rej tag st => pairHdr 3 st tag
  | .commit tag => pairHdr 4 0 tag
  | .abort tag => pairHdr 5 0 tag
  | .tsamp es => [BitVec.ofNat 8 es.length]
  | .tdig b _ _ => [BitVec.ofNat 8 b]
  | .strm es => [BitVec.ofNat 8 es.length]
  | .cmd q tag iss _ => bytesOf q.toNat 2 ++ bytesOf tag.toNat 4 ++ [iss.setWidth 8]
  | .cpl q tag _ => bytesOf q.toNat 2 ++ bytesOf tag.toNat 4
  | .enumToken next ovf => [Config.enumPhase 0, next, BitVec.ofNat 8 (b2n ovf)]
  | .enumDone count ovf => [Config.enumPhase 1, 0, BitVec.ofNat 8 (b2n ovf), count]
  | .enumRequest => [Config.enumPhase 2]

/-- PAY; what PREP carries beyond R388's bytes has no place in it (log entry 37). -/
def Frame.pay : Frame → List Byte
  | .mark _ g res => bytesOf g.toNat 8 ++ bytesOf res.toNat 4
  | .hb _ _ _ g | .take _ g | .fence _ _ g => bytesOf g.toNat 8
  | .relay _ p => bytesOf 0 8 ++ bytesOf p.toNat 64
  | .prep _ g _ _ _ p => bytesOf g.toNat 8 ++ bytesOf p.toNat 64
  | .tsamp es => es.flatMap fun x => bytesOf (x.word.toNat + x.tag.toNat * 2 ^ 32 + x.lane.val * 2 ^ 48 + x.slot.val * 2 ^ 58) 8
  | .tdig _ g ds => bytesOf g.toNat 8 ++ ds.flatMap fun d => bytesOf d.toNat 4
  | .strm es => es.flatMap fun x => bytesOf (x.word.toNat + x.tag.toNat * 2 ^ 32 + x.chan.toNat * 2 ^ 48 + x.sid.toNat * 2 ^ 56) 8
  | .cmd _ _ _ p => bytesOf p.toNat 64
  | .cpl _ _ c => bytesOf c.toNat 32
  | _ => []

/-- The 256 bytes of a frame (R387): CRC-32C over bytes 0 to 251. -/
def frameBytes (lseq ack : BitVec 16) (src dst : BitVec 8) (retx : Bool) (body : Frame) : List Byte :=
  let b := [body.kind, BitVec.ofNat 8 (b2n retx)] ++ bytesOf lseq.toNat 2 ++ bytesOf ack.toNat 2 ++ [src, dst] ++ padTo 8 body.hdr ++
    padTo 236 body.pay
  b ++ bytesOf (crc32c b).toNat 4

/-! ## The member's state (R406, R407) -/

/-- State codes of `TW_STAT`. -/
def twSolo : Nat := 0
def twJoin : Nat := 1
def twStandby : Nat := 2
def twActive : Nat := 3
def twFenced : Nat := 4

def State.twState (s : State) : Nat := s.fld A.twStat 0 3
def State.drv (s : State) : Bool := s.bit A.twStat 3
def State.silent (s : State) : Bool := s.bit A.twStat 4
def State.pairDom (s : State) : Nat := s.fld A.twCfg 0 2
def State.epoch (s : State) : Word := s.rawReg A.twEpoch
/-- JOIN, STANDBY or ACTIVE. -/
def State.paired (s : State) : Bool := s.twState == twJoin || s.twState == twStandby || s.twState == twActive

def State.modTwin (s : State) (f : Twin → Twin) : State := { s with twin := f s.twin }

/-- Twin events name the epoch (R423): OBJ has its low 16 bits, INFO the rest (log entry 137). -/
def State.twinEvent (s : State) (src : Nat) : State := s.raise src s.epoch.toNat (s.epoch.toNat / 2 ^ 16)

/-- A change of state (R407): SILENT belongs to ACTIVE. -/
def State.toTwState (s : State) (x : Nat) : State :=
  let s1 := s.setFld A.twStat 0 3 x
  let s2 := if x = twActive then s1
    else (s1.setFld A.twStat 4 1 0).modTwin fun t => { t with h := none, drill := false, driveAt := none }
  s2.twinEvent 80

/-- Causes of a fence (`TW_STAT.FCAUSE`). -/
def fcMismatch : Nat := 1
def fcDoubt : Nat := 2
def fcSuperseded : Nat := 3
def fcSilenced : Nat := 4

/-- The member enters FENCED (R406, R423): it drives no TWIN lane and is no longer a member; what it awaited as a twin
is gone. -/
def State.fenced (s : State) (cause : Nat) : State :=
  let s1 := (s.setFld A.twStat 3 1 0).setFld A.twStat 8 3 cause
  ((s1.toTwState twFenced).modTwin fun t => { t with inn := [] }).twinEvent 84

/-- A tally mismatch (R413). -/
def State.mismatch (s : State) : State :=
  let s1 := (s.count A.twMiscnt 0 32).twinEvent 83
  if s.twState = twJoin then s1.modTwin fun t => { t with agree := 0, clean := false }
  else if s.twState = twStandby then s1.fenced fcMismatch
  else if s.twState = twActive ∧ s.twin.hbState.toNat = twStandby then
    s1.sendPair (.fence (BitVec.ofNat 8 fcMismatch) s1.epoch (s1.dom s1.pairDom).cnt)
  else s1

/-- The member silences itself (R417): a drill, or a fault. A drill that meets a fault ends as a fault (log entry 16). -/
def State.silence (s : State) (drill : Bool) : State :=
  if s.twState = twActive then
    if s.silent then s.modTwin fun t => { t with drill := t.drill && drill }
    else (s.setFld A.twStat 4 1 1).modTwin fun t => { t with drill := drill, h := none, recEpoch := s.epoch }
  else s

/-! ## Drive rights (R87, R408) -/

/-- The code of a lane in `TW_LANE`; a word with an uncorrectable error acts as NONE for every lane (17 R528). -/
def State.laneCodeNow (s : State) (lane : Nat) : Nat :=
  if s.bad 6 (lane / 16) then 2 else s.fld (A.twLane (lane / 16)) (2 * (lane % 16)) 2

/-- The code in effect: a clock group changes with its first frame after a change (16 R512). -/
def State.laneCode (s : State) (lane : Nat) : Nat :=
  match (s.group (lane / 8)).codes with
  | some c => bitsAt c.toNat (2 * (lane % 8)) 2
  | none => s.laneCodeNow lane

/-- The unit holds the drive right for a lane (R408). -/
def State.driveRight (s : State) (lane : Nat) : Bool :=
  s.laneCode lane == 0 || (s.laneCode lane == 1 && s.drv)

/-! ## The commands -/

/-- NAK (12 R390). -/
def execNak (p : ChainPortId) (e : BitVec 16) (s : State) : Host.Outcome State Fault Refusal := finish s (nak p e s)
/-- BAD_FRAME (12 R390). -/
def execBadFrame (p : ChainPortId) (k : BadKind) (s : State) : Host.Outcome State Fault Refusal := finish s (badFrame p k s)
/-- RETRANSMIT_TIMEOUT (12 R390). -/
def execRetransmitTimeout (p : ChainPortId) (s : State) : Host.Outcome State Fault Refusal :=
  finish s (retransmitTimeout p s)
/-- RETRY_EXHAUSTED (12 R391). -/
def execRetryExhausted (p : ChainPortId) (s : State) : Host.Outcome State Fault Refusal := finish s (retryExhausted p s)
/-- PORT_DELAY_MEASURE (12 R386). -/
def execPortDelayMeasure (p : ChainPortId) (n : BitVec 16) (s : State) : Host.Outcome State Fault Refusal :=
  finish s (portDelayMeasure p n s)
/-- PARTNER_SIGNAL_DETECT (12 R385). -/
def execPartnerSignalDetect (p : ChainPortId) (s : State) : Host.Outcome State Fault Refusal :=
  finish s (partnerSignalDetect p s)

end Sys2Proof.Machine
end

