-- ==== Sys2Proof/Machine/Ports.lean ====
section
/-! DEFINITION. Converter ports (03), egress registers and fallback (02 R67-R70), the carriage of outbox words (03 R105). -/

namespace Sys2Proof.Machine

/-! ## Clock groups -/

def State.cgEn (s : State) (k : Nat) : Bool := s.bit (cgReg A.cgCtl k) 0
def State.cgMaster (s : State) (k : Nat) : Bool := s.bit (cgReg A.cgCtl k) 1
def State.cgDom (s : State) (k : Nat) : Nat := s.fld (cgReg A.cgCtl k) 2 2
/-- Slot width in bits (R96). -/
def widthBits (code : Nat) : Nat := match code with | 0 => 16 | 1 => 24 | _ => 32
def State.cgWidth (s : State) (k : Nat) : Nat := widthBits (s.fld (cgReg A.cgCtl k) 8 2)
/-- `CG_STAT.STATE`: 0 OFF, 1 ALIGN, 2 RUN, 3 LOST. -/
def State.cgState (s : State) (k : Nat) : Nat := s.fld (cgReg A.cgStat k) 0 2
def State.setCgState (s : State) (k x : Nat) : State := s.setFld (cgReg A.cgStat k) 0 2 x
def State.modGroup (s : State) (k : Nat) (f : Group → Group) : State := s.setGroup k (f (s.group k))

/-- A port group event (R120). -/
def State.portEvent (s : State) (k e : Nat) : State := s.raise (192 + 16 * (k / 8) + e) k 0

/-- The port group is frozen (19 R576). -/
def State.pgFrozen (s : State) (g : Nat) : Bool := s.frozen g (A.pgCtl g) 1

/-- Largest SLOTS at a RATE code (R89). -/
def maxSlots (rate : Nat) : Nat := 32 / 2 ^ (rate / 2)

/-- A configuration that breaks R88, R89 or R91, or has WIDTH 0b11 (R96). -/
def State.cgInvalid (s : State) (v : Word) : Bool :=
  let rate := s.fld (A.rdCtl (fget v 2 2)) 1 3
  let slots := fget v 10 6 + 1
  fget v 8 2 == 3 || slots > maxSlots rate || (fget v 4 2 ≥ 2 && slots != 2) ||
    rateHz rate * slots * widthBits (fget v 8 2) > 49152000

/-- Every input and output position of a page (R103): local lane and slot. -/
def State.smAllPos (s : State) (g p : Nat) : List (Nat × Nat) :=
  (s.smEntries g p).flatMap fun ie =>
    let e := ie.2
    if smOp e = 1 ∨ smOp e = 2 then smPos (s.smSlots g p) (smCount e) (smLane e) (smSlot e)
    else if smOp e = 3 then [(smLane e, smSlot e), (smOlane e, smOslot e)]
    else []

/-- A live map covers positions of group k at or past its SLOTS, which are ignored (R112). -/
def State.outOfRange (s : State) (k : Nat) : Bool :=
  (s.smAllPos (k / 8) (s.groupPage k)).any (fun x => x.1 / 8 == k % 8 && s.cgSlots k ≤ x.2)

/-- A write of `CG_CTL[c]` (R96): only EN changes while EN is 1; an enable with an invalid configuration is refused. A
change of SLOTS that leaves positions out of range sets RANGE; at an enable MAP_RANGE is raised as well (R112). -/
def State.cgCtlWrite (s : State) (k : Nat) (v : Word) : State :=
  let r := cgReg A.cgCtl k
  if s.cgEn k then
    if fget v 0 1 = 0 then ((s.setFld r 0 1 0).setCgState k 0).modGroup k fun x => { x with marks := 0, since := 0, codes := none }
    else s
  else
    let s1 := s.setReg r (v &&& 0xFFFE)
    let s2 := if s1.cgSlots k != s.cgSlots k && s1.outOfRange k then s1.setFld (A.pgStat (k / 8)) 2 1 1 else s1
    if fget v 0 1 = 0 then s2
    else if s2.cgInvalid v then s2.setFld (cgReg A.cgStat k) 2 1 1
    else
      let s3 := ((s2.setFld r 0 1 1).setCgState k 1).modGroup k fun x => { x with marks := 0 }
      if s3.outOfRange k then (s3.setFld (A.pgStat (k / 8)) 2 1 1).portEvent k 5 else s3

/-- CG_ENABLE and CG_DISABLE (R96). -/
def cgEnable (k : GroupId) (v : Word) (s : State) : State := s.cgCtlWrite k.val (v ||| 1)
def cgDisable (k : GroupId) (v : Word) (s : State) : State := s.cgCtlWrite k.val (v &&& 0xFFFFFFFE)

/-- The unit drives CPBCK[k] and CPFS[k]: a master group that is enabled, by the code of its first lane (R92, 12 R408). -/
def State.clockDriven (s : State) (k : Nat) : Bool := s.cgEn k && s.cgMaster k && s.driveRight (8 * k)

/-- A frame starts: its number (R97), the drive codes that now follow `TW_LANE` (16 R512), and the mark that a master group
launches on CPFS (R92). -/
def State.startFrame (s : State) (k : Nat) (f : DWord) : State :=
  let s1 := (s.setReg (cgReg A.cgFrame k) (f.setWidth 32)).modGroup k fun x => { x with frame := f, marks := 1, codes := none }
  if s1.clockDriven k then s1.emit (.frameSync k f) else s1

/-- A slip is counted and raised (R119). -/
def State.slip (s : State) (k : Nat) : State := (s.count (cgReg A.cgErrcnt k) 16 16).portEvent k 3

/-- The frame f that is marked next leaves the current grain without a frame: the frame before it is older than the grain, and
f belongs to a later one (R119). -/
def State.frameGap (s : State) (k : Nat) (f : DWord) : Bool :=
  let n := (s.dom (s.cgDom k)).cnt.toNat
  (s.group k).frame.toNat < n && n < f.toNat

/-- FRAME_MARK (R98, R119): a mark arrives `m.bits` bit clocks after the one before, in or out of its place; `f` is the
number of the frame it starts (R93). DESIGN CHOICE: only a group in RUN has frames that FS_ERROR can discard or that slip, so
in ALIGN and LOST a mark wrongly spaced counts no FSERR and raises nothing (log entry 134). -/
def frameMark (k : GroupId) (m : MarkObs) (f : DWord) (s : State) : State :=
  let k := k.val
  let good := m.bits == s.cgSlots k * s.cgWidth k && m.inPlace
  s.within (13 + k / 8) <|
  if !s.cgEn k || !s.domRuns (s.cgDom k) then s
  else if s.cgState k = 2 then
    let slips := s.frameGap k f || (good && f == (s.group k).frame)
    let s1 := if good then s.startFrame k f else ((s.count (cgReg A.cgErrcnt k) 0 16).startFrame k f).portEvent k 2
    if slips then s1.slip k else s1
  else if s.cgMaster k || (good && (s.group k).marks ≥ 1) then
    let s1 := ((s.setCgState k 2).modGroup k fun x => { x with since := 0 }).startFrame k f
    if s.cgState k = 3 then s1.portEvent k 1 else s1
  else s.startFrame k f

/-- BCLK_LOSS (R119): a slave group that sees no bit clock is LOST. -/
def bclkLoss (k : GroupId) (s : State) : State :=
  let k := k.val
  s.within (13 + k / 8) <|
  if s.cgEn k && !s.cgMaster k && s.domRuns (s.cgDom k) && (s.cgState k == 1 || s.cgState k == 2) then
    ((s.setCgState k 3).modGroup k fun x => { x with marks := 0 }).portEvent k 0
  else s

/-- At the boundary after grain g, a group of the domain in RUN without a frame numbered g or later has slipped (R119). -/
def State.slipCheck (s : State) (d : Nat) : State :=
  s |> upTo 128 fun s k =>
    if s.cgEn k && s.cgDom k == d && s.cgState k == 2 && (s.group k).frame.toNat + 1 < (s.dom d).cnt.toNat then s.slip k
    else s

/-! ## Slot-map pages (R100, R101, R108, R109) -/

/-- The active slot-map page of a port group. -/
def State.pgActive (s : State) (g : Nat) : Nat := s.fld (A.pgCtl g) 0 1
def State.pgPend (s : State) (g : Nat) : Bool := s.bit (A.pgStat g) 3

/-- SLOTMAP_PAGE_WRITE (R101). -/
def State.slotmapWrite (s : State) (g p w : Nat) (v : Word) : State :=
  s.pagedWrite (smOff g p w) v (p == s.pgActive g) (s.pgPend g) (A.pgStat g) 0 1 1
    (g * 4096 + p * 2048 + (if w < 0x400 then 2048 else (w - 0x400) / 2))

def slotmapPageWrite (g : PortGroupId) (page : Fin 2) (word : Fin 5120) (v : Word) (s : State) : State :=
  s.slotmapWrite g.val page.val word.val v

/-- Clock group k changes over to the pending page; with the last, the page becomes active (R109). -/
def State.changeover (s : State) (k : Nat) : State :=
  let g := k / 8
  let p := 1 - s.pgActive g
  let since : DWord :=
    match (s.group k).due with
    | some (d, c) => if s.cgState k != 2 then 0 else if d = s.cgDom k then c else (s.group k).frame + 1
    | none => 0
  let s1 := s.modGroup k fun x => { x with page := p, since := since, due := none }
  if (List.range 8).all (fun c => (s1.group (8 * g + c)).due.isNone) then
    ((s1.setFld (A.pgCtl g) 0 1 p).setFld (A.pgStat g) 3 1 0).portEvent k 4
  else s1

/-- Clock group k can change over to an accepted page (R109): in RUN in the command's domain, with its frame numbered C or
later; in RUN in another domain, with the next frame before whose end of slot 0 the boundary of C can come; with no frame in
RUN, once that boundary has come. -/
def State.slotmapDue (s : State) (k : Nat) : Bool :=
  match (s.group k).due with
  | none => false
  | some (d, c) =>
    let n := (s.dom d).cnt.toNat
    let applied := tget 0 s.fab.carryPage (k / 8) != s.pgActive (k / 8)
    if s.cgState k = 2 then
      if s.cgDom k = d then c.toNat ≤ (s.group k).frame.toNat else applied || (s.domRuns d && c.toNat ≤ n + 1)
    else applied || (s.domRuns d && c.toNat ≤ n)

/-- SLOTMAP_CHANGEOVER (R109): the first frame of clock group k whose slot 0 has its last bit at or after the boundary. For a
group in RUN in another domain than the command's it comes before that frame, which is the next one. -/
def slotmapChangeover (k : GroupId) (s : State) : State :=
  s.within (13 + k.val / 8) <| if s.slotmapDue k.val then s.changeover k.val else s

/-- SLOTMAP_COMMIT at its fabric grain start (R105, R109): carriage follows the new page, and the groups that run no
frame in RUN change over, the highest-numbered last. -/
def State.slotmapApply (s : State) (g : Nat) : State :=
  if s.pgPend g then
    let p := 1 - s.pgActive g
    let s1 := { s with fab := { s.fab with carryPage := tset 0 s.fab.carryPage g p } }
    (List.range 8).foldl (init := s1) fun s c =>
      let k := 8 * g + c
      if s.cgState k != 2 && (s.group k).due.isSome then s.changeover k else s
  else { s with fab := { s.fab with carryPage := tset 0 s.fab.carryPage g (s.pgActive g) } }

/-! ## Egress registers (02 R67-R70) -/

/-- A delivered word replaces the word of the same tag parity (R68). -/
def Egr.put (e : Egr) (tag : BitVec 16) (v : Word) : Egr :=
  if tag.getLsbD 0 then { e with odd := some (tag, v) } else { e with even := some (tag, v) }

/-- The word that carries a tag (R69). -/
def Egr.peek (e : Egr) (tag : BitVec 16) : Option Word :=
  match (if tag.getLsbD 0 then e.odd else e.even) with
  | some (t, v) => if t = tag then some v else none
  | none => none

/-- The entry of a tag emptied (R68). -/
def Egr.take (e : Egr) (tag : BitVec 16) : Egr :=
  if tag.getLsbD 0 then { e with odd := none } else { e with even := none }

/-- What a load sends: the sample, whether a fallback applied, and whether it is the late word (R69). -/
structure Sent where
  val : Word
  fell : Bool
  late : Bool
  deriving DecidableEq, Repr

/-- A load with the tag expected, a policy FB, and the twin's word for it (R69). -/
def Egr.load (e : Egr) (tag : BitVec 16) (fb : Nat) (twin : Option Word) : Egr × Sent :=
  let lateWord := match e.late with | some t => if fb = 3 then (e.peek t).map (fun v => (t, v)) else none | none => none
  match lateWord with
  | some (t, v) => ({ ((e.take t).take tag) with last := v, late := none }, ⟨v, true, true⟩)
  | none =>
    match e.peek tag with
    | some v => ({ (e.take tag) with last := v, late := none }, ⟨v, false, false⟩)
    | none =>
      let v := if fb = 1 then 0 else if fb = 2 then twin.getD e.last else e.last
      ({ e with last := v, late := if fb = 3 then some tag else none }, ⟨v, true, false⟩)

/-- The egress register of a lane's slot. -/
def egrKey (lane slot : Nat) : Nat := lane * 32 + slot
def State.egrOf (s : State) (lane slot : Nat) : Egr := tget Egr.init s.egr (egrKey lane slot)
def State.setEgr (s : State) (lane slot : Nat) (e : Egr) : State :=
  { s with egr := tset Egr.init s.egr (egrKey lane slot) e }

/-- The twin's word for a channel and tag, from the twin store of a member (R69, 12 R411). -/
def State.twinWord (s : State) (lane slot : Nat) (tag : BitVec 16) : Option Word :=
  if s.paired then (tget Egr.init s.twin.store (egrKey lane slot)).peek tag else none

/-- A word is delivered to an egress register (R68); on a TWIN lane a member sends it to its twin (12 R411). -/
def State.egrDeliver (s : State) (lane slot : Nat) (tag : BitVec 16) (v : Word) : State :=
  let s1 := s.setEgr lane slot ((s.egrOf lane slot).put tag v)
  if s.paired && s.laneCodeNow lane == 1 then
    s1.sendTally (.tsamp [⟨v, tag, Fin.ofNat 1024 lane, Fin.ofNat 32 slot⟩])
  else s1

/-! ## Slots -/

/-- An input slot's word (R94): `raw` holds the slot's bits. -/
def slotIn (raw : Word) (width : Nat) (just : Bool) : Word :=
  let x := raw.toNat % 2 ^ width
  if just then BitVec.ofInt 32 (sgn x width) else BitVec.ofNat 32 (x * 2 ^ (32 - width))

/-- The bits an output slot sends of a word (R94). -/
def slotOut (v : Word) (width : Nat) (just : Bool) : Word :=
  BitVec.ofNat 32 (if just then v.toNat % 2 ^ width else v.toNat / 2 ^ (32 - width))

/-- A DIRECT path's word (R113): the product with GAIN, rounded half upwards, saturated; and whether it saturated. -/
def directGain (v : Word) (gain : Nat) : Word × Bool :=
  let x := (v.toInt * sgn gain 16 + 2 ^ 12) / 2 ^ 13
  (BitVec.ofInt 32 (satI x 32), satI x 32 != x)

/-- One entry's action on a completed input slot (R104, R113, R116). -/
def State.slotAct (s : State) (g lane slot : Nat) (raw stamp : Word) (e : Nat) : State :=
  let k := 8 * g + lane / 8
  let w := s.cgWidth k
  if smOp e = 1 then
    (smCover (s.smSlots g (s.groupPage k)) e).foldl (init := s) fun s x =>
      if x.1 = lane ∧ x.2.1 = slot then
        s.offer g ⟨x.2.2 * 4, slotIn raw w (smJust e), if smTs e then some stamp else none⟩
      else s
  else if smOp e = 3 ∧ smLane e = lane ∧ smSlot e = slot then
    let r := if smMute e then (0, false) else directGain (slotIn raw w false) (bitsAt e 0 16)
    let s1 := if r.2 then s.count (A.pgSatcnt g) 0 32 else s
    s1.egrDeliver (64 * g + smOlane e) (smOslot e) ((s.dom (s.cgDom k)).cnt.setWidth 16) r.1
  else s

/-- Unit time at a port clock edge (R116): cycle `edge`, 0 to 399, of 2.5 ns in the µs that unit time stands at. DESIGN
CHOICE: half a ns is cut off (log entry 135). -/
def State.edgeTime (s : State) (edge : Fin 400) : Word := BitVec.ofNat 32 (s.utime + edge.val * 5 / 2)

/-- SLOT_RECEIVE (R104): an input slot of a frame in RUN completes with bits `raw`; the port clock sampled its last bit at
`edge`. -/
def slotReceive (lane : LaneId) (slot : SlotId) (raw : Word) (edge : Fin 400) (s : State) : State :=
  let g := lane.val / 64
  let k := lane.val / 8
  let p := s.groupPage k
  s.within (13 + g) <|
  if s.cgState k = 2 ∧ slot.val < s.cgSlots k ∧ !s.smDir g p (lane.val % 64) ∧ !s.pgFrozen g then
    let stamp := s.edgeTime edge
    (s.smEntries g p).foldl (fun s e => s.slotAct g (lane.val % 64) slot.val raw stamp e.2) s
  else s

/-- What the unit puts on CPDATA[n] (R87). -/
inductive LanePin where
  | highZ
  | low
  | data
  deriving DecidableEq, Repr

/-- CPDATA of a lane whose slots follow map page p (R87): an output lane of an enabled clock group, with the drive right,
carries data in RUN and is low otherwise; in every other case it is in high impedance. An input lane never drives. -/
def State.lanePin (s : State) (lane p : Nat) : LanePin :=
  let k := lane / 8
  if s.smDir (lane / 64) p (lane % 64) && s.cgEn k && s.driveRight lane && s.islandUp (13 + lane / 64) then
    if s.cgState k = 2 then .data else .low
  else .highZ

/-- A slot of a frame that follows page p leaves on its pin where the unit drives it (R87). -/
def State.drive (s : State) (lane slot p : Nat) (v : Word) : State :=
  if s.lanePin lane p = .data then s.emit (.lane lane slot v) else s

/-- Source 23 for a converter lane (R84). -/
def State.fellBack (s : State) (lane slot fb : Nat) (late : Bool) : State :=
  s.raise 23 lane (slot * 2 ^ 2 + fb * 2 ^ 8 + b2n late * 2 ^ 10)

/-- A word loaded on a TWIN lane is compared with the twin-store word of its tag, where that is present (12 R413). -/
def State.tally (s : State) (lane slot : Nat) (tag : BitVec 16) (v : Word) : State :=
  match s.twinWord lane slot tag with
  | some w =>
    if s.laneCode lane = 1 then
      let s1 := s.modTwin fun t => { t with compared := true }
      if w = v then s1 else s1.mismatch
    else s
  | none => s

/-- A load of an egress channel with an entry (R69, 12 R413, R417). -/
def State.egrLoad (s : State) (lane slot : Nat) (tag : BitVec 16) (fb : Nat) : State × Word :=
  let e := s.egrOf lane slot
  let tw := s.twinWord lane slot tag
  let useTwin := fun (t : State) => { t with twin := { t.twin with
    store := tset Egr.init t.twin.store (egrKey lane slot) ((tget Egr.init t.twin.store (egrKey lane slot)).take tag) } }
  if s.silent ∧ s.laneCode lane = 1 then
    let v := tw.getD e.last
    ((useTwin (s.setEgr lane slot { e with last := v })).fellBack lane slot 2 false, v)
  else
    let r := e.load tag fb tw
    let s1 := s.setEgr lane slot r.1
    if r.2.fell then
      let s2 := if r.2.late then s1.tally lane slot (e.late.getD tag) r.2.val else if fb = 2 then useTwin s1 else s1
      (s2.fellBack lane slot fb r.2.late, r.2.val)
    else (s1.tally lane slot tag r.2.val, r.2.val)

/-- EGRESS_LOAD (R69, R106): the load point of an output slot of frame `f` (R93). -/
def egressLoad (lane : LaneId) (slot : SlotId) (f : DWord) (s : State) : State :=
  let g := lane.val / 64
  let k := lane.val / 8
  let p := s.pageFor k f
  let l := lane.val % 64
  s.within (13 + g) <|
  if s.cgState k = 2 ∧ slot.val < s.cgSlots k ∧ s.smDir g p l then
    if s.pgFrozen g then s.drive lane.val slot.val p 0
    else match s.smOutEntry g p l slot.val with
      | none => s.drive lane.val slot.val p 0
      | some e =>
        let tag : BitVec 16 := (if smArrive e then f else f - 1).setWidth 16
        let r := s.egrLoad lane.val slot.val tag (smFb e)
        r.1.drive lane.val slot.val p (slotOut r.2 (s.cgWidth k) (smOp e == 2 && smJust e))
  else s

/-! ## Carriage of outbox words (R105, 04 R122) -/

/-- An entry joins the STRM frame being filled for a unit; a frame of 28 entries is sent on chain-out (12 R403). -/
def State.sendStrm (s : State) (dst : Nat) : State :=
  let es := tget [] s.chain.filling dst
  if es = [] then s
  else ({ s with chain := { s.chain with filling := tset [] s.chain.filling dst [] } }).sendOwn 1 (BitVec.ofNat 8 dst)
    (.strm es)

def State.addStrm (s : State) (dst : Nat) (x : StrmEntry) : State :=
  let es := tget [] s.chain.filling dst ++ [x]
  let s1 := { s with chain := { s.chain with filling := tset [] s.chain.filling dst es } }
  if es.length ≥ 28 then s1.sendStrm dst else s1

/-- STRM_FLUSH (12 R403): 64 cycles after its first entry a STRM frame is sent with what it holds. -/
def strmFlush (dst : BitVec 6) (s : State) : State := s.within 30 (s.sendStrm dst.toNat)

/-- A carried word reaches its egress register or stream. -/
def State.deliverWord (s : State) (x : EgrWord) : State :=
  match x.target with
  | .lane l sl => s.egrDeliver l sl x.tag x.val
  | .net i c =>
    let e := tget Egr.init s.net.egr (i * 64 + c)
    { s with net := { s.net with egr := tset Egr.init s.net.egr (i * 64 + c) (e.put x.tag x.val) } }
  | .chain i c =>
    let e := s.chEntry 1 s.chain.page i
    s.addStrm (cePeer e) ⟨x.val, x.tag, BitVec.ofNat 6 c, BitVec.ofNat 8 (ceSid e)⟩
  | .bank _ => s

/-- EGRESS_CARRY (R105): the oldest carriage of an egress wagon is read on port B and offered to the wagon, where a full
queue drops it; or the word at the head of the wagon, which waited `waited` cycles (fabric clock) for it (04 R139), is
delivered. -/
def egressCarry (w : WagonId) (ph : CarryPhase) (busy : Bool) (waited : BitVec 16) (s : State) : State :=
  s.within 12 <| match ph with
  | .offer =>
    match takeCarry (fun c => c.wagon == w.val && !carryToBank c) s.fab.carries with
    | none => s
    | some (c, rest) =>
      if s.borrowed c.src then s
      else
        let s1 := { s with fab := { s.fab with carries := rest } }
        match s1.fabRead c.src busy with
        | (s2, none) => s2
        | (s2, some v) =>
          if (s2.weq w.val).length < wagonDepth w.val then s2.setWeq w.val (s2.weq w.val ++ [⟨c.target, c.tag, v⟩])
          else s2.fabDrop w.val none
  | .deliver =>
    match s.weq w.val with
    | [] => s
    | x :: rest => ((s.setWeq w.val rest).waitMax w.val waited.toNat).deliverWord x

/-! ## The commands -/

/-- CG_ENABLE (03 R96). -/
def execCgEnable (k : GroupId) (v : Word) (s : State) : Host.Outcome State Fault Refusal := finish s (cgEnable k v s)
/-- CG_DISABLE (03 R96). -/
def execCgDisable (k : GroupId) (v : Word) (s : State) : Host.Outcome State Fault Refusal := finish s (cgDisable k v s)
/-- FRAME_MARK (03 R98). -/
def execFrameMark (k : GroupId) (m : MarkObs) (f : DWord) (s : State) : Host.Outcome State Fault Refusal :=
  finish s (frameMark k m f s)
/-- BCLK_LOSS (03 R119). -/
def execBclkLoss (k : GroupId) (s : State) : Host.Outcome State Fault Refusal := finish s (bclkLoss k s)
/-- SLOTMAP_PAGE_WRITE (03 R101). -/
def execSlotmapPageWrite (g : PortGroupId) (page : Fin 2) (word : Fin 5120) (v : Word) (s : State) :
    Host.Outcome State Fault Refusal := finish s (slotmapPageWrite g page word v s)
/-- SLOTMAP_CHANGEOVER (03 R109). -/
def execSlotmapChangeover (k : GroupId) (s : State) : Host.Outcome State Fault Refusal := finish s (slotmapChangeover k s)
/-- SLOT_RECEIVE (03 R104). -/
def execSlotReceive (lane : LaneId) (slot : SlotId) (raw : Word) (edge : Fin 400) (s : State) :
    Host.Outcome State Fault Refusal := finish s (slotReceive lane slot raw edge s)
/-- EGRESS_LOAD (02 R69). -/
def execEgressLoad (lane : LaneId) (slot : SlotId) (f : DWord) (s : State) : Host.Outcome State Fault Refusal :=
  finish s (egressLoad lane slot f s)
/-- EGRESS_CARRY (03 R105). -/
def execEgressCarry (w : WagonId) (ph : CarryPhase) (busy : Bool) (waited : BitVec 16) (s : State) :
    Host.Outcome State Fault Refusal := finish s (egressCarry w ph busy waited s)
/-- STRM_FLUSH (12 R403). -/
def execStrmFlush (dst : BitVec 6) (s : State) : Host.Outcome State Fault Refusal := finish s (strmFlush dst s)

end Sys2Proof.Machine
end

