-- ==== Sys2Proof/Machine/Net.lean ====
section
/-! DEFINITION. The network island (11): links, time servos, received streams, playout, egress packets, shaping. -/

namespace Sys2Proof.Machine

/-! ## Links and servos (R359, R362, R363, R382) -/

def State.modEth (s : State) (e : Nat) (f : EthPort → EthPort) : State := s.setEthPort e (f (s.ethPort e))
def State.ethLink (s : State) (e : Nat) : Bool := s.bit (A.netPstat e) 0
def State.ethEn (s : State) (e : Nat) : Bool := s.bit (A.netPctl e) 0

/-- `NET_SERVO.STATE`: 0 DISABLED, 1 LISTEN, 2 ACQUIRE, 3 LOCKED, 4 MASTER. -/
def State.servo (s : State) (e : Nat) : Nat := s.fld (A.netServo e) 0 3

/-- PROTO of the port's TIME_CONFIG (14 R476): 0 off. -/
def State.ethProto (s : State) (e : Nat) : Nat := (s.ethPort e).proto.toNat % 256

/-- Domains that follow a port see their source lost (02 R42, R363). -/
def State.ptpLost (s : State) (e : Nat) : State :=
  s |> upTo 4 fun s d =>
    if s.domSrc d = 2 ∧ s.fld (A.rdCtl d) 6 3 = e ∧ s.domRuns d then
      if s.domState d = 2 then s.enterHoldover d else s
    else s

/-- Unit time against the port it follows (R359): it follows one that is LOCKED; beyond 1 µs it steps at once. Within 1 µs it slews
as time passes. -/
def State.followPort (s : State) (e : Nat) : State :=
  let t := s.portTime e 0
  if s.fld A.netCtl 0 4 = e ∧ s.servo e = 3 ∧ ((t : Int) - s.utime).natAbs > 1000 then
    ({ s with utime := t }).raise 480 e 0
  else s

/-- A servo changes state; entering or leaving LOCKED or MASTER raises its event (R362, R382). Any change out of the two
is a lost source for the domains that follow the port (R363). The port's clock, which is unit time in MASTER, goes on from where it
stands, and unit time follows a port that enters LOCKED (R359). -/
def State.setServo (s : State) (e x : Nat) : State :=
  let was := s.servo e
  let clk := (s.portTime e 0 : Int) - s.refNs 0
  let s1 := (s.setFld (A.netServo e) 0 3 x).modEth e fun p => { p with syncs := 0, bad := 0, clk := clk }
  let s2 := (if x ≥ 3 ∧ x ≠ was then s1.raise (449 + 4 * e) e 0 else s1).followPort e
  if was ≥ 3 ∧ x ≠ was then
    let s3 := if x < 3 then s2.raise (450 + 4 * e) e 0 else s2
    s3.ptpLost e
  else s2

/-- LISTEN while the protocol is enabled and the link is up (R362). -/
def State.servoListen (s : State) (e : Nat) : State :=
  if s.servo e = 0 ∧ s.ethProto e ≠ 0 ∧ s.ethLink e then s.setServo e 1 else s

/-- TIME_CONFIG at its commit grain (14 R476): DISABLED, then R362. -/
def State.timeConfig (s : State) (e : Nat) (proto : BitVec 64) : State :=
  ((s.setServo e 0).modEth e fun p => { p with proto := proto }).servoListen e

/-- LINK_CHANGE (R355, R362): the link of an enabled port comes up, or a link goes down, which brings the servo to LISTEN from any
state. -/
def linkChange (e : EthId) (up : Bool) (s : State) : State :=
  let e := e.val
  if up = s.ethLink e ∨ (up ∧ !s.ethEn e) then s
  else
    let s1 := (s.setFld (A.netPstat e) 0 1 (b2n up)).raise (448 + 4 * e) e 0
    if up then s1.servoListen e else s1.setServo e 1

/-- The grandmaster the port now has (R382, R362): a change in LOCKED returns the servo to ACQUIRE. -/
def State.setGm (s : State) (e : Nat) (gm : DWord) : State :=
  if (s.ethPort e).gm = gm then s
  else
    let s1 := (s.modEth e fun p => { p with gm := gm }).raise (451 + 4 * e) e 0
    if s1.servo e = 3 then s1.setServo e 2 else s1

/-- A Sync message at the ns of unit time's µs (R362, R381): the port's clock as the foreman's servo leaves it, the offset, the runs
of good and bad offsets, the servo's moves. -/
def State.syncSeen (s : State) (e : Nat) (ofs : Int) (t : DWord) (ns : Nat) : State :=
  let s1 := (s.setReg (A.netOfs e) (BitVec.ofInt 32 (satI ofs 32))).modEth e fun p =>
    { p with clk := (t.toNat : Int) - s.refNs ns, syncs := if ofs.natAbs ≤ 100 then p.syncs + 1 else 0,
             bad := if ofs.natAbs > 1000 then p.bad + 1 else 0 }
  if s1.servo e = 2 ∧ (s1.ethPort e).syncs ≥ 16 then s1.setServo e 3
  else if s1.servo e = 3 ∧ (s1.ethPort e).bad ≥ 4 then s1.setServo e 2
  else s1.followPort e

/-- PDOM and ROLE (0 by BMCA, 1 master only, 2 slave only) of the port's TIME_CONFIG (14 R475, R476). -/
def State.ethPdom (s : State) (e : Nat) : Nat := bitsAt (s.ethPort e).proto.toNat 8 8
def State.ethRole (s : State) (e : Nat) : Nat := bitsAt (s.ethPort e).proto.toNat 32 8

/-- A PTP or gPTP message of the port's own domain (R357, R361, R362). A port that is master only selects no master, and one that is
slave only wins no BMCA. -/
def State.ptpMsg (s : State) (e : Nat) (dom : BitVec 8) (m : PtpMsg) (ns : Nat) : State :=
  if s.ethProto e = 0 ∨ dom.toNat ≠ s.ethPdom e then s
  else match m with
  | .sync ofs t => if s.servo e = 2 ∨ s.servo e = 3 then s.syncSeen e ofs t ns else s
  | .masterSelected gm =>
    if s.ethRole e = 1 then s
    else
      let s1 := s.setGm e gm
      if s1.servo e = 1 then s1.setServo e 2 else s1
  | .bmcaWon => if s.servo e = 1 ∧ s.ethRole e ≠ 2 then s.setServo e 4 else s
  | .betterMaster gm =>
    if s.ethRole e = 1 then s
    else
      let s1 := s.setGm e gm
      if s1.servo e = 4 then s1.setServo e 2 else s1
  | .other => s

/-- SYNC_TIMEOUT (R362): no Sync within 3 Sync intervals. -/
def syncTimeout (e : EthId) (s : State) : State := if s.servo e.val = 3 then s.setServo e.val 2 else s

/-! ## Stream entries (R365-R369) -/

def nePort (e : Nat) : Nat := bitsAt e 1 3
def neFmt (e : Nat) : Nat := bitsAt e 4 2
def neSfmt (e : Nat) : Nat := bitsAt e 8 3
def neJust (e : Nat) : Bool := bitAt e 17
def neArrive (e : Nat) : Bool := bitAt e 20
def neFb (e : Nat) : Nat := bitsAt e 21 2
def nePtime (e : Nat) : Nat := bitsAt e 23 3
def neTc (e : Nat) : Nat := bitsAt e 26 3
def neMtt (e : Nat) : Nat := bitsAt e 72 16
def neRtpofs (e : Nat) : Nat := bitsAt e 96 32
def neKey (e : Nat) : Nat := bitsAt e 128 64
def neTmpl (e : Nat) : Nat := bitsAt e 192 8

/-- Bytes per sample of an SFMT. -/
def sfmtBytes (sf : Nat) : Nat := match sf with | 0 => 2 | 1 => 3 | _ => 4

/-- Samples per packet (R366), doubled at 88.2 and 96 kHz and quadrupled at 176.4 and 192 kHz. -/
def sppOf (ptime rate : Nat) : Nat :=
  (match ptime with | 0 => 6 | 1 => 12 | 2 => 16 | 3 => 48 | _ => 192) * 2 ^ (rate / 2)

def State.neSpp (s : State) (e : Nat) : Nat := sppOf (nePtime e) (s.fld (A.rdCtl (neDom e)) 1 3)

/-- The pending stream-table commit (R368). -/
def State.netCommit (s : State) : Option Commit := s.cmds.commits.find? (fun c => c.opcode == 0x0401)

/-- A grain of domain d is governed by the shadow pages (R368). -/
def State.netShadow (s : State) (d : Nat) (g : Int) : Bool :=
  match s.netCommit with
  | some c => c.dom == d && decide ((c.grain.toNat : Int) ≤ g)
  | none => false

/-- The ingress stream of a page that a frame matches (R357, R369). -/
def State.netMatch (s : State) (p port fmt key : Nat) : Option (Nat × Nat) :=
  ((s.netLive 0 p).map (fun i => (i, s.netEntry 0 p i))).find?
    (fun x => nePort x.2 == port && neFmt x.2 == fmt && neKey x.2 == key)

def State.instat (s : State) (i : Nat) : Strm := tget Strm.init s.net.instat i
def State.setInstat (s : State) (i : Nat) (x : Strm) : State :=
  { s with net := { s.net with instat := tset Strm.init s.net.instat i x } }
def State.outstat (s : State) (i : Nat) : Strm := tget Strm.init s.net.outstat i
def State.setOutstat (s : State) (i : Nat) (x : Strm) : State :=
  { s with net := { s.net with outstat := tset Strm.init s.net.outstat i x } }

/-- Grain g continues a run of grains whose last, plus 1, is `last`: no new event (R374). -/
def inRun (last g : Nat) : Bool := last != 0 && (last == g || last == g + 1)

/-- A late sample of stream i released in grain g: counted; the event at the first of a run. -/
def State.netLate (s : State) (i g : Nat) : State :=
  let s1 := (s.count (A.netIstat0 i) 0 16).setInstat i { s.instat i with late := g + 1 }
  if inRun (s.instat i).late g then s1 else s1.raise 481 i 0

def State.netEarly (s : State) (i g : Nat) : State :=
  let s1 := (s.count (A.netIstat0 i) 16 16).setInstat i { s.instat i with early := g + 1 }
  if inRun (s.instat i).early g then s1 else s1.raise 482 i 0

def State.netGap (s : State) (i g : Nat) : State :=
  let s1 := (s.count (A.netIstat1 i) 0 16).setInstat i { s.instat i with gap := g + 1 }
  if inRun (s.instat i).gap g then s1 else s1.raise 483 i 0

/-- The last grain of a domain whose fabric grain start has come. -/
def State.lastFab (s : State) (d : Nat) : Int :=
  if (s.dom d).fabOn then ((s.dom d).fab.toNat : Int) else ((s.dom d).cnt.toNat : Int) - 1

/-- One sample of stream i of page p with release grain r and its channels' words (R373, R374). -/
def State.netSample (s : State) (p i d : Nat) (r : Int) (ws : List Word) : State :=
  if r ≤ s.lastFab d then s.netLate i r.toNat
  else if r ≥ ((s.dom d).cnt.toNat : Int) + 2048 then s.netEarly i r.toNat
  else if s.net.store.any (fun x => x.page == p && x.stream == i && (x.grain : Int) == r) then s
  else { s with net := { s.net with store := s.net.store ++ [⟨p, i, r.toNat, ws⟩] } }

/-- The inbox word of a received sample: its bytes little-endian (00 R8; log entry 19), in the word as JUST says (R94, R369). -/
def netWord (e : Nat) (bs : List Byte) : Word := slotIn (BitVec.ofNat 32 (natOf bs)) (8 * bs.length) (neJust e)

/-- A list cut into pieces of n. -/
def chunk {α : Type} (n : Nat) : Nat → List α → List (List α)
  | 0, _ => []
  | k + 1, l => l.take n :: chunk n k (l.drop n)

/-- Samples of a received packet of entry e: grain by grain, channel by channel. -/
def netSamples (e : Nat) (payload : List Byte) (n : Nat) : List (List Word) :=
  (chunk (neNch e * sfmtBytes (neSfmt e)) n payload).map
    (fun g => (chunk (sfmtBytes (neSfmt e)) (neNch e) g).map (netWord e))

/-- The media grain of a packet's sample 0 (R372): AES67 by the RTP timestamp; AAF by the presentation time, read as the
instant nearest the port's time. -/
def State.mediaGrain (s : State) (e : Nat) (rtp : Bool) (ts : Word) (portTime : DWord) : Int :=
  if rtp then
    let cur : Int := (s.dom (neDom e)).cnt.toNat
    cur + sgn (wrapN ((ts.toNat : Int) - neRtpofs e - cur) 32) 32
  else
    let t : Int := (portTime.toNat : Int) + sgn (wrapN ((ts.toNat : Int) - portTime.toNat) 32) 32
    t * s.domHz (neDom e) / 1000000000

/-- A packet of stream i of page p: each sample that this page governs (R366, R368, R372-R374). `tv` false, or a payload
that is no whole number of samples or too long, is LATE for each grain. -/
def State.netPacket (s : State) (p i : Nat) (rtp tv : Bool) (ts : Word) (portTime : DWord) (payload : List Byte) :
    State :=
  let e := s.netEntry 0 p i
  let unit := neNch e * sfmtBytes (neSfmt e)
  let n := payload.length / unit
  let m := s.mediaGrain e rtp ts portTime
  let good := tv && payload.length % unit == 0 && 1 ≤ n && n ≤ 768
  (netSamples e payload n).zipIdx.foldl (init := s) fun s x =>
    let r : Int := m + (x.2 : Int) + neLink e - 1
    if s.netShadow (neDom e) r != (p != s.net.page) then s
    else if good then s.netSample p i (neDom e) r x.1
    else s.netLate i r.toNat

/-- A stream frame on a port (R357): the streams of the active and of the shadow page that it matches. -/
def State.netFrame (s : State) (port fmt key : Nat) (tv : Bool) (ts : Word) (portTime : DWord) (payload : List Byte) :
    State :=
  let go (s : State) (p : Nat) : State :=
    match s.netMatch p port fmt key with
    | some (i, _) => s.netPacket p i (fmt == 0) tv ts portTime payload
    | none => s
  go (go s s.net.page) (1 - s.net.page)

/-- ETH_FRAME_RECEIVE (R356, R357): an oversized or doubly tagged frame is discarded and counted. An AAF stream's frames carry a tag
(R365). A frame that matches nothing goes to the host by HOST_FRAME_RX, where HOSTRX is 1. -/
def ethFrameReceive (e : EthId) (len tags : Nat) (k : EthKind) (edge : NetEdge) (s : State) : State :=
  let ns := edgeNs edge.val
  if !s.ethEn e.val || !s.ethLink e.val then s
  else if len > 1522 || tags > 1 then s.count (A.netPstat e.val) 16 16
  else match k with
    | .ptp d m => s.ptpMsg e.val d m ns
    | .rtp ip port ts bs => s.netFrame e.val 0 (ip.toNat + port.toNat * 2 ^ 32) true ts 0 bs
    | .avtp sid tv ts bs =>
      if tags = 1 then s.netFrame e.val 1 sid.toNat tv ts (BitVec.ofNat 64 (s.portTime e.val ns)) bs else s
    | .other => s

/-! ## Release (R373, R374) -/

/-- The stream tables are frozen (19 R576). -/
def State.netFrozen (s : State) : Bool := s.frozen 61 A.netCtl 4

/-- Stream i of the active page at the fabric grain start of grain g of its domain. -/
def State.netRelease1 (s : State) (g i : Nat) : State :=
  let e := s.netEntry 0 s.net.page i
  match s.net.store.find? (fun x => x.page == s.net.page && x.stream == i && x.grain == g) with
  | some x =>
    if s.netFrozen then s.netGap i g
    else x.words.zipIdx.foldl (init := s) fun s w =>
      s.offer (32 + neWagon e) ⟨(neAddr e + w.2 * neStride e) * 4, w.1, none⟩
  | none => s.netGap i g

/-- Every stream of domain d, in increasing index; what was due is no longer held. -/
def State.netRelease (s : State) (d g : Nat) : State :=
  let is := (s.netLive 0 s.net.page).filter (fun i => neDom (s.netEntry 0 s.net.page i) == d)
  let s1 := is.foldl (fun s i => s.netRelease1 g i) s
  { s1 with net := { s1.net with store := s1.net.store.filter (fun x => !(is.contains x.stream && x.grain ≤ g)) } }

/-- A sample stored for an entry of the page that goes is governed by the page that comes (R368): it is the new page's where an entry
there matches the frames it came in and reads their samples alike, released as that entry's LINK says. -/
def State.restore (s : State) (p : Nat) (x : Played) : State :=
  if x.page = p then { s with net := { s.net with store := s.net.store ++ [x] } }
  else
    let e := s.netEntry 0 x.page x.stream
    match s.netMatch p (nePort e) (neFmt e) (neKey e) with
    | none => s
    | some (i, f) =>
      if neDom f = neDom e ∧ neSfmt f = neSfmt e ∧ neNch f = neNch e then
        let n := 8 * sfmtBytes (neSfmt e)
        s.netSample p i (neDom f) ((x.grain : Int) + neLink f - neLink e)
          (x.words.map (fun w => slotIn (slotOut w n (neJust e)) n (neJust f)))
      else s

/-- NETSTREAM_COMMIT at its grain (R368). -/
def State.netstreamApply (s : State) (c : Commit) : State :=
  let p := 1 - s.net.page
  let s1 := { s with net := { s.net with page := p, since := some (c.dom, c.grain), store := [] } }
  ((s.net.store.foldl (fun s x => s.restore p x) s1).setFld A.netStat 2 1 0).raise 485 0 0

/-- The page that governs the egress packets of domain d that begin with media grain g (R368). -/
def State.netPageOf (s : State) (d : Nat) (g : DWord) : Nat :=
  match s.net.since with
  | some (d', c) => if d = d' ∧ g.toNat < c.toNat then 1 - s.net.page else s.net.page
  | none => s.net.page

/-! ## Egress (R375, R376) -/

/-- Shaping credit of class t at time `now` of the reference, in 10^-3 bit (R378): it rises by idleSlope while frames wait or it is
negative, up to hiCredit, and is no more than 0 while none waits. -/
def State.creditAt (s : State) (e t now : Nat) : Int :=
  let x := tget ((0 : Int), 0) (s.ethPort e).credit t
  let slope := s.fld (A.netCbs e t) 0 17
  let rate := if s.bit (A.netPctl e) 1 then 100000 else 25000
  let up := x.1 + (slope * (now - x.2) : Nat)
  let hi : Int := (1522 * 8 * 1000 * slope / rate : Nat)
  if (tget [] (s.ethPort e).txq t).isEmpty then min up 0 else min up hi

def State.setCredit (s : State) (e t : Nat) (c : Int) (now : Nat) : State :=
  s.modEth e fun p => { p with credit := tset (0, 0) p.credit t (c, now) }

/-- A frame joins the queue of its class. -/
def State.enqueue (s : State) (e t : Nat) (x : TxItem) : State :=
  let s1 := s.setCredit e t (s.creditAt e t (s.refNs 0)) (s.refNs 0)
  s1.modEth e fun p => { p with txq := tset [] p.txq t (tget [] p.txq t ++ [x]) }

/-- The header bytes of template i (R370). -/
def State.tmplHdr (s : State) (i : Nat) : List Byte :=
  let bs := (List.range 32).flatMap (fun k => bytesOf (s.tab (A.netTmpl (32 * i + k))).toNat 4)
  (bs.drop 2).take (natOf (bs.take 2))

/-- The bytes of one word in a packet: the sample as JUST says, little-endian (00 R8; log entry 19). -/
def netBytes (e : Nat) (v : Word) : List Byte :=
  let n := sfmtBytes (neSfmt e)
  bytesOf (slotOut v (8 * n) (neJust e)).toNat n

/-- The timestamp of a packet whose first media grain is a (R376). -/
def State.netStamp (s : State) (e : Nat) (a : DWord) : Word :=
  if neFmt e = 0 then BitVec.ofNat 32 (a.toNat + neRtpofs e)
  else BitVec.ofNat 32 ((a.toNat + neMtt e) * 1000000000 / s.domHz (neDom e))

/-- A 16-bit field of a header, in network order as IPv4 has it, and its two bytes. -/
def be16 (h : List Byte) (i : Nat) : Nat := (h.getD i 0).toNat * 256 + (h.getD (i + 1) 0).toNat

/-- Where the IPv4 header stands in an Ethernet header: after its 802.1Q tag, if it has one (log entry 139). -/
def ipAt (h : List Byte) : Nat := if be16 h 12 = 0x8100 then 18 else 14

/-- The IPv4 header checksum: the ones' complement sum of the header's words but its own, with `len` as the total length. -/
def ipChecksum (h : List Byte) (len : Nat) : Nat :=
  let o := ipAt h
  let n := (h.getD o 0).toNat % 16 * 2
  let sum := (List.range n).foldl (fun x k => x + if k = 1 then len else if k = 5 then 0 else be16 h (o + 2 * k)) 0
  let fold := fun x : Nat => x % 65536 + x / 65536
  65535 - fold (fold sum)

/-- What the unit fills in of a packet with `n` payload bytes (R370, R376): lengths and checksums of an AES67 packet; tv and the
format of an AAF one. -/
def State.pktFill (s : State) (e : Nat) (a : DWord) (seqno : BitVec 16) (n : Nat) : PktFill :=
  let h := s.tmplHdr (neTmpl e)
  let ip := h.length - ipAt h + n
  let rtp := neFmt e == 0
  { ipLen := if rtp then BitVec.ofNat 16 ip else 0, ipSum := if rtp then BitVec.ofNat 16 (ipChecksum h ip) else 0,
    udpLen := if rtp then BitVec.ofNat 16 (ip - (h.getD (ipAt h) 0).toNat % 16 * 4) else 0, udpSum := 0, seqno := seqno,
    ts := s.netStamp e a, tv := !rtp, sfmt := neSfmt e, rate := s.fld (A.rdCtl (neDom e)) 1 3, nch := neNch e, bytes := n }

def isStream (i : Nat) : TxItem → Bool
  | .stream j _ _ _ => i == j
  | _ => false

/-- A complete packet of stream i (R376): the one before it, where it is still unsent on whatever port, is dropped. -/
def State.sendPacket (s : State) (i : Nat) (x : Prep) : State :=
  let e := s.netEntry 1 x.page i
  let s1 :=
    if s.net.ports.any (fun p => p.2.txq.any (fun q => q.2.any (isStream i))) then
      let keep : Tbl (List TxItem) → Tbl (List TxItem) := fun q =>
        (q.map (fun x => (x.1, x.2.filter (fun f => !isStream i f)))).filter (fun x => x.2 != [])
      (((s |> upTo 8 fun s p => s.modEth p fun y => { y with txq := keep y.txq }).count (A.netEstat i) 0 16)).raise 484 i 0
    else s
  let st := s1.outstat i
  let s2 := s1.setOutstat i { st with seqno := st.seqno + 1 }
  let body := x.words.flatMap (fun g => (g.take (neNch e)).flatMap (netBytes e))
  s2.enqueue (nePort e) (neTc e) (.stream i (s.tmplHdr (neTmpl e)) (s.pktFill e x.first st.seqno body.length) body)

/-- The load of one channel of a stream with an entry (R69, R375): source 23 of KIND 1 where a fallback applied. A stream
has no word of its twin, so TWIN sends the last sample. -/
def State.netLoad1 (s : State) (i e c : Nat) (g : DWord) : State × Word :=
  let k := i * 64 + c
  let r := (tget Egr.init s.net.egr k).load ((if neArrive e then g else g - 1).setWidth 16) (neFb e) none
  let s1 := { s with net := { s.net with egr := tset Egr.init s.net.egr k r.1 } }
  if r.2.fell then (s1.raise 23 i (1 + c * 4 + neFb e * 2 ^ 8 + b2n r.2.late * 2 ^ 10), r.2.val) else (s1, r.2.val)

/-- The words of channels 0 to n - 1. -/
def State.netLoadN (s : State) (i e : Nat) (g : DWord) : Nat → State × List Word
  | 0 => (s, [])
  | n + 1 =>
    let r := s.netLoadN i e g n
    let x := r.1.netLoad1 i e n g
    (x.1, r.2 ++ [x.2])

/-- Stream i of domain d at the load point of media grain g: the packets in preparation that grain g continues, and the
one that begins with it. -/
def State.netLoadStream (s : State) (d : Nat) (g : DWord) (i : Nat) : State :=
  let p := s.netPageOf d g
  let e := s.netEntry 1 p i
  let on := (s.netLive 1 p).contains i && neDom e == d
  let old := (s.outstat i).preps.filter
    (fun x => neDom (s.netEntry 1 x.page i) == d && x.first.toNat + x.words.length == g.toNat)
  let new := if on && g.toNat % s.neSpp e == 0 then [⟨p, g, []⟩] else []
  let es := (if on then [e] else []) ++ old.map (fun x => s.netEntry 1 x.page i)
  match es with
  | [] => s
  | e0 :: _ =>
    let r := s.netLoadN i e0 g (es.foldl (fun n x => Nat.max n (neNch x)) 0)
    let all := (old ++ new).map (fun (x : Prep) => { x with words := x.words ++ [r.2] })
    let full := fun (x : Prep) => s.neSpp (s.netEntry 1 x.page i) ≤ x.words.length
    let s1 := r.1.setOutstat i { r.1.outstat i with preps := all.filter (fun x => !full x) }
    (all.filter full).foldl (fun s x => s.sendPacket i x) s1

/-- NET_EGRESS_LOAD (R375, R376): after the fabric grain start of grain g + 1, media grain g of every egress stream of
the domain. While the streams are frozen nothing is sent (19 R576). -/
def netEgressLoad (d : DomId) (s : State) : State :=
  if !(s.dom d.val).fabOn || s.netFrozen then s
  else
    let g := (s.dom d.val).fab - 1
    let live := s.netLive 1 (s.netPageOf d.val g)
    let is := live ++ (s.net.outstat.map (·.1)).filter (fun i => !live.contains i)
    is.foldl (fun s i => s.netLoadStream d.val g i) s

def State.ethRate (s : State) (e : Nat) : Nat := if s.bit (A.netPctl e) 1 then 100000 else 25000

/-! ## Shaping and gates (R378, R379) -/

/-- NET_CBS_WRITE (R378): refused where the port's total idleSlope would exceed 75 % of its rate. -/
def State.cbsWrite (s : State) (e t : Nat) (v : Word) : State :=
  let total := (List.range 8).foldl (fun x u => x + (if u = t then fget v 0 17 else s.fld (A.netCbs e u) 0 17)) 0
  if total * 4 > s.ethRate e * 3 then s.setFld (A.netPstat e) 1 1 1
  else
    let s1 := s.setCredit e t (s.creditAt e t (s.refNs 0)) (s.refNs 0)
    s1.setFld (A.netCbs e t) 0 17 (fget v 0 17)

/-- A write of NET_GCL_CTL (R379, R381). -/
def State.gclWrite (s : State) (e : Nat) (v : Word) : State :=
  let r := A.netGclCtl e
  let s2 := (s.setFld r 0 1 (fget v 0 1)).setFld r 3 8 (fget v 3 8)
  if fget v 1 1 = 1 then s2.setFld r 2 1 1 else s2

/-- The network clock edge is the first at or after a start of the shadow list's cycles, BASE + k × CYCLE on the port's clock. -/
def State.cycleStart (s : State) (e ns : Nat) : Bool :=
  let base := (s.reg64 (A.netGclBaseLo e) (A.netGclBaseHi e)).toNat
  let t := s.portTime e ns
  base ≤ t && (t - base) % (s.rawReg (A.netGclCycle e)).toNat ≤ 1

/-- GATE_LIST_SWITCH (R379): the first cycle start at or after BASE; the shadow list is operational. -/
def gateListSwitch (e : EthId) (edge : NetEdge) (s : State) : State :=
  let e := e.val
  if s.bit (A.netGclCtl e) 2 && s.cycleStart e (edgeNs edge.val) then
    let n := s.fld (A.netGclCtl e) 3 8 + 1
    (s.setFld (A.netGclCtl e) 2 1 0).modEth e fun p =>
      { p with operOn := true, operGates := (List.range n).map (fun i => s.rawReg (A.netGate e i)),
               operBase := s.reg64 (A.netGclBaseLo e) (A.netGclBaseHi e), operCycle := s.rawReg (A.netGclCycle e) }
  else s

/-- A write to a gate list entry (R379). -/
def State.gateWrite (s : State) (e i : Nat) (v : Word) : State :=
  if s.bit (A.netGclCtl e) 2 then s else s.setReg (A.netGate e i) v

/-- A write of NET_PCTL (R381): every field but EN only while EN is 0. -/
def State.pctlWrite (s : State) (e : Nat) (v : Word) : State :=
  if s.ethEn e then s.setFld (A.netPctl e) 0 1 (fget v 0 1) else s.plainWrite (A.netPctl e) v

/-- A write of NET_CTL (R381): UTSRC 0x8 to 0xE is reserved and leaves the field. -/
def State.netCtlWrite (s : State) (v : Word) : State :=
  let s1 := if 8 ≤ fget v 0 4 ∧ fget v 0 4 ≤ 14 then s else s.setFld A.netCtl 0 4 (fget v 0 4)
  let s2 := s1.setFld A.netCtl 4 1 (fget v 4 1)
  s2.followPort (s2.fld A.netCtl 0 4)

/-- NET_UTIME_READ (R381): the low word, the high word copied. -/
def State.utimeRead (s : State) : State × Word :=
  (s.setReg A.netUtimeHi (BitVec.ofNat 32 (s.utime / 2 ^ 32)), BitVec.ofNat 32 s.utime)

def netUtimeRead (who : Requester) (s : State) : State := s.readBy who.val A.netUtimeLo State.utimeRead

/-! ## The commands -/

/-- ETH_FRAME_RECEIVE (11 R357). -/
def execEthFrameReceive (e : EthId) (len tags : Nat) (k : EthKind) (x : NetEdge) (s : State) : Host.Outcome State Fault Refusal :=
  finish s (s.within 29 (ethFrameReceive e len tags k x s))
/-- SYNC_TIMEOUT (11 R362). -/
def execSyncTimeout (e : EthId) (s : State) : Host.Outcome State Fault Refusal := finish s (s.within 29 (syncTimeout e s))
/-- LINK_CHANGE (11 R382). -/
def execLinkChange (e : EthId) (up : Bool) (s : State) : Host.Outcome State Fault Refusal :=
  finish s (s.within 29 (linkChange e up s))
/-- NET_EGRESS_LOAD (11 R375). -/
def execNetEgressLoad (d : DomId) (s : State) : Host.Outcome State Fault Refusal := finish s (s.within 29 (netEgressLoad d s))
/-- NET_CBS_WRITE (11 R378). -/
def execNetCbsWrite (e : EthId) (t : Fin 8) (v : Word) (s : State) : Host.Outcome State Fault Refusal :=
  finish s (s.cbsWrite e.val t.val v)
/-- GCL_CHANGE (11 R379): a write of NET_GCL_CTL with CHANGE = 1. -/
def execGclChange (e : EthId) (v : Word) (s : State) : Host.Outcome State Fault Refusal :=
  finish s (s.gclWrite e.val (v ||| 2))
/-- GATE_LIST_SWITCH (11 R379). -/
def execGateListSwitch (e : EthId) (x : NetEdge) (s : State) : Host.Outcome State Fault Refusal :=
  finish s (s.within 29 (gateListSwitch e x s))
/-- NET_UTIME_READ (11 R381). -/
def execNetUtimeRead (who : Requester) (s : State) : Host.Outcome State Fault Refusal := finish s (netUtimeRead who s)

end Sys2Proof.Machine
end

