-- ==== Sys2Proof/Machine/Chain.lean ====
section
/-! DEFINITION. The chain and the twin pair (12): ports, enumeration, MARKs, chain streams, heartbeats, tallies, takeover. -/

namespace Sys2Proof.Machine

/-! ## Enumeration (R393-R397) -/

def State.isHead (s : State) : Bool := s.bit A.chStat 7
/-- ROLE: 0 NONE, 1 EVEN, 2 ODD. -/
def State.role (s : State) : Nat := s.fld A.chStat 8 2

def State.modChain (s : State) (f : Chain → Chain) : State := { s with chain := f s.chain }

/-- The head sends a TOKEN (R394, R397). -/
def State.sendToken (s : State) : State :=
  if s.portUp 1 then
    (s.sendOwn 1 0xFF (.enumToken 1 false)).modChain fun c => { c with tokenOut := true, tokenSent := true }
  else s

/-- The index a role takes from a TOKEN (R394). -/
def tokenIndex (role next : Nat) : Nat :=
  if role = 1 then (if next % 2 = 0 then next else next + 1)
  else if role = 2 then (if next % 2 = 1 then next else next + 1)
  else next

/-- A unit sets ENUMERR or OVF and raises ENUM_ERROR (R394, R395). -/
def State.enumError (s : State) (bit : Nat) : State := (s.setFld A.chStat bit 1 1).raise 73 0 0

/-- The unit holds an index (R394). -/
def State.takeIndex (s : State) (i : Nat) : State := (s.setFld A.chStat 0 6 i).setFld A.chStat 6 1 1

/-- A TOKEN at a unit other than the head (R394, R395). -/
def State.tokenSeen (s : State) (next : Nat) (ovf : Bool) : State :=
  match s.index with
  | some i => s.sendOwn 1 0xFF (.enumToken (BitVec.ofNat 8 (i + 1)) ovf)
  | none =>
    let i := tokenIndex s.role next
    if i > 63 then (s.enumError 11).sendOwn 1 0xFF (.enumToken (BitVec.ofNat 8 next) true)
    else
      let s1 := s.takeIndex i
      let s2 := if s.role = 2 ∧ next % 2 = 0 then s1.enumError 10 else s1
      s2.sendOwn 1 0xFF (.enumToken (BitVec.ofNat 8 (i + 1)) ovf)

/-- The TOKEN is back at the head (R396, R397): DONE, then one new TOKEN for the REQUESTs that wait. -/
def State.tokenBack (s : State) (next : BitVec 8) (ovf : Bool) : State :=
  let s1 := (s.modChain fun c => { c with tokenOut := false }).sendOwn 1 0xFF
    (.enumDone (if ovf then 64 else next) ovf)
  if s1.chain.requests > 0 then (s1.modChain fun c => { c with requests := 0 }).sendToken else s1

def enumToken (h : ChHdr) (next : BitVec 8) (ovf : Bool) (s : State) : State :=
  s.arrive 0 h (.enumToken next ovf) fun s => if s.isHead then s.tokenBack next ovf else s.tokenSeen next.toNat ovf

/-- ENUM_DONE (R396): COUNT is written; DONE ends at the head. -/
def enumDone (h : ChHdr) (count : BitVec 8) (ovf : Bool) (s : State) : State :=
  s.arrive 0 h (.enumDone count ovf) fun s =>
    let s1 := (s.setFld A.chStat 16 7 count.toNat).raise 72 0 0
    if s1.isHead then s1 else s1.sendFrame 1 h.src 0xFF (.enumDone count ovf)

/-- A REQUEST at the head (R397). -/
def State.requestSeen (s : State) : State :=
  if s.chain.tokenOut then s.modChain fun c => { c with requests := c.requests + 1 } else s.sendToken

/-- ENUM_REQUEST (R397): any other unit passes it on. -/
def enumRequest (h : ChHdr) (s : State) : State :=
  s.arrive 0 h .enumRequest fun s => if s.isHead then s.requestSeen else s.sendFrame 1 h.src 0xFF .enumRequest

/-- CH_CTL_ENUM (R397, R422): a write of CH_CTL with ENUM 1: the head sends a TOKEN, once none is on the ring; any other unit
sends a REQUEST. -/
def State.enumWrite (s : State) : State := if s.isHead then s.requestSeen else s.sendOwn 1 0xFF .enumRequest

/-! ## Ports (R385, R386) -/

/-- CHAIN_PORT_UP (R385, R386): a training port whose round trip is at most 200 ns enters UP; its sequence numbers start
anew, so frames that it still holds are lost as at an exhaustion (log entry 14). The head's first TOKEN and a unit's REQUEST
follow (R394, R397). -/
def chainPortUp (p : ChainPortId) (roundTripNs : Nat) (s : State) : State :=
  if s.fld (A.chPstat p.val) 0 2 = 1 ∧ roundTripNs ≤ 200 ∧ s.islandUp 30 then
    let s0 := if (s.chPort p.val).held = [] then s else s.exhaust p.val
    let s1 := ((s0.setChPort p.val ChPort.init).setFld (A.chPdelay p.val) 0 16 (roundTripNs * 100 / 256)).setPort p.val 2
    if p.val = 1 ∧ s1.isHead ∧ !s1.chain.tokenSent then s1.sendToken
    else if p.val ≤ 1 ∧ !s1.isHead ∧ s1.index.isNone ∧ s1.portUp 0 ∧ s1.portUp 1 then s1.sendOwn 1 0xFF .enumRequest
    else s1
  else s

/-- CHAIN_PORT_DOWN (R385): a port loses lane lock. It keeps what it holds until the retries are exhausted (R389, R391). -/
def chainPortDown (p : ChainPortId) (s : State) : State := s.setPort p.val 0

/-- A write of CH_CTL (R422): without EN no port leaves DOWN, and those that had return to it. -/
def State.chCtlWrite (s : State) (v : Word) : State :=
  let s1 := s.setFld A.chCtl 0 1 (fget v 0 1)
  let s2 := if fget v 0 1 = 0 then (List.range 4).foldl (fun s p => s.setPort p 0) s1 else s1
  if fget v 1 1 = 1 then s2.enumWrite else s2

/-! ## MARKs and chain streams (R400-R404) -/

/-- Where a MARK that arrives `ns` into the current µs places its boundary, on the always-on reference (R401): its arrival, less
RES, less the chain-in delay of `CH_PDELAY[0]` at 1.28 ns a cycle, plus 200 ns. -/
def State.markBoundary (s : State) (resNs ns : Nat) : Int :=
  (s.refNs ns : Int) - resNs - s.fld (A.chPdelay 0) 0 16 * 32 / 25 + 200

/-- A domain that follows the chain takes a MARK (R401): one that comes a grain after the last and within 3 ns of a grain's length
is one more that agrees; any other is the first of a new run. -/
def State.takeMark (s : State) (d : Nat) (grain : DWord) (at_ : Int) : State :=
  s.modDom d fun x =>
    let agrees := 0 < x.marks && grain == x.markGrain + 1 &&
      ((at_ - x.markAt) * s.domHz d - 1000000000).natAbs ≤ 3 * s.domHz d
    { x with marks := if agrees then Nat.min 16 (x.marks + 1) else 1, markGrain := grain, markAt := at_, quiet := 0 }

/-- MARK (R401): taken by the domains that follow it. -/
def mark (h : ChHdr) (dom : DomId) (grain : DWord) (resNs : Word) (ns : SubNs) (s : State) : State :=
  s.arrive 0 h (.mark dom.val grain resNs) fun s =>
    s |> upTo 4 fun s d =>
      if s.domSrc d = 3 ∧ s.fld (A.rdCtl d) 12 2 = dom.val ∧ s.domState d ≠ 0 then
        s.takeMark d grain (s.markBoundary resNs.toNat ns.val)
      else s

/-- The MARK of a domain at its fabric grain start (R400), with the time that has passed since the boundary. -/
def State.sendMark (s : State) (d : Nat) (resNs : Word) : State := s.sendOwn 1 0xFF (.mark d (s.dom d).cnt resNs)

/-- The pending chain-stream commit, and whether a grain of domain d is governed by the shadow pages (R402). -/
def State.chShadow (s : State) (d : Nat) (g : Int) : Bool :=
  match s.cmds.commits.find? (fun c => c.opcode == 0x0402) with
  | some c => c.dom == d && decide ((c.grain.toNat : Int) ≤ g)
  | none => false

def State.chLate (s : State) (i g : Nat) : State :=
  let x := tget Strm.init s.chain.instat i
  let s1 := (s.count (A.chIstat i) 0 16).modChain fun c => { c with instat := tset Strm.init c.instat i { x with late := g + 1 } }
  if inRun x.late g then s1 else s1.raise 74 i 0

def State.chGap (s : State) (i g : Nat) : State :=
  let x := tget Strm.init s.chain.instat i
  let s1 := (s.count (A.chIstat i) 16 16).modChain fun c => { c with instat := tset Strm.init c.instat i { x with gap := g + 1 } }
  if inRun x.gap g then s1 else s1.raise 75 i 0

/-- The full grain number of a 16-bit tag: the one nearest the domain's current grain. -/
def State.tagGrain (s : State) (d : Nat) (tag : BitVec 16) : Int :=
  let cur : Int := (s.dom d).cnt.toNat
  cur + sgn (wrapN ((tag.toNat : Int) - cur) 16) 16

/-- A word waits for its release grain: those of entry i of page p stand under 64 × p + i. -/
def State.chStore (s : State) (p i chan r : Nat) (v : Word) : State :=
  s.modChain fun c => { c with words := c.words ++ [(64 * p + i, chan, r, v)] }

/-- One received word for stream i of a page (R404). -/
def State.chWord (s : State) (p i : Nat) (x : StrmEntry) : State :=
  let e := s.chEntry 0 p i
  let r := s.tagGrain (ceDom e) x.tag + ceLink e - 1
  if s.chShadow (ceDom e) r != (p != s.chain.page) || ceNch e ≤ x.chan.toNat then s
  else if r ≤ s.lastFab (ceDom e) then s.chLate i r.toNat
  else s.chStore p i x.chan.toNat r.toNat x.word

/-- STRM (R404): each entry's word to the streams of that sender and SID. -/
def State.strmSeen (s : State) (src : BitVec 8) (es : List StrmEntry) : State :=
  es.foldl (init := s) fun s x =>
    [s.chain.page, 1 - s.chain.page].foldl (init := s) fun s p =>
      ((s.chLive 0 p).filter (fun i => cePeer (s.chEntry 0 p i) == src.toNat &&
        ceSid (s.chEntry 0 p i) == x.sid.toNat)).foldl (fun s i => s.chWord p i x) s

def strm (h : ChHdr) (es : List StrmEntry) (s : State) : State :=
  s.arrive 0 h (.strm es) fun s => s.strmSeen h.src es

/-- Chain stream i at the fabric grain start of grain g (R404): channel by channel. -/
def State.chRelease1 (s : State) (g i : Nat) : State :=
  let e := s.chEntry 0 s.chain.page i
  let due := s.chain.words.filter (fun x => x.1 == 64 * s.chain.page + i && x.2.2.1 == g)
  (List.range (ceNch e)).foldl (init := s) fun s c =>
    match due.filter (fun x => x.2.1 == c) with
    | [] => s.chGap i g
    | xs => xs.foldl (fun s x => s.offer (40 + ceWagon e) ⟨(ceAddr e + c * ceStride e) * 4, x.2.2.2, none⟩) s

def State.chRelease (s : State) (d g : Nat) : State :=
  let is := (s.chLive 0 s.chain.page).filter (fun i => ceDom (s.chEntry 0 s.chain.page i) == d)
  (is.foldl (fun s i => s.chRelease1 g i) s).modChain fun c =>
    { c with words := c.words.filter (fun x => !(is.contains (x.1 % 64) && x.2.2.1 ≤ g)) }

/-- A word stored for an entry of the page that goes is governed by the page that comes (R402, 11 R368): by its entries for the
same sender, SID and domain, released as their LINK says. -/
def State.chRestore (s : State) (p : Nat) (x : Nat × Nat × Nat × Word) : State :=
  if x.1 / 64 = p then s.modChain fun c => { c with words := c.words ++ [x] }
  else
    let e := s.chEntry 0 (1 - p) (x.1 % 64)
    let fit := fun (i : Nat) =>
      let f := s.chEntry 0 p i
      cePeer f == cePeer e && ceSid f == ceSid e && ceDom f == ceDom e && decide (x.2.1 < ceNch f)
    ((s.chLive 0 p).filter fit).foldl (init := s) fun s i =>
      let r : Int := (x.2.2.1 : Int) + ceLink (s.chEntry 0 p i) - ceLink e
      if r ≤ s.lastFab (ceDom e) then s.chLate i r.toNat else s.chStore p i x.2.1 r.toNat x.2.2.2

/-- CHAINSTREAM_COMMIT at its grain (R402). -/
def State.chainstreamApply (s : State) : State :=
  let p := 1 - s.chain.page
  let s1 := s.chain.words.foldl (fun s x => s.chRestore p x) (s.modChain fun c => { c with page := p, words := [] })
  (s1.setFld A.chStat 14 1 0).raise 76 0 0

/-! ## Heartbeats (R409, R410, R417, R420) -/

def State.setEpoch (s : State) (e : Word) : State := s.setReg A.twEpoch e

/-- A higher EPOCH from the twin reaches an ACTIVE member (R420). -/
def State.higherEpoch (s : State) (epoch : Word) : State :=
  if s.silent then
    s.modTwin fun t => { t with recEpoch := if t.recEpoch.toNat < epoch.toNat then epoch else t.recEpoch }
  else s.fenced fcSuperseded

/-- An HB received (R409, R407, R420): L is the highest grain number of any. -/
def State.hbSeen (s : State) (state : BitVec 3) (epoch : Word) (grain : DWord) : State :=
  let highest := if s.twin.lastHb.toNat ≤ grain.toNat then grain else s.twin.lastHb
  let s1 := if !s.twin.hbSeen || s.twin.lastHb.toNat ≤ grain.toNat then
      (s.setReg A.twLasthb (highest.setWidth 32)).modTwin fun t =>
        { t with lastHb := highest, hbSeen := true, hbState := state, silentTold := false }
    else s
  if s1.twState = twJoin ∧ state.toNat = twActive then s1.setEpoch epoch
  else if s1.twState = twActive then
    if s1.epoch.toNat < epoch.toNat then s1.higherEpoch epoch
    else if epoch = s1.epoch ∧ state.toNat = twActive ∧ !s1.silent ∧ s1.role = 2 then s1.fenced fcSuperseded
    else s1
  else s1

def hb (p : ChainPortId) (h : ChHdr) (state : BitVec 3) (drv : Bool) (epoch : Word) (grain : DWord) (s : State) : State :=
  s.arrive p.val h (.hb state drv epoch grain) fun s => s.hbSeen state epoch grain

/-- TAKE (R420): not greater than the receiver's EPOCH, it is ignored; a member that is not ACTIVE takes the epoch. -/
def State.takeSeen (s : State) (epoch : Word) : State :=
  if epoch.toNat ≤ s.epoch.toNat then s
  else if s.twState = twActive then s.higherEpoch epoch
  else if s.paired then s.setEpoch epoch
  else s

def take (p : ChainPortId) (h : ChHdr) (epoch : Word) (grain : DWord) (s : State) : State :=
  s.arrive p.val h (.take epoch grain) fun s => s.takeSeen epoch

/-- FENCE_FRAME (R413): a STANDBY member enters FENCED with its cause. -/
def fenceFrame (p : ChainPortId) (h : ChHdr) (cause : BitVec 8) (epoch : Word) (grain : DWord) (s : State) : State :=
  s.arrive p.val h (.fence cause epoch grain) fun s =>
    if s.twState = twStandby then s.fenced (cause.toNat % 8) else s

/-- A STANDBY member decides at grain n (R410), and its TAKE follows its HB (R388); what it awaited as a twin is discarded (17 R534). -/
def State.takeOver (s : State) (n : DWord) : State :=
  let lost := s.twin.inn
  let s1 := s.setEpoch (s.epoch + 1)
  let s2 := (s1.twinEvent 81).toTwState twActive
  let s3 := s2.modTwin fun t => { t with driveAt := some n.toNat, inn := [], silentTold := false }
  lost.foldl (fun s x => s.raise 33 x.opcode.toNat ((pkSeq x.pkt).toNat + s.twinSrc.toNat * 2 ^ 32)) s3

/-- The HB of grain g (R409, R417). -/
def State.sendHb (s : State) (g : DWord) : State :=
  let quiet := s.silent && (match s.twin.h with | some h => h ≤ g.toNat | none => false)
  if s.paired && !quiet then
    s.sendThree (.hb (BitVec.ofNat 3 s.twState) s.drv s.epoch g)
  else s

/-- Digests of grains that will not be compared (17 R533). Digests stand under grain × 16 + bench. -/
def State.dropDigests (s : State) (n : Nat) : State :=
  s.modTwin fun t => { t with own := t.own.filter (fun e => n < e.1 / 16 + 4), peer := t.peer.filter (fun e => n < e.1 / 16 + 4) }

/-- A digest sent for a grain before the last has met no digest of the twin. -/
def State.unmatched (s : State) (n : Nat) : Bool := s.twin.own.any (fun e => e.1 / 16 + 2 ≤ n)

/-- The agreement count of a JOIN member at its fabric grain start of n (R407): a grain counts where tallies were compared and none
differed; a mismatch, or a digest left without its fellow, starts the count anew (log entry 138). -/
def State.joinCount (s : State) (n : Nat) : State :=
  if s.twState = twJoin then
    let n := if !s.twin.clean || s.unmatched n then 0 else if s.twin.compared then s.twin.agree + 1 else s.twin.agree
    let s1 := s.modTwin fun t => { t with agree := n, clean := true, compared := false }
    if s.fld A.twCfg 16 16 ≤ n ∧ s.twin.hbState.toNat = twActive then s1.toTwState twStandby else s1
  else s

/-- L ≤ n - 4 (R410). Until an HB has come since the PAIR, L stands at the PAIR's grain (log entry 40). -/
def State.hbGone (s : State) (n : Nat) : Bool := Nat.max s.twin.lastHb.toNat s.twin.hbFrom.toNat + 4 ≤ n

/-- The pair at the fabric grain start of grain n of the pair domain: tallies, JOIN, the decision, silence, the HB. -/
def State.pairStart (s : State) (n : DWord) : State :=
  if !s.paired then s
  else
    let s1 := (s.joinCount n.toNat).dropDigests n.toNat
    let gone := s1.hbGone n.toNat
    let takes := s1.twState = twStandby ∧ gone
    let s2 :=
      if takes then s1.takeOver n
      else if s1.twState = twActive ∧ gone ∧ !s1.twin.silentTold then
        (s1.modTwin fun t => { t with silentTold := true }).twinEvent 82
      else s1
    let s3 := if s2.silent ∧ s2.twin.h = none then s2.modTwin fun t => { t with h := some n.toNat } else s2
    let s4 := s3.sendHb n
    if takes then s4.sendThree (.take s4.epoch n) else s4

/-- SILENCED_RELEASE (R418): slot 0 of frame h + 4. -/
def silencedRelease (s : State) : State :=
  match s.silent, s.twin.h with
  | true, some h =>
    if (s.dom s.pairDom).cnt.toNat < h + 3 then s
    else if s.twin.drill then
      let e := s.epoch + 1
      let rec_ := s.twin.recEpoch
      ((s.setFld A.twStat 3 1 0).setEpoch (if e.toNat < rec_.toNat then rec_ else e)).toTwState twStandby
    else (s.setFld A.twStat 3 1 0).fenced fcSilenced
  | _, _ => s

/-- TWIN_DRIVE_ON (R419): the launch edge of the last bit of the decision frame has come; from here the drivers are on. -/
def twinDriveOn (s : State) : State :=
  if s.twin.driveAt.isSome ∧ s.twState = twActive then
    (s.setFld A.twStat 3 1 1).modTwin fun t => { t with driveAt := none }
  else s

/-! ## Tallies (R411-R413) -/

/-- TSAMP (R411): the twin's words enter the twin store. -/
def State.tsampSeen (s : State) (es : List TSample) : State :=
  if s.paired then
    es.foldl (init := s) fun s x => s.modTwin fun t =>
      let k := egrKey x.lane.val x.slot.val
      { t with store := tset Egr.init t.store k ((tget Egr.init t.store k).put x.tag x.word) }
  else s

def tsamp (p : ChainPortId) (h : ChHdr) (es : List TSample) (s : State) : State :=
  s.arrive p.val h (.tsamp es) fun s => s.tsampSeen es

/-- Both digests of a bench's grain are there: each core that differs is a mismatch (R413). -/
def State.compareDigests (s : State) (k : Nat) : State :=
  match tfind s.twin.own k, tfind s.twin.peer k with
  | some a, some b =>
    let s1 := s.modTwin fun t => { t with own := tdel t.own k, peer := tdel t.peer k, compared := true }
    (List.range 8).foldl (fun s i => if a.getD i 0 = b.getD i 0 then s else s.mismatch) s1
  | _, _ => s

/-- TDIG (R412, R413). -/
def tdig (p : ChainPortId) (h : ChHdr) (b : BenchId) (grain : DWord) (digs : List Word) (s : State) : State :=
  s.arrive p.val h (.tdig b.val grain digs) fun s =>
    if s.paired then
      let k := grain.toNat * 16 + b.val
      (s.modTwin fun t => { t with peer := tput t.peer k digs }).compareDigests k
    else s

/-! ## The commands -/

/-- CHAIN_PORT_UP (12 R385). -/
def execChainPortUp (p : ChainPortId) (n : Nat) (s : State) : Host.Outcome State Fault Refusal :=
  finish s (chainPortUp p n s)
/-- CHAIN_PORT_DOWN (12 R385). -/
def execChainPortDown (p : ChainPortId) (s : State) : Host.Outcome State Fault Refusal :=
  finish s (s.within 30 (chainPortDown p s))
/-- MARK (12 R401). -/
def execMark (h : ChHdr) (d : DomId) (g : DWord) (r : Word) (ns : SubNs) (s : State) : Host.Outcome State Fault Refusal :=
  finish s (mark h d g r ns s)
/-- HB (12 R409). -/
def execHb (p : ChainPortId) (h : ChHdr) (st : BitVec 3) (drv : Bool) (e : Word) (g : DWord) (s : State) :
    Host.Outcome State Fault Refusal := finish s (hb p h st drv e g s)
/-- TAKE (12 R420). -/
def execTake (p : ChainPortId) (h : ChHdr) (e : Word) (g : DWord) (s : State) : Host.Outcome State Fault Refusal :=
  finish s (take p h e g s)
/-- FENCE_FRAME (12 R413). -/
def execFenceFrame (p : ChainPortId) (h : ChHdr) (c : BitVec 8) (e : Word) (g : DWord) (s : State) :
    Host.Outcome State Fault Refusal := finish s (fenceFrame p h c e g s)
/-- TSAMP (12 R411). -/
def execTsamp (p : ChainPortId) (h : ChHdr) (es : List TSample) (s : State) : Host.Outcome State Fault Refusal :=
  finish s (tsamp p h es s)
/-- TDIG (12 R413). -/
def execTdig (p : ChainPortId) (h : ChHdr) (b : BenchId) (g : DWord) (ds : List Word) (s : State) :
    Host.Outcome State Fault Refusal := finish s (tdig p h b g ds s)
/-- STRM (12 R404). -/
def execStrm (h : ChHdr) (es : List StrmEntry) (s : State) : Host.Outcome State Fault Refusal := finish s (strm h es s)
/-- ENUM_TOKEN (12 R394). -/
def execEnumToken (h : ChHdr) (n : BitVec 8) (o : Bool) (s : State) : Host.Outcome State Fault Refusal :=
  finish s (enumToken h n o s)
/-- ENUM_DONE (12 R396). -/
def execEnumDone (h : ChHdr) (n : BitVec 8) (o : Bool) (s : State) : Host.Outcome State Fault Refusal :=
  finish s (enumDone h n o s)
/-- ENUM_REQUEST (12 R397). -/
def execEnumRequest (h : ChHdr) (s : State) : Host.Outcome State Fault Refusal := finish s (enumRequest h s)
/-- CH_CTL_ENUM (12 R397). -/
def execChCtlEnum (s : State) : Host.Outcome State Fault Refusal := finish s s.enumWrite
/-- SILENCED_RELEASE (12 R418). -/
def execSilencedRelease (s : State) : Host.Outcome State Fault Refusal := finish s (silencedRelease s)
/-- TWIN_DRIVE_ON (12 R419). -/
def execTwinDriveOn (s : State) : Host.Outcome State Fault Refusal := finish s (twinDriveOn s)

end Sys2Proof.Machine
end

