-- ==== Sys2Proof/Machine/Far.lean ====
section
/-! DEFINITION. Far memory and the far-window cache (10 R328-R340, R353). -/

namespace Sys2Proof.Machine

/-- The stack of a far address (R328). -/
def stackOf (a : Nat) : Nat := (a - farBase) / 0x600000000

/-- A stack that has failed refuses every access (R333). -/
def State.stackFailed (s : State) (q : Nat) : Bool := s.fld (A.fmStat q) 0 2 == 3

/-- A 32-byte half reads uncorrectable: its check bits cover the half, so errors in two of its words are too many (R333). -/
def State.halfBad (s : State) (h : Nat) : Bool :=
  (wordsOf h 32).any (fun w => s.ue.contains w) || 2 ≤ ((wordsOf h 32).filter (fun w => s.ce.contains w)).length

/-- The line of address a reads uncorrectable. -/
def State.farBad (s : State) (a : Nat) : Bool := s.halfBad (a / 64 * 64) || s.halfBad (a / 64 * 64 + 32)

/-- A read of the far line at line address a meets its check bits (R333): a correctable word counts CE; an
uncorrectable one counts UE, records the line and raises source 40 (OBJ the stack, log entry 12). -/
def State.farEcc (s : State) (a : Nat) : State :=
  let q := stackOf a
  if s.farBad a then
    ({ s.count (A.fmEcccnt q) 16 16 with fmUe := tset 0 s.fmUe q (a / 64 * 64) }).raise 40 q 0
  else if (wordsOf (a / 64 * 64) 64).any (fun w => s.ce.contains w) then s.count (A.fmEcccnt q) 0 16
  else s

/-- A read of far memory by a requester, within one line; a failed stack refuses it under R31. -/
def State.farRead (s : State) (who a n : Nat) : State × Nat :=
  if s.stackFailed (stackOf a) then (s.addressMap who a, 0) else (s.farEcc a, memNat s.mem a n)

/-- A write of far memory by a requester. Cached copies stay as they are (R336). -/
def State.farWrite (s : State) (who a : Nat) (bs : List Byte) : State :=
  if s.stackFailed (stackOf a) then s.addressMap who a else s.poke a bs

/-- The set of a line number, and a bench's set (R335). -/
def fwcIndex (line : Nat) : Nat := line % 1024
def State.fwcSet (s : State) (b i : Nat) : FwcSet := tget FwcSet.init (s.bench b).fwc i
def State.setFwcSet (s : State) (b i : Nat) (x : FwcSet) : State :=
  s.setBench b { s.bench b with fwc := tset FwcSet.init (s.bench b).fwc i x }

/-- An invalidation of the whole cache is in progress (R339). -/
def State.fwcBusy (s : State) (b : Nat) : Bool := s.bit (A.fwcStat b) 0

/-- The data of a line in a bench's cache; every lookup misses while the cache is being invalidated (R340). -/
def State.fwcFind (s : State) (b line : Nat) : Option (BitVec 512) :=
  if s.fwcBusy b then none
  else (s.fwcSet b (fwcIndex line)).ways.findSome? fun w =>
    match w.2 with
    | some x => if x.line = line then some x.data else none
    | none => none

/-- The way a fill goes to: that of the line itself where another fill has brought it meanwhile (log entry 47), else the
lowest invalid one, else the one at the pointer, which then advances (R335). -/
def fwcPut (x : FwcSet) (w : FwcWay) : FwcSet :=
  match (List.range 8).find? (fun i => (tget none x.ways i).map (fun y => y.line) == some w.line) with
  | some i => { x with ways := tset none x.ways i (some w) }
  | none =>
    match (List.range 8).find? (fun i => (tget none x.ways i).isNone) with
    | some i => { x with ways := tset none x.ways i (some w) }
    | none => { ways := tset none x.ways x.ptr (some w), ptr := (x.ptr + 1) % 8 }

/-- A fill of a line for a core of bench b: the line's data, and the cache after it (R335, R337, R338). DESIGN CHOICE (log entry
128): a fill from a stack that has failed gives 0, with source 7 in the core's name, and the core takes no fault. -/
def State.fwcFill (s : State) (b who line : Nat) : State × BitVec 512 :=
  let a := line * 64
  if s.stackFailed (stackOf a) then (s.addressMap who a, 0)
  else
    let d : BitVec 512 := BitVec.ofNat 512 (memNat s.mem a 64)
    let s1 := s.farEcc a
    if s.farBad a then (s1.count (A.fwcUecnt b) 0 16, d)
    else if s.fwcBusy b || (s.bench b).noInstall.contains line then
      (s1.setBench b { s1.bench b with noInstall := (s1.bench b).noInstall.filter (fun l => l != line) }, d)
    else (s1.setFwcSet b (fwcIndex line) (fwcPut (s1.fwcSet b (fwcIndex line)) ⟨line, d⟩), d)

/-- The line that a core is filling: at most one (09 R316), for a load that waits before a lookup in D. -/
def fillLine (k : Core) : Option Nat :=
  match k.jobs.flatMap (fun j => j.lines) with
  | l :: _ => some l
  | [] => k.early.head?

/-- The lines that the cores of bench b are filling. -/
def State.fillsOf (s : State) (b : Nat) : List Nat :=
  (List.range 8).filterMap fun i => fillLine (s.core (8 * b + i))

/-- Invalidates the lines of bench b that satisfy p; their fills in progress will not be installed (R337, R340). -/
def State.fwcInvalidate (s : State) (b : Nat) (p : Nat → Bool) : State :=
  let x := s.bench b
  s.setBench b { x with
    fwc := (x.fwc.map (fun e => (e.1, { e.2 with ways := e.2.ways.filter (fun w =>
      match w.2 with | some y => !p y.line | none => false) }))).filter (fun e => e.2 != FwcSet.init),
    noInstall := x.noInstall ++ (s.fillsOf b).filter p }

/-- FWC_INV (R339): a write of 1 to INV starts to invalidate every line; without effect while INVB is 1. -/
def fwcInv (b : BenchId) (s : State) : State :=
  if s.fwcBusy b.val then s
  else (s.fwcInvalidate b.val (fun _ => true)).setFld (A.fwcStat b.val) 0 1 1

/-- The coverage period in progress (20 R579), and the lines that scrub has read in it. -/
def State.scrubPeriodNow (s : State) : Nat := (s.dom (s.fld A.spallCtl 1 2)).cnt.toNat / 2 ^ 20
def State.scrubDone (s : State) : List Nat := if s.spall.scrubPeriod = s.scrubPeriodNow then s.spall.scrubbed else []

/-- SCRUB_READ (R353): the stack controller reads a line, once in each coverage period of the spall domain, and writes a
correctable one back corrected; an uncorrectable line stays as stored and is reported. No effect with FM_SCRUB.EN 0 on the
stack, nor while the spall domain counts no grains (log entry 127). -/
def scrubRead (line : BitVec 48) (s : State) : State :=
  let a := line.toNat / 64 * 64
  let q := stackOf a
  if inFar a && s.bit (A.fmScrub q) 0 && !s.stackFailed q && s.islandUp 32 && s.domRuns (s.fld A.spallCtl 1 2) &&
      !s.scrubDone.contains a then
    let s1 := { s.farEcc a with spall := { s.spall with scrubPeriod := s.scrubPeriodNow, scrubbed := s.scrubDone ++ [a] } }
    if s.farBad a then s1
    else { s1 with ce := s1.ce.filter (fun w => !(a ≤ w && w < a + 64)) }
  else s

/-- FAR_STACK (R333): a stack fails its training or thermal check. -/
def farStack (q : StackId) (s : State) : State := (s.setFld (A.fmStat q.val) 0 2 3).raise 41 q.val 0

/-- FM_UEADDR_READ (R334): the low word, and bits [47:32] copied into FM_UEADDR_HI. -/
def State.ueaddrRead (s : State) (q : Nat) : State × Word :=
  let a := tget 0 s.fmUe q
  (s.setFld (A.fmUeaddrHi q) 0 16 (a / 2 ^ 32), BitVec.ofNat 32 a)

def fmUeaddrRead (q : StackId) (who : Requester) (s : State) : State :=
  s.readBy who.val (A.fmUeaddrLo q.val) (fun s => s.ueaddrRead q.val)

/-! ## The commands -/

/-- FWC_INV (10 R339). -/
def execFwcInv (b : BenchId) (s : State) : Host.Outcome State Fault Refusal := finish s (fwcInv b s)
/-- SCRUB_READ (10 R353). -/
def execScrubRead (line : BitVec 48) (s : State) : Host.Outcome State Fault Refusal := finish s (scrubRead line s)
/-- FAR_STACK (10 R333). -/
def execFarStack (q : StackId) (s : State) : Host.Outcome State Fault Refusal := finish s (farStack q s)
/-- FM_UEADDR_READ (10 R334). -/
def execFmUeaddrRead (q : StackId) (who : Requester) (s : State) : Host.Outcome State Fault Refusal :=
  finish s (fmUeaddrRead q who s)

end Sys2Proof.Machine
end

