-- ==== Sys2Proof/Machine/DmaEng.lean ====
section
/-! DEFINITION. DMA sequencers (10 R341-R354): programs, copies, deliveries, errors. -/

namespace Sys2Proof.Machine

def State.modSeqr (s : State) (k : Nat) (f : Dma → Dma) : State := s.setSeqr k (f (s.seqr k))

/-- The owner identifier and requester number of sequencer k (05 R171). -/
def dmaWho (k : Nat) : Nat := 108 + k

/-- `DMA_STAT` fields (R341): 0 IDLE, 1 RUN, 2 WAIT, 3 ERROR. -/
def State.dmaState (s : State) (k : Nat) : Nat := s.fld (A.dmaStat k) 0 2
def State.setDmaState (s : State) (k x : Nat) : State := s.setFld (A.dmaStat k) 0 2 x
def State.dmaPc (s : State) (k : Nat) : Nat := s.fld (A.dmaStat k) 8 8
def State.setDmaPc (s : State) (k x : Nat) : State := s.setFld (A.dmaStat k) 8 8 (x % 256)
def State.dmaFrozen (s : State) (k : Nat) : Bool := s.frozen (29 + k) (A.dmaCtl k) 3

/-- Instruction j and register di. -/
def State.dmaInstr (s : State) (k j : Nat) : DWord := s.reg64 (A.dmaProg k (2 * j)) (A.dmaProg k (2 * j + 1))
def State.dreg (s : State) (k i : Nat) : DWord := s.reg64 (A.dmaD k (2 * i)) (A.dmaD k (2 * i + 1))
def State.setDreg (s : State) (k i : Nat) (v : DWord) : State := s.setReg64 (A.dmaD k (2 * i)) (A.dmaD k (2 * i + 1)) v

/-- A sequencer event (R354): OBJ the instruction index. -/
def State.dmaEvent (s : State) (k e pc info : Nat) : State := s.raise (512 + 4 * k + e) pc info

/-! ## Instruction fields (R343) -/

def diBits (w : DWord) (lo n : Nat) : Nat := bitsAt w.toNat lo n
def diOpc (w : DWord) : Nat := diBits w 58 6
/-- The register of bits [54:52]: D, S or A; of [50:48]: T or L; of [42:40]: G. -/
def diD (w : DWord) : Nat := diBits w 52 3
def diT (w : DWord) : Nat := diBits w 48 3
def diG (w : DWord) : Nat := diBits w 40 3

/-- The bits of [57:0] that an instruction names. -/
def diNamed (opc : Nat) : List (Nat × Nat) :=
  match opc with
  | 0x00 => [(0, 1)]
  | 0x01 => [(52, 3), (0, 48)]
  | 0x02 => [(52, 3), (0, 16)]
  | 0x03 => [(56, 2), (52, 3), (0, 32)]
  | 0x04 => [(52, 3), (48, 3), (42, 6), (0, 22)]
  | 0x05 => [(52, 3), (48, 3), (40, 8), (0, 32)]
  | 0x06 => [(56, 2), (52, 3)]
  | 0x07 => [(52, 3), (46, 4), (0, 16)]
  | 0x08 => [(52, 3), (0, 1)]
  | 0x0A => [(0, 8)]
  | 0x0B => [(52, 3), (0, 8)]
  | 0x0C => [(52, 3), (23, 9)]
  | 0x0D => [(52, 3)]
  | 0x0E => [(0, 8)]
  | 0x0F => [(52, 3), (48, 3), (28, 12)]
  | _ => []

/-- An undefined OPC, F, SSP or TSP value, or a nonzero reserved bit (R348 ILLEGAL). -/
def diIllegal (w : DWord) : Bool :=
  let opc := diOpc w
  let mask := (diNamed opc).foldl (fun m f => m + (2 ^ f.2 - 1) * 2 ^ f.1) 0
  0x10 ≤ opc || (diBits w 0 58 &&& mask) != diBits w 0 58 || (opc == 3 && 2 ≤ diBits w 56 2) ||
    ((opc == 4 || opc == 5) && (2 ≤ diBits w 46 2 || 2 ≤ diBits w 44 2))

def diSrcHost (w : DWord) : Bool := diBits w 46 2 == 1
def diDstHost (w : DWord) : Bool := diBits w 44 2 == 1
/-- Words per row and rows of a copy. -/
def diWords (w : DWord) : Nat := if diOpc w = 4 then diBits w 0 22 + 1 else diBits w 0 16 + 1
def diRows (w : DWord) : Nat := if diOpc w = 4 then 1 else diBits w 16 16 + 1

/-! ## Ends and errors -/

/-- The program ends (R182, R343): loans return. -/
def State.dmaIdle (s : State) (k : Nat) : State :=
  ((s.modSeqr k fun x => { x with wait := .none, stop := false }).setDmaState k 0).releaseLoans (dmaWho k)

/-- ERROR is entered once no transaction is outstanding (R348). -/
def State.dmaFail (s : State) (k : Nat) : State :=
  match (s.seqr k).err with
  | some (code, addr, pc) =>
    if (s.seqr k).txs.isEmpty then
      let s1 := s.modSeqr k fun x => { x with err := none, wait := .none, stop := false, erraddr := BitVec.ofNat 64 addr }
      ((((s1.setDmaState k 3).setDmaPc k pc).setFld (A.dmaStat k) 16 4 code).dmaEvent k 2 pc code).releaseLoans (dmaWho k)
    else s
  | none => s

/-- An error is met by instruction pc (R348): issue stops; the first error stands. -/
def State.dmaError (s : State) (k code addr pc : Nat) : State :=
  (s.modSeqr k fun x => { x with err := some (x.err.getD (code, addr, pc)), wait := .none }).dmaFail k

/-- The instruction in progress is done: the next one, or the end that a STOP asked for (R341). -/
def State.dmaNext (s : State) (k next : Nat) : State :=
  let s1 := (s.modSeqr k fun x => { x with wait := .none }).setDmaPc k next
  if (s1.seqr k).stop && (s1.seqr k).txs.isEmpty then s1.dmaIdle k else s1.setDmaState k 1
def State.dmaStep (s : State) (k : Nat) : State := s.dmaNext k (s.dmaPc k + 1)

/-! ## Copies (R344, R345) -/

/-- Words of a transaction: those left in the row, to the end of the 64-byte line at the source and at the destination. -/
def txWords (left src dst : Nat) : Nat := Nat.min left (Nat.min ((64 - src % 64) / 4) ((64 - dst % 64) / 4))

/-- The addresses of word n of row r of a copy. -/
def State.copyAddrs (s : State) (k : Nat) (w : DWord) (row word : Nat) : Nat × Nat :=
  let g := s.dreg k (diG w)
  let at_ := fun (base : DWord) (stride : Int) => wrapN (base.toNat + row * stride + 4 * word) 64
  if diOpc w = 4 then (at_ (s.dreg k (diD w)) 0, at_ (s.dreg k (diT w)) 0)
  else (at_ (s.dreg k (diD w)) (sgn g.toNat 32), at_ (s.dreg k (diT w)) (sgn (g.toNat / 2 ^ 32) 32))

/-- The first address of a row's start that is not 4-byte aligned (R344). -/
def unaligned (a : Nat × Nat) : Option Nat := if a.1 % 4 ≠ 0 then some a.1 else if a.2 % 4 ≠ 0 then some a.2 else none

/-- The next transaction of a copy issues while fewer than 104 are outstanding (R342); after the last one the instruction
is done, and INC moves the registers. An address that is not aligned ends it in FIELD when its row is reached (R348). -/
def State.dmaPump (s : State) (k : Nat) : Nat → State
  | 0 => s
  | n + 1 =>
    match (s.seqr k).wait with
    | .copy w row word =>
      if s.dmaFrozen k || 104 ≤ (s.seqr k).txs.length then s
      else if diRows w ≤ row then
        let s1 := if diOpc w = 4 && diBits w 42 1 == 1 then
            let inc := BitVec.ofNat 64 (4 * diWords w)
            let t := s.setDreg k (diD w) (s.dreg k (diD w) + inc)
            t.setDreg k (diT w) (t.dreg k (diT w) + inc)
          else s
        s1.dmaStep k
      else
        let a := s.copyAddrs k w row word
        match unaligned a with
        | some x => s.dmaError k 8 x (s.dmaPc k)
        | none =>
        let m := txWords (diWords w - word) a.1 a.2
        let next : DmaWait := if diWords w ≤ word + m then .copy w (row + 1) 0 else .copy w row (word + m)
        (s.modSeqr k fun x => { x with
          txs := x.txs ++ [⟨a.1, a.2, m, diSrcHost w, diDstHost w, diBits w 43 1 == 1, s.dmaPc k⟩],
          wait := next }).dmaPump k n
    | _ => s

/-- A MOVE or MOVE2D begins (R344, R348 FIELD). -/
def State.dmaCopy (s : State) (k : Nat) (w : DWord) : State :=
  if diSrcHost w && diDstHost w then s.dmaError k 8 0 (s.dmaPc k)
  else (s.modSeqr k fun x => { x with wait := .copy w 0 0 }).dmaPump k 105

/-- PF0 can be used as requester: D0, bus mastering on (R348 HOST). -/
def State.hostOk (s : State) : Bool := (s.fn 0).bme && !(s.fn 0).d3

/-- A global address that a sequencer reaches (01 R30): banks and far memory. -/
def dmaReach (a : Nat) : Bool := inBanks a || inFar a

/-- BUSY a number of times from the bank of an address (05 R169). -/
def State.countBusies (s : State) (a n : Nat) : State := (List.range n).foldl (fun s _ => s.countBusy a) s

/-- The reads of a bank that met BUSY one after another (05 R170, R347): with RB the read is reissued at most 4 times, so a
fifth one, or the first without RB, completes with what it read. -/
def dmaBusyReads (e : DmaEnd) (rb : Bool) : Nat :=
  match e with
  | .busy n _ => if rb then n.val else Nat.min n.val 1
  | _ => 0
def dmaBusyWrite (e : DmaEnd) : Bool := match e with | .busy _ w => w | _ => false

/-- A bank read that met BUSY `n` times and is made (R347): one that completes with BUSY delivers the data as read. -/
def State.dmaBankRead (s : State) (k : Nat) (t : DmaTx) (n : Nat) : State × Option Nat :=
  let last := n != 0 && (!t.rb || n == 5)
  let r := s.portReadMet (dmaWho k) t.src (4 * t.words) last
  if r.2.isNone then r
  else if last then
    (((r.1.countBusies t.src (n - 1)).setFld (A.dmaStat k) 3 1 1).count (A.dmaBusycnt k) 0 32, r.2)
  else (r.1.countBusies t.src n, r.2)

/-- The data of a transaction's source; none where an error was met. -/
def State.txRead (s : State) (k : Nat) (t : DmaTx) (e : DmaEnd) (host : List Byte) (cycles : Word) :
    State × Option (List Byte) :=
  let n := 4 * t.words
  if t.srcHost then
    let s1 := s.maxFld (A.dmaHostmax k) 0 32 cycles.toNat
    if e = .hostError ∨ !s.hostOk then (s1.dmaError k 4 t.src t.pc, none)
    else (s1, some ((List.range n).map (fun i => host.getD i 0)))
  else if !dmaReach t.src then ((s.addressMap (dmaWho k) t.src).dmaError k 2 t.src t.pc, none)
  else if inBanks t.src then
    match s.dmaBankRead k t (dmaBusyReads e t.rb) with
    | (s1, some v) => (s1, some (bytesOf v n))
    | (s1, none) => (s1.dmaError k 3 t.src t.pc, none)
  else if s.stackFailed (stackOf t.src) then ((s.addressMap (dmaWho k) t.src).dmaError k 2 t.src t.pc, none)
  else
    let r := s.farRead (dmaWho k) t.src n
    if s.farBad t.src then (r.1.dmaError k 5 t.src t.pc, none) else (r.1, some (bytesOf r.2 n))

/-- The write of a transaction's data. -/
def State.txWrite (s : State) (k : Nat) (t : DmaTx) (e : DmaEnd) (bs : List Byte) : State :=
  if t.dstHost then
    if (!t.srcHost && e == .hostError) || !s.hostOk then s.dmaError k 4 t.dst t.pc
    else s.emit (.hostWrite (BitVec.ofNat 64 t.dst) bs)
  else if !dmaReach t.dst then (s.addressMap (dmaWho k) t.dst).dmaError k 2 t.dst t.pc
  else if inBanks t.dst then
    match s.portWriteMet (dmaWho k) t.dst bs (dmaBusyWrite e) with
    | (s1, true) => s1
    | (s1, false) => s1.dmaError k 3 t.dst t.pc
  else if s.stackFailed (stackOf t.dst) then (s.addressMap (dmaWho k) t.dst).dmaError k 2 t.dst t.pc
  else s.farWrite (dmaWho k) t.dst bs

/-! ## Instructions that wait for transactions (R346) -/

/-- The effect of a HAND or REL (R343): `BANK_OWN` of the bank holding dA under identity 108 + k. -/
def State.dmaHand (s : State) (k a : Nat) (v : Nat → Word) : State :=
  let pc := s.dmaPc k
  if !inBanks a then (s.addressMap (dmaWho k) a).dmaError k 2 a pc
  else
    let n := bankOf a
    match s.ownFails n (dmaWho k) (v n) with
    | some _ => (s.ownWrite n (dmaWho k) (v n)).dmaError k 6 a pc
    | none => (s.ownWrite n (dmaWho k) (v n)).dmaStep k

/-- The effect of DLVE (R351). -/
def State.dmaReady (s : State) (k : Nat) (w : DWord) : State :=
  let pc := s.dmaPc k
  let a := (s.dreg k (diD w)).toNat
  match (s.seqr k).dlv with
  | none => s.dmaError k 8 a pc
  | some d =>
    if a % 4 ≠ 0 ∨ !inBanks a ∨ benchOfBank (bankOf a) ≠ d.bench then s.dmaError k 8 a pc
    else match s.portWriteFree (dmaWho k) a (bytesOf (d.grain.toNat % 2 ^ 32) 4) with
      | (s1, false) => s1.dmaError k 3 a pc
      | (s1, true) =>
        let s2 := ((s1.modSeqr k fun x => { x with dlv := none }).setFld (A.dmaStat k) 4 1 0).setReg (A.dmaLastg k)
          (d.grain.setWidth 32)
        let s3 := if diBits w 0 1 = 1 then s2.dmaEvent k 3 pc (d.grain.toNat % 2 ^ 32) else s2
        s3.dmaStep k

/-- The lines of [a, a + n). -/
def overlaps (a n line : Nat) : Bool := n != 0 && line * 64 < a + n && a < line * 64 + 64

/-- The effect of INVAL (R343, R352): the lines of the range go from each named bench's cache; a range of more than 1,024
lines takes every line. -/
def State.dmaInval (s : State) (k : Nat) (w : DWord) : State :=
  let a := (s.dreg k (diD w)).toNat
  let n := (s.dreg k (diT w)).toNat
  let bs := (List.range 12).filter (fun b => bitAt w.toNat (28 + b))
  let lines := if n = 0 then 0 else (a + n - 1) / 64 - a / 64 + 1
  let p : Nat → Bool := if 1024 < lines then fun _ => true else overlaps a n
  if bs.isEmpty || n = 0 then s.dmaStep k
  else
    let s1 := bs.foldl (fun s b => (s.fwcInvalidate b p).setFld (A.fwcStat b) 0 1 1) s
    s1.modSeqr k fun x => { x with wait := .inval bs }

/-- An instruction that waited for every transaction takes effect. -/
def State.dmaEffect (s : State) (k : Nat) (w : DWord) : State :=
  let pc := s.dmaPc k
  let a := (s.dreg k (diD w)).toNat
  match diOpc w with
  | 0x00 => (if diBits w 0 1 = 1 then s.dmaEvent k 1 pc 0 else s).dmaIdle k
  | 0x08 => s.dmaReady k w
  | 0x0C => s.dmaHand k a (fun _ => BitVec.ofNat 32 (diBits w 0 32))
  | 0x0D => s.dmaHand k a (fun n => BitVec.ofNat 32 (s.lender n * 2 ^ 24))
  | 0x0F => s.dmaInval k w
  | _ => s.dmaStep k

/-- A sequencer goes on after a transaction has completed: an error, the rest of a copy, an instruction that waited, the
end that a STOP asked for. -/
def State.dmaSettle (s : State) (k : Nat) : State :=
  let x := s.seqr k
  if x.err.isSome then s.dmaFail k
  else match x.wait with
    | .copy _ _ _ => s.dmaPump k 105
    | .txs w => if x.txs.isEmpty && !s.dmaFrozen k then s.dmaEffect k w else s
    | .none => if x.stop && x.txs.isEmpty && s.dmaState k == 1 then s.dmaIdle k else s
    | _ => s

/-- An instruction that first waits until no transaction is outstanding (R346). -/
def State.dmaWaitTxs (s : State) (k : Nat) (w : DWord) : State :=
  (s.modSeqr k fun x => { x with wait := .txs w }).dmaSettle k

/-! ## Issue -/

/-- The instruction at the PC issues: the sequencer runs, waits for nothing, is not frozen (19 R576), and the word is the
one in the store. An illegal one ends in ILLEGAL; an undefined OPC is met by the row of SETI. -/
def State.dmaIssue (s : State) (k own : Nat) (w : DWord) (f : State → State) : State :=
  let x := s.seqr k
  if s.islandUp 32 && s.dmaState k == 1 && x.wait == .none && x.err.isNone && !x.stop && !s.dmaFrozen k && s.dmaInstr k (s.dmaPc k) == w &&
      (diOpc w == own || (own == 1 && 0x10 ≤ diOpc w)) then
    if diIllegal w then s.dmaError k 1 0 (s.dmaPc k) else f s
  else s

/-- SETI, SETH, ALUI (R343). -/
def State.dmaSet (s : State) (k : Nat) (w : DWord) (v : DWord) : State := (s.setDreg k (diD w) v).dmaStep k
/-- The value of an ALUI of function F. -/
def aluiValue (w d : DWord) : DWord :=
  if diBits w 56 2 = 0 then d + BitVec.ofInt 64 (sgn (diBits w 0 32) 32) else d ^^^ BitVec.ofNat 64 (diBits w 0 32)

/-- WAITG (R349): ends at once, finds its domain OFF, or waits. -/
def State.dmaWaitg (s : State) (k : Nat) (w : DWord) : State :=
  let d := diBits w 56 2
  let g := s.dreg k (diD w)
  if s.domState d = 0 then s.dmaError k 7 0 (s.dmaPc k)
  else if s.domRuns d ∧ g.toNat ≤ (s.dom d).cnt.toNat then s.dmaStep k
  else (s.modSeqr k fun x => { x with wait := .grain d g }).setDmaState k 2

/-- The next DLVE at or after an index, within one turn of the store. -/
def State.nextDlve (s : State) (k : Nat) : Nat → Nat → Option Nat
  | 0, _ => none
  | n + 1, j => if diOpc (s.dmaInstr k (j % 256)) = 8 then some (j % 256) else s.nextDlve k n (j + 1)

/-- A delivery misses its deadline (R351): counted, source 19, and the action of OVR. Under ABANDON no further transaction
of it issues and execution continues after its DLVE (the next one in the store, log entry 17). -/
def State.dmaMiss (s : State) (k : Nat) (d : Delivery) : State :=
  let ovr := s.bit (A.dmaCtl k) 2
  let s1 := (s.count (A.dmaDlcnt k) 0 32).raise 19 k
    (d.dom + b2n ovr * 4 + d.bench * 2 ^ 4 + d.grain.toNat % 2 ^ 32 * 2 ^ 8)
  if ovr then (s1.modSeqr k fun x => { x with dlv := some { d with late := true } }).setFld (A.dmaStat k) 4 1 1
  else
    let s2 := s1.modSeqr k fun x => { x with dlv := none }
    if s.dmaState k = 1 ∨ s.dmaState k = 2 then
      match s.nextDlve k 256 (s.dmaPc k) with
      | some j => s2.dmaNext k (j + 1)
      | none => s2
    else s2

/-- DLVB (R350, R351): `late` says that it issues at or after its deadline. -/
def State.dmaOpen (s : State) (k : Nat) (w : DWord) (late : Bool) : State :=
  let b := diBits w 46 4
  let g := s.dreg k (diD w)
  if (s.seqr k).dlv.isSome ∨ 12 ≤ b then s.dmaError k 8 0 (s.dmaPc k)
  else if s.domState (s.benchDom b) = 0 then s.dmaError k 7 0 (s.dmaPc k)
  else
    let d : Delivery := ⟨g, b, s.benchDom b, false⟩
    let s1 := (s.modSeqr k fun x => { x with dlv := some d }).dmaStep k
    if late then s1.dmaMiss k d else s1

/-- LOOPD (R343). -/
def State.dmaLoop (s : State) (k : Nat) (w : DWord) : State :=
  let v := s.dreg k (diD w) - 1
  (s.setDreg k (diD w) v).dmaNext k (if v = 0 then s.dmaPc k + 1 else diBits w 0 8)

/-! ## Registers -/

/-- A program starts at an index (R341). -/
def State.dmaStart (s : State) (k entry : Nat) : State :=
  if s.dmaState k = 0 ∨ s.dmaState k = 3 then
    let s1 := (s.setFld (A.dmaStat k) 16 4 0).modSeqr k fun x => { x with wait := .none, dlv := none, stop := false, err := none }
    (((s1.setFld (A.dmaStat k) 4 1 0).setDmaPc k entry).setDmaState k 1)
  else s

/-- STOP (R341): the program ends after the instruction in progress. -/
def State.dmaStopReq (s : State) (k : Nat) : State :=
  if s.dmaState k = 1 ∨ s.dmaState k = 2 then (s.modSeqr k fun x => { x with stop := true }).dmaSettle k else s

/-- A write of `DMA_CTL` (R341): OVR, FRZ and ENTRY are stored; GO, then STOP, act. -/
def State.dmaCtlWrite (s : State) (k : Nat) (v : Word) : State :=
  let s1 := s.setReg (A.dmaCtl k) (v &&& 0xFF0C)
  let s2 := if fget v 0 1 = 1 then s1.dmaStart k (fget v 8 8) else s1
  if fget v 1 1 = 1 then s2.dmaStopReq k else s2

/-- A write of a d register or of the program store (R341): refused while the program runs. -/
def State.dmaStoreWrite (s : State) (k off : Nat) (v : Word) : State :=
  if s.dmaState k = 0 ∨ s.dmaState k = 3 then s.setReg off v else s.setFld (A.dmaStat k) 2 1 1

/-- DMA_ERRADDR_LO (R341). -/
def State.erraddrRead (s : State) (k : Nat) : State × Word :=
  let a := (s.seqr k).erraddr
  (s.setReg (A.dmaErraddrHi k) ((a >>> 32).setWidth 32), a.setWidth 32)

/-! ## Commands -/

def dmaTransactionComplete (k : SeqrId) (i : Fin 104) (e : DmaEnd) (host : List Byte) (cycles : Word) (s : State) : State :=
  match (s.seqr k.val).txs[i.val]? with
  | none => s
  | some t =>
    if (!t.srcHost && s.borrowed t.src) || (!t.dstHost && s.borrowed t.dst) || !s.islandUp 32 then s
    else
      let s1 := s.modSeqr k.val fun x => { x with txs := x.txs.eraseIdx i.val }
      let r := s1.txRead k.val t e host cycles
      let s2 := match r.2 with
        | some bs => r.1.txWrite k.val t e bs
        | none => r.1
      s2.dmaSettle k.val

def waitgEnd (k : SeqrId) (s : State) : State :=
  match (s.seqr k.val).wait with
  | .grain d g =>
    if !s.islandUp 32 then s
    else if s.domState d = 0 then s.dmaError k.val 7 0 (s.dmaPc k.val)
    else if s.domRuns d ∧ (s.dom d).fabOn ∧ g.toNat ≤ (s.dom d).fab.toNat ∧ !s.dmaFrozen k.val then s.dmaStep k.val
    else s
  | _ => s

def dmaDeadline (k : SeqrId) (s : State) : State :=
  match (s.seqr k.val).dlv with
  | some d => if d.late || s.dmaFrozen k.val || !s.islandUp 32 then s else s.dmaMiss k.val d
  | none => s

/-- FWC_INVALIDATE_DONE (R339, R352): the invalidation in bench b ends, and an INVAL whose benches have all finished. A fill
that it covered and that is still in progress stays uninstalled (R337). -/
def fwcInvalidateDone (b : BenchId) (s : State) : State :=
  let s1 := (s.setFld (A.fwcStat b.val) 0 1 0).setBench b.val
    { s.bench b.val with noInstall := (s.bench b.val).noInstall.filter (fun l => (s.fillsOf b.val).contains l) }
  s1 |> upTo 32 fun s k =>
    match (s.seqr k).wait with
    | .inval bs =>
      let rest := bs.filter (fun x => x != b.val)
      if rest.isEmpty then s.dmaStep k else s.modSeqr k fun x => { x with wait := .inval rest }
    | _ => s

/-- END (10 R343). -/
def execDmaEnd (k : SeqrId) (w : DWord) (s : State) : Host.Outcome State Fault Refusal :=
  finish s (s.dmaIssue k.val 0x00 w fun s => s.dmaWaitTxs k.val w)
/-- SETI (10 R343). -/
def execSeti (k : SeqrId) (w : DWord) (s : State) : Host.Outcome State Fault Refusal :=
  finish s (s.dmaIssue k.val 0x01 w fun s => s.dmaSet k.val w (BitVec.ofNat 64 (diBits w 0 48)))
/-- SETH (10 R343). -/
def execSeth (k : SeqrId) (w : DWord) (s : State) : Host.Outcome State Fault Refusal :=
  finish s (s.dmaIssue k.val 0x02 w fun s =>
    s.dmaSet k.val w (BitVec.ofNat 64 (bitsPut (s.dreg k.val (diD w)).toNat 48 16 (diBits w 0 16))))
/-- ALUI ADD (10 R343): F 0b00; the reserved functions end in ILLEGAL. -/
def execAluiAdd (k : SeqrId) (w : DWord) (s : State) : Host.Outcome State Fault Refusal :=
  finish s (if diBits w 56 2 = 1 then s else
    s.dmaIssue k.val 0x03 w fun s => s.dmaSet k.val w (aluiValue w (s.dreg k.val (diD w))))
/-- ALUI XOR (10 R343): F 0b01. -/
def execAluiXor (k : SeqrId) (w : DWord) (s : State) : Host.Outcome State Fault Refusal :=
  finish s (if diBits w 56 2 = 1 then
    s.dmaIssue k.val 0x03 w fun s => s.dmaSet k.val w (aluiValue w (s.dreg k.val (diD w))) else s)
/-- MOVE (10 R343, R345). -/
def execMove (k : SeqrId) (w : DWord) (s : State) : Host.Outcome State Fault Refusal :=
  finish s (s.dmaIssue k.val 0x04 w fun s => s.dmaCopy k.val w)
/-- MOVE2D (10 R343, R345). -/
def execMove2d (k : SeqrId) (w : DWord) (s : State) : Host.Outcome State Fault Refusal :=
  finish s (s.dmaIssue k.val 0x05 w fun s => s.dmaCopy k.val w)
/-- DMA_TRANSACTION_COMPLETE (10 R345, R347). -/
def execDmaTransactionComplete (k : SeqrId) (i : Fin 104) (e : DmaEnd) (host : List Byte) (cycles : Word) (s : State) :
    Host.Outcome State Fault Refusal := finish s (dmaTransactionComplete k i e host cycles s)
/-- WAITG (10 R349). -/
def execWaitg (k : SeqrId) (w : DWord) (s : State) : Host.Outcome State Fault Refusal :=
  finish s (s.dmaIssue k.val 0x06 w fun s => s.dmaWaitg k.val w)
/-- WAITG_END (10 R349). -/
def execWaitgEnd (k : SeqrId) (s : State) : Host.Outcome State Fault Refusal := finish s (waitgEnd k s)
/-- DLVB (10 R350). -/
def execDlvb (k : SeqrId) (w : DWord) (late : Bool) (s : State) : Host.Outcome State Fault Refusal :=
  finish s (s.dmaIssue k.val 0x07 w fun s => s.dmaOpen k.val w late)
/-- DLVE (10 R351). -/
def execDlve (k : SeqrId) (w : DWord) (s : State) : Host.Outcome State Fault Refusal :=
  finish s (s.dmaIssue k.val 0x08 w fun s =>
    if (s.seqr k.val).dlv.isNone then s.dmaError k.val 8 0 (s.dmaPc k.val) else s.dmaWaitTxs k.val w)
/-- DMA_DEADLINE (10 R351, 02 R66). -/
def execDmaDeadline (k : SeqrId) (s : State) : Host.Outcome State Fault Refusal := finish s (dmaDeadline k s)
/-- FENCE (10 R343). -/
def execDmaFence (k : SeqrId) (w : DWord) (s : State) : Host.Outcome State Fault Refusal :=
  finish s (s.dmaIssue k.val 0x09 w fun s => s.dmaWaitTxs k.val w)
/-- JMP (10 R343). -/
def execJmp (k : SeqrId) (w : DWord) (s : State) : Host.Outcome State Fault Refusal :=
  finish s (s.dmaIssue k.val 0x0A w fun s => s.dmaNext k.val (diBits w 0 8))
/-- LOOPD (10 R343). -/
def execLoopd (k : SeqrId) (w : DWord) (s : State) : Host.Outcome State Fault Refusal :=
  finish s (s.dmaIssue k.val 0x0B w fun s => s.dmaLoop k.val w)
/-- HAND (10 R343). -/
def execHand (k : SeqrId) (w : DWord) (s : State) : Host.Outcome State Fault Refusal :=
  finish s (s.dmaIssue k.val 0x0C w fun s => s.dmaWaitTxs k.val w)
/-- REL (10 R343). -/
def execRel (k : SeqrId) (w : DWord) (s : State) : Host.Outcome State Fault Refusal :=
  finish s (s.dmaIssue k.val 0x0D w fun s => s.dmaWaitTxs k.val w)
/-- SIGNAL (10 R343, R354). -/
def execSignal (k : SeqrId) (w : DWord) (s : State) : Host.Outcome State Fault Refusal :=
  finish s (s.dmaIssue k.val 0x0E w fun s => (s.dmaEvent k.val 0 (s.dmaPc k.val) (diBits w 0 8)).dmaStep k.val)
/-- INVAL (10 R352). -/
def execInval (k : SeqrId) (w : DWord) (s : State) : Host.Outcome State Fault Refusal :=
  finish s (s.dmaIssue k.val 0x0F w fun s => s.dmaWaitTxs k.val w)
/-- A write of GO (10 R341): `v` is the word written to `DMA_CTL`. -/
def execDmaGo (k : SeqrId) (v : Word) (s : State) : Host.Outcome State Fault Refusal :=
  finish s (s.dmaCtlWrite k.val (v ||| 1))
/-- A write of STOP (10 R341). -/
def execDmaCtlStop (k : SeqrId) (v : Word) (s : State) : Host.Outcome State Fault Refusal :=
  finish s (s.dmaCtlWrite k.val (v ||| 2))
/-- DMA_ERRADDR_READ (10 R341). -/
def execDmaErraddrRead (k : SeqrId) (who : Requester) (s : State) : Host.Outcome State Fault Refusal :=
  finish s (s.readBy who.val (A.dmaErraddrLo k.val) (fun s => s.erraddrRead k.val))
/-- FWC_INVALIDATE_DONE (10 R340). -/
def execFwcInvalidateDone (b : BenchId) (s : State) : Host.Outcome State Fault Refusal :=
  finish s (fwcInvalidateDone b s)

end Sys2Proof.Machine
end

