-- ==== Sys2Proof/Machine/ResetBase.lean ====
section
/-! DEFINITION. The unit reset and the power-on reset as states (18 R545, R549, R550). -/

namespace Sys2Proof.Machine

/-- What follows from the straps as latched in `SYS_STRAP` (12 R393, R408, R422): HEAD and ROLE, and every lane NONE on a
unit strapped EVEN or ODD. -/
def State.strapped (s : State) : State :=
  let v := s.rawReg A.sysStrap
  let s1 := (s.setFld A.chStat 7 1 (fget v 0 1)).setFld A.chStat 8 2 (fget v 1 2)
  if fget v 1 2 = 0 then s1 else (List.range 64).foldl (fun s i => s.setReg (A.twLane i) 0xAAAAAAAA) s1

/-- Registers that a unit reset keeps (R549): the fault latch, the straps, the MSI-X tables, the host link's state. -/
def resetKeeps (off : Nat) : Bool :=
  (0x2000 ≤ off && off < 0x2018) || off == A.sysStrap || off == A.hostStat0 || off == A.hostStat1 ||
  (0x90000 ≤ off && off < 0x98100) || (0x100008000 ≤ off && off < 0x100009020)

/-- A unit reset (R545, R549): the Unit column; what no row of R549 names takes its reset value (log entry 21). -/
def State.unitReset (s : State) (cause issuer : Nat) : State :=
  let far := fun (a : Nat) => inFar a
  let t : State := { State.reset with
    pending := s.pending, fresh := s.fresh, timer := s.timer, utime := s.utime, out := s.out,
    regs := s.regs.filter (fun e => resetKeeps e.1), mem := s.mem.filter (fun e => far e.1),
    ce := s.ce.filter far, ue := s.ue.filter far,
    net := { Net.init with slew := s.net.slew, hist := s.net.hist },
    fns := (s.fns.map (fun e => (e.1, { e.2 with key := false }))).filter (fun e => e.2 != Fn.init),
    sys := { Sys.init with stopped := s.sys.stopped, refLost := s.sys.refLost, thermalHold := s.sys.thermalHold,
                           perst := s.sys.perst, lastWarn := s.sys.lastWarn } }
  (t.setReg A.sysRstcause (BitVec.ofNat 32 (cause + issuer * 2 ^ 8))).strapped

/-- A power-on reset (R542, R549): everything at its reset value, the straps in `SYS_STRAP`. -/
def State.powerOn (s : State) (straps : Word) : State :=
  let t : State := { State.reset with pending := s.pending, fresh := s.fresh, out := s.out, sys := Sys.init }
  (t.setReg A.sysStrap straps).strapped

end Sys2Proof.Machine
end

