-- ==== Sys2Proof/Machine/Serial.lean ====
section
/-! DEFINITION. Frames of the management serial port as they lie on the line (19 R561). -/

namespace Sys2Proof.Machine

/-- Each 0x7E or 0x7D byte inside a frame is sent as 0x7D and the byte XOR 0x20. -/
def escape (bs : List Byte) : List Byte := bs.flatMap fun b => if b = 0x7E ∨ b = 0x7D then [0x7D, b ^^^ 0x20] else [b]

/-- The bytes of a frame that follow its flag on the line; none where the frame holds a flag or ends in 0x7D. -/
def unescape : List Byte → Option (List Byte)
  | [] => some []
  | [b] => if b = 0x7E ∨ b = 0x7D then none else some [b]
  | b :: c :: bs =>
    if b = 0x7E then none
    else if b = 0x7D then (if c = 0x7E then none else (unescape bs).map ((c ^^^ 0x20) :: ·))
    else (unescape (c :: bs)).map (b :: ·)

/-- A frame is whole: LEN is the length of BODY, the CRC holds, and CHAN is listed. -/
def frameOk (f : List Byte) : Bool :=
  let n := natOf ((f.drop 1).take 2)
  let chan := (f.getD 0 0).toNat
  f.length == n + 7 && n ≤ 4112 && natOf ((f.drop (n + 3)).take 4) == (crc32c (f.take (n + 3))).toNat && 1 ≤ chan && chan ≤ 4

/-- The frame that lies on the line, if it is whole. -/
def frameOf (line : List Byte) : Option (List Byte) := (unescape line).filter frameOk

/-- A frame as the unit sends it: the flag, then CHAN, LEN, BODY and CRC, escaped. -/
def serialFrame (chan : Nat) (body : List Byte) : List Byte :=
  let f := bytesOf chan 1 ++ bytesOf body.length 2 ++ body
  0x7E :: escape (f ++ bytesOf (crc32c f).toNat 4)

end Sys2Proof.Machine
end

