-- ==== Sys2Proof/Machine/Queues.lean ====
section
/-! DEFINITION. The host port (13): queue descriptors, doorbells, completions, event records, signalling, interface reset,
D3hot, host frames. -/

namespace Sys2Proof.Machine

/-! ## Functions -/

def hostIfrst (f : Nat) : Nat := if f = 0 then A.hostIfrst0 else A.hostIfrst1
def hostStat (f : Nat) : Nat := if f = 0 then A.hostStat0 else A.hostStat1
def hostDberr (f : Nat) : Nat := if f = 0 then A.hostDberrcnt0 else A.hostDberrcnt1

/-- The function's interface reset is in progress (R453). -/
def State.ifrstBusy (s : State) (f : Nat) : Bool := s.bit (hostIfrst f) 8

/-- The function reads and writes host memory (R426, R454): Bus Master Enable, D0, a link that is up, and a host island that runs
(17 R528). -/
def State.fnReady (s : State) (f : Nat) : Bool :=
  s.islandUp 31 && (s.fn f).bme && !(s.fn f).d3 && !s.ifrstBusy f && s.fld (hostStat f) 0 3 != 0

/-! ## Queue descriptors (R433-R438) -/

/-- `Q_BIND.FN`: 0 PF0, 1 PF1, 3 none. A descriptor whose store holds an error acts as a queue in ERROR (17 R528). -/
def State.qFn (s : State) (q : Nat) : Nat := s.fld (A.qBind q) 0 2
def State.qEn (s : State) (q : Nat) : Bool := s.bit (A.qCtl q) 0
/-- TYPE: 0 SQ, 1 CQ, 2 EQ, 3 stream; DIR. -/
def State.qType (s : State) (q : Nat) : Nat := s.fld (A.qCtl q) 1 2
def State.qDir (s : State) (q : Nat) : Nat := s.fld (A.qCtl q) 3 1
/-- STATE: 0 DISABLED, 1 RUN, 2 DRAINING, 3 ERROR. -/
def State.qState (s : State) (q : Nat) : Nat := if s.bad 7 q then 3 else s.fld (A.qStat q) 0 2
def State.setQState (s : State) (q x : Nat) : State := s.setFld (A.qStat q) 0 2 x
/-- Entries of the ring. -/
def State.qLen (s : State) (q : Nat) : Nat := s.fld (A.qSize q) 0 16 + 1
def State.qHd (s : State) (q : Nat) : Nat := s.fld (A.qHead q) 0 16
def State.qTl (s : State) (q : Nat) : Nat := s.fld (A.qTail q) 0 16
def State.qLnk (s : State) (q : Nat) : Nat := s.fld (A.qLink q) 0 16
def State.qIen (s : State) (q : Nat) : Bool := s.bit (A.qIrq q) 11
/-- Entries between HEAD and TAIL. -/
def State.qUsed (s : State) (q : Nat) : Nat := (s.qTl q + s.qLen q - s.qHd q) % s.qLen q
/-- SIZE - 1 entries are unread (R444). -/
def State.qFull (s : State) (q : Nat) : Bool := s.qUsed q + 1 ≥ s.qLen q
def State.setQErr (s : State) (q e : Nat) : State := s.setFld (A.qStat q) 4 4 e

/-- Queues that a descriptor register is listed for: every other queue stands at its reset values. -/
def State.qListed (s : State) : List Nat :=
  (s.regs.filterMap fun e =>
    if 0x1000000 ≤ e.1 && e.1 < 0x2000000 then some ((e.1 - 0x1000000) / 0x100) else none).eraseDups

/-- An SQ not DISABLED names CQ q (R437). -/
def State.qNamed (s : State) (q : Nat) : Bool :=
  s.qListed.any (fun x => s.qType x == 0 && s.qState x != 0 && s.qLnk x == q)

/-- MSI-X vectors of a function (R429). -/
def msixCount (f : Nat) : Nat := if f = 0 then 1792 else 256

/-- The conditions of R436 for an enable by a function (`fn` 2: the management serial port or the foreman). -/
def State.enableOk (s : State) (fn q : Nat) : Bool :=
  let ty := s.qType q
  let f := s.qFn q
  let link := s.rawReg (A.qLink q)
  let irq := s.rawReg (A.qIrq q)
  let mod := s.rawReg (A.qMod q)
  s.qState q == 0 && s.fld (A.qSize q) 0 16 != 0 && s.fld (A.qBaseLo q) 0 6 == 0 && (fn ≥ 2 || fn == f) && f < 2 &&
  (ty != 0 || (s.qEn (s.qLnk q) && s.qType (s.qLnk q) == 1 && s.qFn (s.qLnk q) == f)) &&
  fget irq 0 11 < msixCount f &&
  (ty == 3 || s.qDir q == 0) && ((ty != 1 && ty != 2) || link == 0) && (ty != 0 || fget irq 0 11 == 0) &&
  ((ty != 0 && ty != 2) || mod == 0)

/-- What a descriptor write came to (R434, R436, R437). -/
inductive QRes where
  | done
  | bind
  | cfg
  | inuse
  | notDisabled
  deriving DecidableEq, Repr

/-- The duplicate window emptied and `Q_SEQHI` cleared (R435, 16 R512). -/
def State.seqClear (s : State) (q : Nat) : State :=
  (s.setQst q { s.qst q with window := [] }).setReg (A.qSeqhi q) 0

/-- An accepted enable (R436). -/
def State.qEnable (s : State) (q : Nat) : State :=
  let s1 := ((s.setFld (A.qCtl q) 0 1 1).setReg (A.qStat q) (fput (fput (s.rawReg (A.qStat q)) 0 2 1) 3 1 1)).setReg (A.qHead q) 0
  (s1.setReg (A.qTail q) 0x10000).setQst q { s1.qst q with unsig := 0, sigT0 := 0 }

/-- EN written to 0, or 0 again in ERROR (R437, R438). -/
def State.qDisable (s : State) (q : Nat) : State × QRes :=
  if s.qType q = 1 ∧ s.qNamed q then (s.setQErr q 2, .inuse)
  else
    let s1 := s.setFld (A.qCtl q) 0 1 0
    if s.qState q = 3 then (s1.setQState q 0, .done)
    else if s.qState q = 1 then (s1.setQState q 2, .done)
    else (s1, .done)

/-- A write of `Q_CTL`. -/
def State.qCtlWrite (s : State) (fn q : Nat) (v : Word) : State × QRes :=
  let off := s.qState q == 0
  let s1 := if off then s.setFld (A.qCtl q) 1 3 (fget v 1 3) else s
  let s2 := if off && fget v 4 1 == 1 then s1.seqClear q else s1
  if fget v 0 1 = 1 then
    if s2.qEn q then (s2, if off then .done else .notDisabled)
    else if s2.enableOk fn q then (s2.qEnable q, .done)
    else (s2.setQErr q 1, .cfg)
  else if s2.qEn q || s2.qState q == 3 then s2.qDisable q
  else (s2, .done)

/-- A write of a descriptor register by function `fn` (R434-R437); while its function's interface reset runs it has no
effect (R453). An entry written is free of the error of 17 R528. -/
def State.qWrite (s : State) (fn q off : Nat) (v : Word) : State × QRes :=
  if fn < 2 ∧ s.qFn q ≠ fn then (s.setQErr q 5, .bind)
  else if s.qFn q < 2 && s.ifrstBusy (s.qFn q) then (s, .done)
  else
    let s0 := { s with cfgUe := s.cfgUe.filter (fun e => e != (7, q)) }
    if off = A.qCtl q then s0.qCtlWrite fn q v
    else if s0.qState q = 0 then (s0.plainWrite off v, .done)
    else (s0, .notDisabled)

/-! ## Signalling (R446, R447) -/

/-- An MSI-X message: sent, or pending while its vector is masked (R447). -/
def State.msix (s : State) (f v : Nat) : State :=
  if s.bit (if f = 0 then A.msixCtl0 v else A.msixCtl1 v) 0 then
    s.setFld (if f = 0 then A.msixPba0 (v / 32) else A.msixPba1 (v / 32)) (v % 32) 1 1
  else s.emit (.msix f v)

/-- A write of a vector's control word (R447): unmasking sends a pending message. -/
def State.msixCtlWrite (s : State) (f v : Nat) (x : Word) : State :=
  let s1 := s.setFld (if f = 0 then A.msixCtl0 v else A.msixCtl1 v) 0 1 (fget x 0 1)
  let pba := if f = 0 then A.msixPba0 (v / 32) else A.msixPba1 (v / 32)
  if fget x 0 1 = 0 ∧ s1.bit pba (v % 32) then (s1.setFld pba (v % 32) 1 0).emit (.msix f v) else s1

/-- Entries were written to a queue: counted for its signal. -/
def State.qWrote (s : State) (q n : Nat) : State :=
  let x := s.qst q
  s.setQst q { x with unsig := x.unsig + n, sigT0 := if x.unsig = 0 then s.timer else x.sigT0 }

/-- The queue is non-empty, as R446 means it: unread entries, or, for a stream queue, entries written back. -/
def State.qNonEmpty (s : State) (q : Nat) : Bool := if s.qType q = 3 then (s.qst q).unsig != 0 else s.qUsed q != 0

/-- The queue's signal is due (R446). -/
def State.sigDue (s : State) (q : Nat) : Bool :=
  let x := s.qst q
  let n := s.fld (A.qMod q) 16 16
  s.qState q == 1 && s.qType q != 0 && s.qIen q && s.bit (A.qStat q) 3 && s.qNonEmpty q && s.qFn q < 2 && s.fnReady (s.qFn q) &&
  (s.qType q == 2 || n ≤ 1 || n ≤ x.unsig || x.sigT0 + s.fld (A.qMod q) 0 16 ≤ s.timer)

/-- The message of a queue; ARMED clears. -/
def State.signal (s : State) (q : Nat) : State :=
  ((s.setFld (A.qStat q) 3 1 0).setQst q { s.qst q with unsig := 0 }).msix (s.qFn q) (s.fld (A.qIrq q) 0 11)

/-- QUEUE_SIGNAL (R446). -/
def queueSignal (q : QueueId) (s : State) : State := if s.sigDue q.val then s.signal q.val else s

/-! ## Doorbells (R439-R442) -/

/-- A doorbell is refused (R441). -/
def State.dbRefused (s : State) (q f : Nat) : State :=
  let s1 := (s.count (hostDberr f) 0 32).raise 129 q f
  if s.qState q = 1 then s1.setQErr q 3 else s1

/-- A doorbell's write (R440, R441). -/
def State.ring (s : State) (q f i : Nat) : State :=
  if s.ifrstBusy f then s
  else if s.qState q ≠ 1 ∨ s.qFn q ≠ f ∨ s.qLen q ≤ i then s.dbRefused q f
  else if s.qType q = 1 ∨ s.qType q = 2 then
    if s.qUsed q < (i + s.qLen q - s.qHd q) % s.qLen q then s.dbRefused q f
    else
      let s1 := (s.setFld (A.qHead q) 0 16 i).setFld (A.qStat q) 3 1 1
      s1.setQst q { s1.qst q with unsig := s1.qUsed q, sigT0 := s1.timer }
  else s.setFld (A.qTail q) 0 16 i

/-- DOORBELL (R439): an access to BAR4 of function f; a read returns 0. -/
def doorbell (q : QueueId) (f : FnId) (a : DbAcc) (s : State) : State :=
  match a with
  | .wr v => s.ring q.val f.val v.toNat
  | .rd => s.emit (.readData (if f.val = 0 then 140 else 143) 0)

/-! ## Completions (R443, R444, R449) -/

/-- A producer's entry is written: TAIL advances, P changes as it wraps (R444). -/
def State.qAdvance (s : State) (q : Nat) : State :=
  let t := s.qTl q + 1
  if t < s.qLen q then s.setFld (A.qTail q) 0 16 t
  else (s.setFld (A.qTail q) 0 16 0).setFld (A.qTail q) 16 1 (1 - s.fld (A.qTail q) 16 1)

/-- The CQ of a completion's origin. -/
def State.cqOf (s : State) (o : Origin) : Option Nat := match o with | .sq q => some (s.qLnk q.val) | _ => none

/-- Completions bound for a CQ that is full begin to be held, each counted once (R449). -/
def State.holdDone (s : State) : State :=
  let mark := fun (d : Done) =>
    match s.cqOf d.origin with
    | some c => !d.held && s.qState c == 1 && s.qFull c
    | none => false
  let s1 := (s.cmds.done.filter mark).foldl (init := s) fun s d =>
    match s.cqOf d.origin with
    | some c => s.count (A.qFullcnt c) 0 32
    | none => s
  { s1 with cmds := { s1.cmds with done := s1.cmds.done.map (fun d => if mark d then { d with held := true } else d) } }

/-- A completion can be dealt with now: written, sent, or discarded because its CQ is not in RUN (R437, R438). -/
def State.doneReady (s : State) (d : Done) : Bool :=
  match d.origin with
  | .sq q => let c := s.qLnk q.val
             s.qState c != 1 || (!s.qFull c && s.fnReady (s.qFn c))
  | _ => true

/-- The first element that satisfies p, and the list without it. -/
def takeFirst {α : Type} (p : α → Bool) : List α → Option (α × List α)
  | [] => none
  | x :: xs => if p x then some (x, xs) else (takeFirst p xs).map (fun r => (r.1, x :: r.2))

/-- Bytes 0 to 23 of a completion as they lie in a CPL frame (R460). -/
def Completion.bits (c : Completion) : BitVec 256 :=
  BitVec.ofNat 256 (c.opcode.toNat + c.status.toNat * 2 ^ 16 + c.cflags.toNat * 2 ^ 24 + c.seq.toNat * 2 ^ 32 +
    c.unit.toNat * 2 ^ 64 + c.detail.toNat * 2 ^ 80 + c.aux.toNat * 2 ^ 96 + c.result.toNat * 2 ^ 128)

def Completion.ofBits (b : BitVec 256) : Completion :=
  ⟨b.setWidth 16, (b >>> 16).setWidth 8, (b >>> 24).setWidth 8, (b >>> 32).setWidth 32, (b >>> 64).setWidth 16,
    (b >>> 80).setWidth 16, (b >>> 96).setWidth 32, (b >>> 128).setWidth 64⟩

/-- A completion leaves: to its CQ, to the serial port, or as a CPL frame (R443, 12 R398). -/
def State.sendDone (s : State) (d : Done) : State :=
  match d.origin with
  | .sq q =>
    let c := s.qLnk q.val
    if s.qState c ≠ 1 then s
    else ((s.emit (.cqEntry c (s.qTl c) d.c q.val (s.qHd q.val) (s.bit (A.qTail c) 16))).qAdvance c).qWrote c 1
  | .serial => s.emit (.serial (serialFrame 2 (bytesOf d.c.bits.toNat 24)))
  | .chain i queue tag _ => s.sendOwn 1 i (.cpl queue tag d.c.bits)

/-! ## Stream entries (R445) -/

/-- A frame of queue q waits to be sent. -/
def hostOf (q : Nat) : TxItem → Bool
  | .host x _ _ => x == q
  | _ => false

def State.frameWaits (s : State) (q : Nat) : Bool := s.net.ports.any (fun p => p.2.txq.any (fun c => c.2.any (hostOf q)))

/-- Frames of the queues that `p` names are discarded unsent. -/
def State.dropFrames (s : State) (p : Nat → Bool) : State :=
  let gone : TxItem → Bool := fun x => match x with | .host q _ _ => p q | _ => false
  s |> upTo 8 fun s e => s.modEth e fun y =>
    { y with txq := (y.txq.map (fun x => (x.1, x.2.filter (fun f => !gone f)))).filter (fun x => x.2 != []) }

/-- A write-back is written; one of a queue that is neither in RUN nor DRAINING is not (R438, R453). -/
def State.writeBack (s : State) (q : Nat) (w : StreamWb) : State :=
  if s.qState q = 1 ∨ s.qState q = 2 then (s.emit (.streamWb q w)).qWrote q 1 else s

/-- The unit has done with a stream entry: its write-back is written, or held while the function writes no host memory (R426,
R454). -/
def State.streamBack (s : State) (q : Nat) (w : StreamWb) : State :=
  if s.qFn q < 2 ∧ s.fnReady (s.qFn q) then s.writeBack q w else s.setQst q { s.qst q with wbs := (s.qst q).wbs ++ [w] }

/-- What a queue holds is written. -/
def State.flushBacks (s : State) (q : Nat) : State :=
  if s.qFn q < 2 ∧ s.fnReady (s.qFn q) then
    (s.qst q).wbs.foldl (fun s w => s.writeBack q w) (s.setQst q { s.qst q with wbs := [] })
  else s

/-! ## Interface reset (R453, R454, R456) -/

/-- A queue's function: the queues of function f among those listed. -/
def State.queuesOf (s : State) (f : Nat) : List Nat := s.qListed.filter (fun q => s.qFn q == f)

/-- The command or completion came from an SQ of function f. -/
def State.fromFn (s : State) (f : Nat) (o : Origin) : Bool :=
  match o with | .sq q => s.qFn q.val == f | _ => false

/-- The effects of an interface reset of function f (R453): of its commands only those to its pair stay in progress, and the wait
for the CPL of a forwarded one ends (17 R539). -/
def State.ifrst (s : State) (f : Nat) : State :=
  let s1 := (s.queuesOf f).foldl (init := s.dropFrames (fun q => s.qFn q == f)) fun s q =>
    ((((s.setFld (A.qCtl q) 0 1 0).setReg (A.qStat q) 0).setReg (A.qHead q) 0).setReg (A.qTail q) 0x10000).setQst q
      { s.qst q with unsig := 0, sigT0 := 0, wbs := [] }
  { s1.setFld (hostIfrst f) 8 1 1 with cmds := { s1.cmds with
      inprog := s1.cmds.inprog.filter (fun x => !s.fromFn f x.origin || x.stage == .pair),
      done := s1.cmds.done.filter (fun x => !s.fromFn f x.origin) } }

/-- A write of HOST_IFRST (R453): KEY, bits [7:0], 0xA5 and then 0x5A; reserved bits have no effect (00 R13). -/
def State.ifrstWrite (s : State) (f : Nat) (v : Word) : State :=
  if s.ifrstBusy f then s
  else if fget v 0 8 = 0xA5 then s.setFn f { s.fn f with key := true }
  else
    let s1 := s.setFn f { s.fn f with key := false }
    if fget v 0 8 = 0x5A ∧ (s.fn f).key then s1.ifrst f else s1

/-- The MSI-X table and pending bits of a function at their reset values. -/
def State.msixClear (s : State) (f : Nat) : State :=
  let on := fun (o : Nat) => if f = 0 then 0x90000 ≤ o && o < 0x98100 else 0x100008000 ≤ o && o < 0x100009020
  { s with regs := s.regs.filter (fun e => !on e.1) }

/-- A Function Level Reset (R453): an interface reset; the MSI-X table, `HOST_FMAP` and configuration space are reset. -/
def State.flr (s : State) (f : Nat) : State :=
  let s1 := ((s.ifrst f).msixClear f).setFn f { Fn.init with aer := (s.fn f).aer }
  if f = 0 then s1.setReg A.hostFmap 0 else s1

/-- IFRST_DONE (R453): BUSY ends; source 130 or 131. `bme`: Bus Master Enable as the host's configuration writes, which are
no commands of this model, leave it (log entry 3). -/
def ifrstDone (f : FnId) (bme : Bool) (s : State) : State :=
  if s.ifrstBusy f.val then
    ((s.setFld (hostIfrst f.val) 8 1 0).setFn f.val { s.fn f.val with bme := bme }).raise (130 + f.val) 0xFFFF f.val
  else s

/-- LINK_STATE (R432, R457): the link goes down or up, or changes rate, width or mode. -/
def State.setLink (s : State) (rate width : Nat) (flit : Bool) : State :=
  let v := rate + width * 8
  let was := s.fld A.hostStat0 0 8
  let s1 := [0, 1].foldl (init := s) fun s f =>
    (s.setFld (hostStat f) 0 8 v).setFld (hostStat f) 8 1 (b2n flit)
  if was = v then s1 else s1.raise 132 0xFFFF (rate * 4 + width * 2 ^ 5)

/-- A link that the port can train to (R424): one of seven rates, Flit mode always at 64 and 128 GT/s, and 1 to 16 lanes; or none. -/
def linkOk (rate width : Nat) (flit : Bool) : Bool :=
  rate == 0 || ([1, 2, 4, 8, 16].contains width && (flit || rate < 6))

def linkState (rate : BitVec 3) (width : BitVec 5) (flit bme0 bme1 : Bool) (s : State) : State :=
  if s.sys.perst || !linkOk rate.toNat width.toNat flit then s
  else
    let s1 := if rate = 0 then s.setLink 0 0 false else s.setLink rate.toNat width.toNat flit
    let s2 := (s1.setFn 0 { s1.fn 0 with bme := bme0 }).setFn 1 { s1.fn 1 with bme := bme1 }
    s2.qListed.foldl (fun s q => s.flushBacks q) s2

/-- PERST_N_ASSERT (R456): an interface reset of both functions and a reset of the PCIe port. -/
def perstNAssert (s : State) : State :=
  let s1 := (((s.flr 0).flr 1).setLink 0 0 false)
  { s1 with sys := { s1.sys with perst := true } }

/-- PERST_N_RELEASE (18 R544): the port may train. -/
def perstNRelease (s : State) : State := { s with sys := { s.sys with perst := false } }

/-! ## Event records (R444, 15 R503) and PME (R454) -/

/-- A waiting record of source n can be written (15 R503). -/
def State.recReady (s : State) (n : Nat) : Bool :=
  let q := s.fld (A.evtEq n) 0 16
  (s.src n).hrec.isSome && s.qType q == 2 && s.qState q == 1 && !s.qFull q && s.qFn q < 2 && s.fnReady (s.qFn q) &&
  !s.gdis (96 + s.qFn q) && !s.hHold (n / 16)

/-- The lowest ready record is written, with the queue's phase (R444, 15 R501, R503). -/
def State.writeRecord (s : State) : State :=
  match s.evt.src.find? (fun e => s.recReady e.1) with
  | some (n, x) =>
    match x.hrec with
    | some f =>
      let q := s.fld (A.evtEq n) 0 16
      let r := s.eventRecord n f ||| BitVec.ofNat 128 (b2n (s.bit (A.qTail q) 16) * 2 ^ 127)
      let s1 := (((s.emit (.eqEntry q (s.qTl q) r)).qAdvance q).qWrote q 1).setSrc n { x with hrec := none }
      let d := s.fld (A.evtGhold (n / 16)) 16 16
      if d = 0 then s1 else { s1 with evt := { s1.evt with hhold := tset 0 s1.evt.hhold (n / 16) (s1.timer + d) } }
    | none => s
  | none => s

/-- A record waits for an EQ of function f. -/
def State.recFor (s : State) (f : Nat) : Bool :=
  s.evt.src.any (fun e => e.2.hrec.isSome && s.qType (s.fld (A.evtEq e.1) 0 16) == 2 && s.qFn (s.fld (A.evtEq e.1) 0 16) == f)

/-- In D3hot a held record sends a PME message, once until the host clears the status (R454). -/
def State.pmeCheck (s : State) (f : Nat) : State :=
  let x := s.fn f
  if x.d3 && x.pmeEn && !x.pmeStatus && s.recFor f then (s.setFn f { x with pmeStatus := true, pmeAt := s.timer }).emit (.pme f) else s

def d3hotEntry (f : FnId) (pmeEn : Bool) (s : State) : State :=
  (s.setFn f.val { s.fn f.val with d3 := true, pmeEn := pmeEn, pmeStatus := false }).pmeCheck f.val

/-- A PME message goes out again 100 ms after the last, while PME_Status stays 1 (R454). -/
def State.pmeAgain (s : State) (f : Nat) : State :=
  let x := s.fn f
  if x.d3 && x.pmeStatus && x.pmeAt + 100000 ≤ s.timer then (s.setFn f { x with pmeAt := s.timer }).emit (.pme f) else s

/-- PME_RESEND (R454). -/
def pmeResend (f : FnId) (s : State) : State := s.pmeAgain f.val

/-- One completion is dealt with: the oldest that can be. Its origin and sequence number, for a reset that waits for it
(14 R468). -/
def State.writeDone (s : State) : State × Option (Origin × Word) :=
  match takeFirst (fun d => s.doneReady d) s.cmds.done with
  | some (d, rest) =>
    ((({ s with cmds := { s.cmds with done := rest } }).sendDone d).holdDone, some (d.origin, d.c.seq))
  | none => (s, none)

/-- A reset waits for a completion (14 R468). -/
def State.resetWaits (s : State) (d : Done) : Bool := s.cmds.resets.any (fun r => r.1 == d.origin && r.2.1 == d.c.seq)

/-- D0_RETURN (R454): every held entry is written, and every non-empty CQ, EQ and stream queue with IEN is signalled. A completion
that a reset waits for, and those after it, are left to COMPLETION_WRITE (log entry 143). -/
def d0Return (f : FnId) (s : State) : State :=
  let s1 := s.setFn f.val { s.fn f.val with d3 := false, pmeStatus := false }
  let s2 := s1 |> upTo s1.cmds.done.length fun s _ =>
    match takeFirst (fun d => s.doneReady d && s.fromFn f.val d.origin) s.cmds.done with
    | some (d, rest) => if s.resetWaits d then s else (({ s with cmds := { s.cmds with done := rest } }).sendDone d).holdDone
    | none => s
  let s2 := (s2.queuesOf f.val).foldl (fun s q => s.flushBacks q) s2
  let s3 := s2 |> upTo (s2.evt.src.filter (fun e => e.2.hrec.isSome)).length fun s _ => s.writeRecord
  (s3.queuesOf f.val).foldl (init := s3) fun s q =>
    if s.qState q = 1 ∧ s.qType q ≠ 0 ∧ s.qIen q ∧ s.qNonEmpty q ∧ s.fnReady f.val then s.signal q else s

/-! ## Draining and errors (R437, R438) -/

/-- QUEUE_DRAINED (R437): nothing fetched from it is left. -/
def queueDrained (q : QueueId) (s : State) : State :=
  let mine := fun (o : Origin) => match o with | .sq x => x == q | _ => false
  if s.qState q.val = 2 ∧ !s.cmds.inprog.any (fun x => mine x.origin) ∧ !s.cmds.done.any (fun x => mine x.origin) ∧
      !s.frameWaits q.val ∧ (s.qst q.val).wbs = [] then
    s.setQState q.val 0
  else s

/-- QUEUE_ERROR (R438): a host memory access of a queue in RUN or DRAINING fails, and its function logs the error through AER. -/
def queueError (q : QueueId) (e : HostErr) (s : State) : State :=
  if s.qState q.val = 1 ∨ s.qState q.val = 2 then
    let f := s.qFn q.val
    let s1 := s.setFn f { s.fn f with aer := (s.fn f).aer ++ [(q.val, e)] }
    ((s1.setQState q.val 3).setQErr q.val 4).raise 128 q.val f
  else s

/-- QUEUE_ENABLE_WRITE and QUEUE_DISABLE_WRITE (R436, R437): writes of Q_CTL by a function. -/
def queueEnableWrite (q : QueueId) (f : FnId) (v : Word) (s : State) : State := (s.qWrite f.val q.val (A.qCtl q.val) (v ||| 1)).1
def queueDisableWrite (q : QueueId) (f : FnId) (v : Word) (s : State) : State :=
  (s.qWrite f.val q.val (A.qCtl q.val) (v &&& 0xFFFFFFFE)).1
/-- SEQCLR (R435). -/
def seqclr (q : QueueId) (f : FnId) (s : State) : State :=
  (s.qWrite f.val q.val (A.qCtl q.val) ((s.rawReg (A.qCtl q.val) &&& 0xF) ||| 0x10)).1

/-! ## The commands -/

/-- QUEUE_SIGNAL (13 R446). -/
def execQueueSignal (q : QueueId) (s : State) : Host.Outcome State Fault Refusal := finish s (queueSignal q s)
/-- DOORBELL (13 R440). -/
def execDoorbell (q : QueueId) (f : FnId) (a : DbAcc) (s : State) : Host.Outcome State Fault Refusal :=
  finish s (doorbell q f a s)
/-- QUEUE_ENABLE_WRITE (13 R436). -/
def execQueueEnableWrite (q : QueueId) (f : FnId) (v : Word) (s : State) : Host.Outcome State Fault Refusal :=
  finish s (queueEnableWrite q f v s)
/-- QUEUE_DISABLE_WRITE (13 R437). -/
def execQueueDisableWrite (q : QueueId) (f : FnId) (v : Word) (s : State) : Host.Outcome State Fault Refusal :=
  finish s (queueDisableWrite q f v s)
/-- SEQCLR (13 R435). -/
def execSeqclr (q : QueueId) (f : FnId) (s : State) : Host.Outcome State Fault Refusal := finish s (seqclr q f s)
/-- QUEUE_DRAINED (13 R437). -/
def execQueueDrained (q : QueueId) (s : State) : Host.Outcome State Fault Refusal := finish s (queueDrained q s)
/-- QUEUE_ERROR (13 R438). -/
def execQueueError (q : QueueId) (e : HostErr) (s : State) : Host.Outcome State Fault Refusal := finish s (queueError q e s)
/-- HOST_IFRST_WRITE (13 R453). -/
def execHostIfrstWrite (f : FnId) (v : Word) (s : State) : Host.Outcome State Fault Refusal := finish s (s.ifrstWrite f.val v)
/-- FUNCTION_LEVEL_RESET (13 R453). -/
def execFunctionLevelReset (f : FnId) (s : State) : Host.Outcome State Fault Refusal := finish s (s.flr f.val)
/-- IFRST_DONE (13 R453). -/
def execIfrstDone (f : FnId) (bme : Bool) (s : State) : Host.Outcome State Fault Refusal := finish s (ifrstDone f bme s)
/-- PERST_N_ASSERT (13 R456). -/
def execPerstNAssert (s : State) : Host.Outcome State Fault Refusal := finish s (perstNAssert s)
/-- PERST_N_RELEASE (18 R544). -/
def execPerstNRelease (s : State) : Host.Outcome State Fault Refusal := finish s (perstNRelease s)
/-- D3HOT_ENTRY (13 R454). -/
def execD3hotEntry (f : FnId) (pmeEn : Bool) (s : State) : Host.Outcome State Fault Refusal := finish s (d3hotEntry f pmeEn s)
/-- D0_RETURN (13 R454). -/
def execD0Return (f : FnId) (s : State) : Host.Outcome State Fault Refusal := finish s (d0Return f s)
/-- PME_RESEND (13 R454). -/
def execPmeResend (f : FnId) (s : State) : Host.Outcome State Fault Refusal := finish s (pmeResend f s)
/-- LINK_STATE (13 R457). -/
def execLinkState (rate : BitVec 3) (width : BitVec 5) (flit bme0 bme1 : Bool) (s : State) :
    Host.Outcome State Fault Refusal := finish s (linkState rate width flit bme0 bme1 s)
/-- EVENT_RECORD_WRITE (15 R503). -/
def execEventRecordWrite (s : State) : Host.Outcome State Fault Refusal := finish s s.writeRecord

end Sys2Proof.Machine
end

