-- ==== Sys2Proof/Machine/Flags.lean ====
section
/-! DEFINITION. The flags of a grain core: FLG's fields (06 R196), conditions (R199-R201), and the flag computations of
the scalar operations (07 R237-R241). -/

namespace Sys2Proof.Machine

/-! ## Fields of FLG as masks -/

def fZ : Nat := 0x1
def fN : Nat := 0x2
def fC : Nat := 0x4
def fV : Nat := 0x8
def fS : Nat := 0x10
def fDZ : Nat := 0x20
def fIV : Nat := 0x100
def fOF : Nat := 0x200
def fUF : Nat := 0x400
def fIX : Nat := 0x800
/-- Every field of FLG: flags, sticky flags and RM. -/
def flgAll : Nat := 0x30F3F

/-- A write of FLG: the bits it names and their values. -/
abbrev FlgW := Nat × Nat

def flgNone : FlgW := (0, 0)

/-- Sets sticky bits. -/
def sticky (m : Nat) : FlgW := (m, m)

/-- Two flag writes of one operation on different fields. -/
def flgJoin (a b : FlgW) : FlgW := (a.1 ||| b.1, a.2 ||| b.2)

/-- Z and N of a result. -/
def zn (r : Word) : FlgW := (fZ ||| fN, (if r = 0 then fZ else 0) ||| (if r.msb then fN else 0))

/-- C and V. -/
def cv (c v : Bool) : FlgW := (fC ||| fV, (if c then fC else 0) ||| (if v then fV else 0))

/-- The sum a + b + cin with Z, N, C and V (R237, R241). -/
def addFlags (a b : Word) (cin : Bool) : Word × FlgW :=
  let x := a.toNat + b.toNat + b2n cin
  let r : Word := BitVec.ofNat 32 x
  let v := a.toInt + b.toInt + (b2n cin : Nat) != r.toInt
  (r, flgJoin (zn r) (cv (2 ^ 32 ≤ x) v))

/-- The difference a - b - (1 - cin); C is 1 when no borrow occurs (R196, R237). -/
def subFlags (a b : Word) (cin : Bool) : Word × FlgW :=
  let x := a.toInt - b.toInt - (1 - (b2n cin : Nat) : Int)
  let r : Word := BitVec.ofInt 32 x
  (r, flgJoin (zn r) (cv (b.toNat + (1 - b2n cin) ≤ a.toNat) (x != r.toInt)))

/-- An exact result held to signed 32 bits; Z and N of what is returned, S on saturation (R237). -/
def satZN (x : Int) : Word × FlgW :=
  let r : Word := BitVec.ofInt 32 (satI x 32)
  (r, if satI x 32 = x then zn r else flgJoin (zn r) (sticky fS))

/-! ## Conditions (06 R199-R201) -/

/-- The flag-mode condition COND over a value of FLG (R199); COND 0xF is reserved. -/
def flagCond (cond flg : Nat) : Bool :=
  let z := bitAt flg 0
  let n := bitAt flg 1
  let c := bitAt flg 2
  let v := bitAt flg 3
  match cond with
  | 0x0 => true
  | 0x1 => z
  | 0x2 => !z
  | 0x3 => c
  | 0x4 => !c
  | 0x5 => n
  | 0x6 => !n
  | 0x7 => v
  | 0x8 => !v
  | 0x9 => c && !z
  | 0xA => !c || z
  | 0xB => n == v
  | 0xC => n != v
  | 0xD => !z && n == v
  | 0xE => z || n != v
  | _ => false

/-- The predicate-mode condition: bit 0 of predicate COND[2:0], in the sense of COND[3] (R200). -/
def predCond (cond : Nat) (p : DWord) : Bool := (p.getLsbD 0) != bitAt cond 3

/-- COND encodings that raise ILLEGAL: 0xF in flag mode, 0x8 in predicate mode (R199, R200). -/
def condIllegal (predMode : Bool) (cond : Nat) : Bool := if predMode then cond == 0x8 else cond == 0xF

end Sys2Proof.Machine
end

