-- ==== Sys2Proof/Machine/Fp32.lean ====
section
/-! DEFINITION. IEEE 754 binary32 arithmetic with the decisions of 08 R287: exact results rounded once. -/

namespace Sys2Proof.Machine

/-- A binary32 value read: a NaN (signalling or quiet), an infinity, or (-1)^neg * m * 2^e. -/
inductive FpVal where
  | nan (signalling : Bool)
  | inf (neg : Bool)
  | fin (neg : Bool) (m : Nat) (e : Int)
  deriving DecidableEq, Repr

/-- Every NaN result (R287). -/
def fpNan : Word := 0x7FC00000

/-- The word read as a value; with `ftz` a subnormal is zero of the same sign (R287). -/
def fpRead (ftz : Bool) (w : Word) : FpVal :=
  let neg := w.msb
  let e := bitsAt w.toNat 23 8
  let f := bitsAt w.toNat 0 23
  if e = 255 then (if f = 0 then .inf neg else .nan (f < 2 ^ 22))
  else if e = 0 then (if ftz then .fin neg 0 (-149) else .fin neg f (-149))
  else .fin neg (2 ^ 23 + f) ((e : Int) - 150)

/-- A zero, an infinity, the largest finite value, with a sign. -/
def fpZero (neg : Bool) : Word := if neg then 0x80000000 else 0
def fpInf (neg : Bool) : Word := if neg then 0xFF800000 else 0x7F800000
def fpMax (neg : Bool) : Word := if neg then 0xFF7FFFFF else 0x7F7FFFFF

/-- Whether a magnitude with quotient q, remainder r of d, is rounded up under RM (06 R196): 0 nearest even, 1 towards
zero, 2 towards -inf, 3 towards +inf. -/
def roundUp (rm : Nat) (neg : Bool) (q r d : Nat) : Bool :=
  match rm with
  | 0 => d < 2 * r || (2 * r == d && q % 2 == 1)
  | 1 => false
  | 2 => neg && r != 0
  | _ => !neg && r != 0

/-- num / den * 2^sh as a quotient, a remainder and its divisor. -/
def scaled (num den : Nat) (sh : Int) : Nat × Nat × Nat :=
  match sh with
  | .ofNat k => (num * 2 ^ k / den, num * 2 ^ k % den, den)
  | .negSucc k => (num / (den * 2 ^ (k + 1)), num % (den * 2 ^ (k + 1)), den * 2 ^ (k + 1))

/-- The exponent k with 2^k ≤ num / den * 2^e < 2^(k+1), for num > 0. -/
def expOf (num den : Nat) (e : Int) : Int :=
  let k : Int := (num.log2 : Int) - (den.log2 : Int)
  -- num / den lies in (2^(k-1), 2^(k+1))
  (if (scaled num den (-k)).1 = 0 then k - 1 else k) + e

/-- A nonzero magnitude num / den * 2^e rounded once to binary32 (R287): the word and the sticky flags. Tininess is
detected after rounding; with `ftz` a subnormal result is zero of the same sign with FUF and FIX. -/
def fpRound (rm : Nat) (ftz neg : Bool) (num den : Nat) (e : Int) : Word × Nat :=
  if num = 0 then (fpZero neg, 0)
  else
    let k := expOf num den e
    -- rounded as though the exponent had no lower bound: tiny when still below 2^-126
    let u := scaled num den (e - (k - 23))
    let un := u.1 + b2n (roundUp rm neg u.1 u.2.1 u.2.2)
    let tiny := k < -127 || (k == -127 && un < 2 ^ 24)
    let qe : Int := if k - 23 < -149 then -149 else k - 23
    let x := scaled num den (e - qe)
    let n := x.1 + b2n (roundUp rm neg x.1 x.2.1 x.2.2)
    let inexact := x.2.1 != 0
    let sign : Nat := if neg then 2 ^ 31 else 0
    if (2 ^ 24 ≤ n && 104 ≤ qe) || (2 ^ 23 ≤ n && 104 < qe) then
      -- overflow (R287): infinity or the largest finite value, as RM gives
      ((match rm with
        | 0 => fpInf neg
        | 1 => fpMax neg
        | 2 => if neg then fpInf neg else fpMax neg
        | _ => if neg then fpMax neg else fpInf neg), fOF ||| fIX)
    else if n < 2 ^ 23 then
      -- a subnormal result, or zero; qe = -149
      if ftz then (fpZero neg, fUF ||| fIX)
      else (BitVec.ofNat 32 (sign + n), (if inexact then fIX else 0) ||| (if tiny && inexact then fUF else 0))
    else
      -- n in [2^23, 2^24]: the biased exponent is qe + 150, and n = 2^24 carries into it
      let w := BitVec.ofNat 32 (sign + ((qe + 149).toNat * 2 ^ 23 + n))
      (w, (if inexact then fIX else 0) ||| (if tiny && inexact then fUF else 0))

/-- The sign of an exact zero sum of values with signs a and b (R287): theirs when equal, else + but - when rounding
towards -inf. -/
def zeroSign (rm : Nat) (a b : Bool) : Bool := if a = b then a else rm == 2

/-- The signed integer (-1)^neg * m * 2^(e - lo), for lo ≤ e. -/
def fixed (neg : Bool) (m : Nat) (e lo : Int) : Int :=
  let x : Int := (m * 2 ^ (e - lo).toNat : Nat)
  if neg then -x else x

/-- The exact sum of two finite values, rounded once. -/
def fpSum (rm : Nat) (ftz : Bool) (n1 : Bool) (m1 : Nat) (e1 : Int) (n2 : Bool) (m2 : Nat) (e2 : Int) : Word × Nat :=
  let lo : Int := if e1 ≤ e2 then e1 else e2
  let x := fixed n1 m1 e1 lo + fixed n2 m2 e2 lo
  if x = 0 then (fpZero (zeroSign rm n1 n2), 0)
  else fpRound rm ftz (x < 0) x.natAbs 1 lo

/-- A signalling operand sets FIV (R287). -/
def isSnan : FpVal → Bool
  | .nan s => s
  | _ => false
def isNan : FpVal → Bool
  | .nan _ => true
  | _ => false
def ivIf (b : Bool) : Nat := if b then fIV else 0

/-- a + b. -/
def fpAddV (rm : Nat) (ftz : Bool) (a b : FpVal) : Word × Nat :=
  match a, b with
  | .nan s, y => (fpNan, ivIf (s || isSnan y))
  | x, .nan s => (fpNan, ivIf (s || isSnan x))
  | .inf n, .inf m => if n = m then (fpInf n, 0) else (fpNan, fIV)
  | .inf n, _ => (fpInf n, 0)
  | _, .inf n => (fpInf n, 0)
  | .fin n1 m1 e1, .fin n2 m2 e2 => fpSum rm ftz n1 m1 e1 n2 m2 e2

/-- The negative of a value. -/
def fpNegV : FpVal → FpVal
  | .nan s => .nan s
  | .inf n => .inf (!n)
  | .fin n m e => .fin (!n) m e

/-- a * b. -/
def fpMulV (rm : Nat) (ftz : Bool) (a b : FpVal) : Word × Nat :=
  match a, b with
  | .nan s, y => (fpNan, ivIf (s || isSnan y))
  | x, .nan s => (fpNan, ivIf (s || isSnan x))
  | .inf n, .inf m => (fpInf (n != m), 0)
  | .inf n, .fin m x _ => if x = 0 then (fpNan, fIV) else (fpInf (n != m), 0)
  | .fin m x _, .inf n => if x = 0 then (fpNan, fIV) else (fpInf (n != m), 0)
  | .fin n1 m1 e1, .fin n2 m2 e2 => fpRound rm ftz (n1 != n2) (m1 * m2) 1 (e1 + e2)

/-- c + a * b, rounded once. Infinity times zero is invalid whatever c is (log entry 11). -/
def fpFmaV (rm : Nat) (ftz : Bool) (c a b : FpVal) : Word × Nat :=
  let bad := match a, b with
    | .inf _, .fin _ m _ => m == 0
    | .fin _ m _, .inf _ => m == 0
    | _, _ => false
  let snan := isSnan a || isSnan b || isSnan c
  if bad then (fpNan, fIV)
  else if isNan a || isNan b || isNan c then (fpNan, ivIf snan)
  else match a, b with
    | .fin n1 m1 e1, .fin n2 m2 e2 =>
      match c with
      | .inf n => (fpInf n, 0)
      | .fin n m e => fpSum rm ftz (n1 != n2) (m1 * m2) (e1 + e2) n m e
      | .nan _ => (fpNan, 0)
    | x, y =>
      let n := (match x with | .inf n => n | .fin n _ _ => n | .nan _ => false) !=
        (match y with | .inf n => n | .fin n _ _ => n | .nan _ => false)
      match c with
      | .inf m => if n = m then (fpInf n, 0) else (fpNan, fIV)
      | _ => (fpInf n, 0)

/-- The order of two values that are not NaN: a < b, a = b (+0 equals -0). -/
def fpLess (a b : FpVal) : Bool :=
  match a, b with
  | .inf n, .inf m => n && !m
  | .inf n, .fin _ _ _ => n
  | .fin _ _ _, .inf m => !m
  | .fin n1 m1 e1, .fin n2 m2 e2 =>
    let lo : Int := if e1 ≤ e2 then e1 else e2
    fixed n1 m1 e1 lo < fixed n2 m2 e2 lo
  | _, _ => false
def fpEqual (a b : FpVal) : Bool :=
  match a, b with
  | .inf n, .inf m => n == m
  | .fin n1 m1 e1, .fin n2 m2 e2 =>
    let lo : Int := if e1 ≤ e2 then e1 else e2
    fixed n1 m1 e1 lo == fixed n2 m2 e2 lo
  | _, _ => false

/-- The environment of an operation: RM of FLG and FTZ in effect (R287). -/
structure FpEnv where
  rm : Nat
  ftz : Bool
  deriving DecidableEq, Repr

/-- The word of an operand as the operation reads it. -/
def fpClean (v : FpEnv) (w : Word) : Word :=
  match fpRead v.ftz w with
  | .fin n 0 _ => fpZero n
  | _ => w

def fpAdd (v : FpEnv) (a b : Word) : Word × Nat := fpAddV v.rm v.ftz (fpRead v.ftz a) (fpRead v.ftz b)
def fpSub (v : FpEnv) (a b : Word) : Word × Nat := fpAddV v.rm v.ftz (fpRead v.ftz a) (fpNegV (fpRead v.ftz b))
def fpMul (v : FpEnv) (a b : Word) : Word × Nat := fpMulV v.rm v.ftz (fpRead v.ftz a) (fpRead v.ftz b)
/-- c + a * b and c - a * b, rounded once (R286, R288). -/
def fpFma (v : FpEnv) (c a b : Word) : Word × Nat :=
  fpFmaV v.rm v.ftz (fpRead v.ftz c) (fpRead v.ftz a) (fpRead v.ftz b)
def fpFms (v : FpEnv) (c a b : Word) : Word × Nat :=
  fpFmaV v.rm v.ftz (fpRead v.ftz c) (fpNegV (fpRead v.ftz a)) (fpRead v.ftz b)

/-- Minimum and maximum (R287): a NaN operand yields the other; -0 is less than +0. -/
def fpMinMax (v : FpEnv) (max : Bool) (a b : Word) : Word × Nat :=
  let x := fpRead v.ftz a
  let y := fpRead v.ftz b
  let iv := ivIf (isSnan x || isSnan y)
  if isNan x && isNan y then (fpNan, iv)
  else if isNan x then (fpClean v b, iv)
  else if isNan y then (fpClean v a, iv)
  else
    let aLess := fpLess x y || (fpEqual x y && a.msb && !b.msb)
    ((if aLess != max then fpClean v a else fpClean v b), iv)

/-- The sign inverted or cleared; a NaN gives 0x7FC0_0000 (R279). -/
def fpNeg (v : FpEnv) (a : Word) : Word := if isNan (fpRead v.ftz a) then fpNan else fpClean v a ^^^ 0x80000000
def fpAbs (v : FpEnv) (a : Word) : Word := if isNan (fpRead v.ftz a) then fpNan else fpClean v a &&& 0x7FFFFFFF

/-- The compare CC of VFCMP (R281): whether it holds, and FIV. -/
def fpCmp (v : FpEnv) (cc : Nat) (a b : Word) : Bool × Nat :=
  let x := fpRead v.ftz a
  let y := fpRead v.ftz b
  let un := isNan x || isNan y
  let sn := isSnan x || isSnan y
  match cc with
  | 0 => (fpEqual x y, ivIf sn)
  | 1 => (!fpEqual x y, ivIf sn)
  | 2 => (fpLess x y, ivIf un)
  | 3 => (fpLess x y || fpEqual x y, ivIf un)
  | _ => (un, ivIf sn)

/-- FCMP: the flag write of the relation (R288). -/
def fcmpFlags (v : FpEnv) (a b : Word) : FlgW :=
  let x := fpRead v.ftz a
  let y := fpRead v.ftz b
  let m := fZ ||| fN ||| fC ||| fV
  let r : FlgW :=
    if isNan x || isNan y then (m, fC ||| fV)
    else if fpLess x y then (m, fN)
    else if fpEqual x y then (m, fZ ||| fC)
    else (m, fC)
  if isSnan x || isSnan y then flgJoin r (sticky fIV) else r

/-- An integer times 2^-sh to binary32, rounded under RM (VCVTIF: sh 0; VCVTQF: sh 31; R279). -/
def fpOfInt (v : FpEnv) (a : Word) (sh : Nat) : Word × Nat :=
  fpRound v.rm v.ftz (a.toInt < 0) a.toInt.natAbs 1 (-(sh : Int))

/-- binary32 times 2^sh to a signed 32-bit integer, rounded under RM and saturated; a NaN gives 0. The second part:
0 exact, 1 rounded, 2 saturated, 3 saturated and rounded, 4 NaN. -/
def fpToInt (v : FpEnv) (a : Word) (sh : Nat) : Word × Nat :=
  match fpRead v.ftz a with
  | .nan _ => (0, 4)
  | .inf n => (if n then 0x80000000 else 0x7FFFFFFF, 2)
  | .fin n m e =>
    let x := scaled m 1 (e + sh)
    let q := x.1 + b2n (roundUp v.rm n x.1 x.2.1 x.2.2)
    let i : Int := if n then -(q : Int) else q
    (BitVec.ofInt 32 (satI i 32), (if satI i 32 = i then 0 else 2) + b2n (x.2.1 != 0))

/-- The sticky flags of VCVTFQ (S on saturation) and VCVTFI (FIV on saturation); FIV on a NaN, FIX when rounded. -/
def cvtFlags (onSat k : Nat) : Nat :=
  if k = 4 then fIV else (if 2 ≤ k then onSat else 0) ||| (if k % 2 = 1 then fIX else 0)

end Sys2Proof.Machine
end

