-- ==== Sys2Proof/Machine/FathomEng.lean ====
section
/-! DEFINITION. Fathom engines (04 R141-R158): delay lines fed, tap groups issued, outputs written or pushed. -/

namespace Sys2Proof.Machine

def State.fth (s : State) (b : Nat) : Fathom := (s.bench b).fth
def State.modFth (s : State) (b : Nat) (f : Fathom → Fathom) : State :=
  s.setBench b { s.bench b with fth := f (s.bench b).fth }

/-- The active page, and its list settings (R153, R157): base byte address, descriptors, enable, overrun action. -/
def State.fthPage (s : State) (b : Nat) : Nat := s.fld (A.fthCtl b) 0 1
def State.fthBase (s : State) (b p : Nat) : Nat := s.fld (A.fthList b p) 4 22 * 64
def State.fthLcnt (s : State) (b p : Nat) : Nat := s.fld (A.fthRun b p) 0 18 + 1
def State.fthEn (s : State) (b p : Nat) : Bool := s.bit (A.fthRun b p) 18
def State.fthFinish (s : State) (b p : Nat) : Bool := s.bit (A.fthRun b p) 19
def State.fthFrozen (s : State) (b : Nat) : Bool := s.frozen (17 + b) (A.fthCtl b) 1

/-- Line i of a page as a 128-bit number (R142), and its fields. -/
def State.fthLineOf (s : State) (b p i : Nat) : Nat :=
  natOf ((List.range 4).flatMap (fun k => bytesOf (s.tab (A.fthLine b p (4 * i + k))).toNat 4))
def lnBase (e : Nat) : Nat := bitsAt e 0 26 * 4
def lnLen (e : Nat) : Nat := 2 ^ bitsAt e 32 5
def lnFixed (e : Nat) : Bool := bitAt e 37
def lnEn (e : Nat) : Bool := bitAt e 38
def lnFeed (e : Nat) : Nat := bitsAt e 64 26 * 4

/-- Enabled lines of the active page in rising number; one with an uncorrectable error acts as not enabled (17 R528). -/
def State.fthLines (s : State) (b p : Nat) : List Nat :=
  (List.range 256).filter (fun i => lnEn (s.fthLineOf b p i) && !s.bad 2 (b * 1024 + p * 512 + i))

/-- An engine event (R158): the descriptor or line concerned, an index of up to 18 bits, with its low 16 bits in OBJ and the
others in INFO (log entry 92). -/
def State.fthEvent (s : State) (b e obj : Nat) : State := s.raise (720 + 4 * b + e) (obj % 2 ^ 16) (obj / 2 ^ 16)

/-- The OWNER event, once per grain (R141); `obj` is the descriptor or line. -/
def State.fthOwner (s : State) (b obj : Nat) : State :=
  if (s.fth b).evOwner then s else (s.modFth b fun x => { x with evOwner := true }).fthEvent b 2 obj

/-- The engine owns the bank of an address, in its own bench (R141). -/
def State.fthOwns (s : State) (b a : Nat) : Bool :=
  inBanks a && benchOfBank (bankOf a) == b && s.owner (bankOf a) == 96 + b

/-- An access that the engine does not own (R141): OWNER where it reaches a bank, and one of 01 R31 outside the banks of its
bench. -/
def State.fthStray (s : State) (b a obj : Nat) : State :=
  let s1 := if inBanks a then s.fthOwner b obj else s
  if inBanks a && benchOfBank (bankOf a) == b then s1 else s1.addressMap (96 + b) a

/-- A read by the engine: 0 where it does not own the bank, or the bank is not ON (R141, 05 R173). DESIGN CHOICE (log entry
122): a refused feed word is fed as 0, and a refused descriptor is the all-zero SKIP, which is no LIST_ERROR. -/
def State.fthRead (s : State) (b a n obj : Nat) : State × Nat :=
  if s.fthOwns b a then
    match s.portReadFree (96 + b) a n with
    | (s2, some v) => (s2, v)
    | (s2, none) => (s2, 0)
  else (s.fthStray b a obj, 0)

/-- A write by the engine: not made where it does not own the bank. -/
def State.fthWrite (s : State) (b a : Nat) (v : Word) (obj : Nat) : State :=
  if s.fthOwns b a then (s.portWriteFree (96 + b) a (bytesOf v.toNat 4)).1 else s.fthStray b a obj

/-- The lines still to be fed take the feed word's value at position g mod LEN, in rising number (R143); the first whose
accesses wait for a borrowed stripe or a locked bank holds the others (07 R265, 09 R322). -/
def State.fthFeed (s : State) (b p g : Nat) : List Nat → State
  | [] => s.modFth b fun x => { x with toFeed := [] }
  | i :: is =>
    let e := s.fthLineOf b p i
    let to_ := lnBase e + g % lnLen e * 4
    if s.borrowed (lnFeed e) || s.borrowed to_ then s.modFth b fun x => { x with toFeed := i :: is }
    else
      let r := s.fthRead b (lnFeed e) 4 i
      (r.1.fthWrite b to_ (BitVec.ofNat 32 r.2) i).fthFeed b p g is

/-- The list of grain g starts under the page that is active then, which stays its page to its end (R143, R147, R150; DESIGN
CHOICE for a list that FINISH carries past a commit, log entry 123): the lines are fed, the running sum is +0.0. -/
def State.fthBegin (s : State) (b : Nat) (g : DWord) (late : Bool) : State :=
  let p := s.fthPage b
  let s1 := s.modFth b fun x =>
    { x with sum := 0, idx := 0, running := true, grain := g, page := Fin.ofNat 2 p, missed := late && x.laterMissed, later := none,
             laterMissed := false, evOwner := false, evClamp := false }
  ((s1.setFld (A.fthStat b) 3 1 1).setFld (A.fthStat b) 4 1 (b2n late)).fthFeed b p g.toNat (s1.fthLines b p)

/-- The list stops for this grain: nothing more issues, and the running sum is discarded (R147, R155, R156). -/
def State.fthStop (s : State) (b : Nat) : State :=
  ((s.modFth b fun x => { x with running := false, sum := 0, idx := 0, toFeed := [] }).setFld (A.fthStat b) 3 1 0).releaseLoans (96 + b)

/-- The list ends; one that waited for it starts late (R156), where its page has the list enabled. -/
def State.fthEnd (s : State) (b : Nat) : State :=
  match (s.fth b).later with
  | some g => if s.fthEn b (s.fthPage b) then (s.fthStop b).fthBegin b g true
      else (s.fthStop b).modFth b fun x => { x with later := none, laterMissed := false }
  | none => s.fthStop b

/-- A miss (R156): counted, source 18 with the overrun action of page p and descriptor i, the first not yet issued. -/
def State.fthMiss (s : State) (b p i : Nat) : State :=
  (s.count (A.fthDlcnt b) 0 32).raise 18 b (s.benchDom b + b2n (s.fthFinish b p) * 4 + i * 8)

/-- The misses that a grain start makes plain (R156): of the list still running, and of the one that waits for it. DESIGN
CHOICE (log entry 124): the list that is then skipped is such a miss, and a list that LIST_ERROR stopped is none. -/
def State.fthLate (s : State) (b : Nat) : State :=
  let x := s.fth b
  let s1 := if x.running && !x.missed then (s.fthMiss b x.page.val x.idx).modFth b fun x => { x with missed := true } else s
  if x.later.isSome && !x.laterMissed then s1.fthMiss b (s1.fthPage b) 0 else s1

/-- The engine at its bench's grain start of g (R150, R156): a list still running misses its deadline; under FINISH the
next one waits for it, and one that still runs at the grain start after that is abandoned. Banks on loan go back in a grain
in which no list runs (05 R182). DESIGN CHOICE (log entry 125): the lines are fed in a grain that runs a list, and in no
other. -/
def State.fthGrain (s : State) (b : Nat) (g : DWord) : State :=
  if s.fthFrozen b then s
  else
    let x := s.fth b
    let s1 := s.fthLate b
    if x.running && s.fthFinish b x.page.val && x.later.isNone then
      s1.modFth b fun x => { x with later := some g, laterMissed := false }
    else
      let s2 := if x.running then s1.fthStop b else s1
      let s3 := s2.modFth b fun x => { x with later := none, laterMissed := false }
      if s3.fthEn b (s3.fthPage b) then s3.fthBegin b g false else s3.releaseLoans (96 + b)

/-! ## Taps (R145-R149) -/

def tdDest (d : Nat) : Nat := bitsAt d 0 26
def tdGain (d : Nat) : Word := BitVec.ofNat 32 (bitsAt d 32 32)
def tdDelay (d : Nat) : Nat := bitsAt d 64 32
def tdLine (d : Nat) : Nat := bitsAt d 112 8
def tdPush (d : Nat) : Bool := bitAt d 120
def tdAcc (d : Nat) : Bool := bitAt d 121
def tdOrd (d : Nat) : Nat := bitsAt d 122 2
def tdOp (d : Nat) : Nat := bitsAt d 124 4

/-- OP, ORD and the reserved fields of a descriptor: 0 good, 1 undefined OP or ORD, 2 a reserved field (R145). -/
def tdCheck (d : Nat) : Nat :=
  if tdOp d = 0 then (if bitsAt d 0 124 = 0 then 0 else 2)
  else if tdOp d ≠ 1 ∨ tdOrd d = 3 then 1
  else if bitsAt d 26 6 ≠ 0 ∨ bitsAt d 96 16 ≠ 0 then 2
  else if tdAcc d ∧ (tdDest d ≠ 0 ∨ tdPush d) then 2
  else if tdPush d ∧ bitsAt d 16 10 ≠ 0 then 2
  else 0

/-- The engine's arithmetic: nearest even, subnormals flushed (R146, R148). -/
def fthEnv : FpEnv := ⟨0, true⟩

/-- A third-order Lagrange weight at f = F / 4096, exact and rounded once (R146). -/
def lagrange (num : Int) (den : Nat) : Word := (fpRound 0 true (num < 0) num.natAbs den 0).1

/-- The four weights of the cubic interpolation. -/
def cubicCoefs (frac : Nat) : List Word :=
  let f : Int := frac
  let u : Int := 4096
  [ lagrange (-(f * (f - u) * (f - 2 * u))) (6 * 4096 ^ 3), lagrange ((f + u) * (f - u) * (f - 2 * u)) (2 * 4096 ^ 3),
    lagrange (-((f + u) * f * (f - 2 * u))) (2 * 4096 ^ 3), lagrange ((f + u) * f * (f - u)) (6 * 4096 ^ 3) ]

/-- The weights of a polyphase tap: phase FRAC[11:4] of the active coefficient page. -/
def State.polyCoefs (s : State) (b p frac : Nat) : List Word :=
  let ph := frac / 16
  if s.bad 2 (b * 1024 + p * 512 + 256 + ph) then [0, 0, 0, 0]
  else (List.range 4).map (fun i => s.tab (A.fthCoef b p (4 * ph + i)))

/-- A delay held to its range (R149). -/
def clampDelay (ord len d : Nat) : Nat :=
  let lo := if ord = 0 then 0 else 4096
  let hi := if ord = 0 then (len - 2) * 4096 + 4095 else (len - 3) * 4096 + 4095
  if d < lo then lo else if hi < d then hi else d

/-- y of a tap from its points x[n-1] to x[n+2] (R146). -/
def tapValue (ord frac : Nat) (c x : List Word) : Word :=
  let at_ (l : List Word) (i : Nat) : Word := l.getD i 0
  if ord = 0 then
    let f := (fpRound 0 true false frac 4096 0).1
    (fpFma fthEnv (at_ x 1) f (fpSub fthEnv (at_ x 2) (at_ x 1)).1).1
  else
    let y0 := (fpMul fthEnv (at_ c 0) (at_ x 0)).1
    let y1 := (fpFma fthEnv y0 (at_ c 1) (at_ x 1)).1
    let y2 := (fpFma fthEnv y1 (at_ c 2) (at_ x 2)).1
    (fpFma fthEnv y2 (at_ c 3) (at_ x 3)).1

/-- The four points of a tap's window (R143, R144, R148): positions (g - k) mod LEN for k from n - 1 to n + 2. -/
def State.tapPoints (s : State) (b e n g obj : Nat) : State × List Word :=
  (List.range 4).foldl (init := (s, [])) fun r (i : Nat) =>
    let len := lnLen e
    let pos := ((g : Int) - ((n : Int) - 1 + i)) % len
    let q := r.1.fthRead b (lnBase e + pos.toNat * 4) 4 obj
    let w := BitVec.ofNat 32 q.2
    (q.1, r.2 ++ [if lnFixed e then (fpOfInt fthEnv w 31).1 else w])

/-- An output in its line's format (R148), and whether it counts in FTH_SATCNT. -/
def tapOutput (e : Nat) (v : Word) : Word × Bool :=
  if lnFixed e then
    let r := fpToInt fthEnv v 31
    (r.1, 2 ≤ r.2)
  else (v, false)

/-- One TAP (R146-R149). -/
def State.tap (s : State) (b p d obj : Nat) : State :=
  let e := s.fthLineOf b p (tdLine d)
  let len := lnLen e
  let dl := clampDelay (tdOrd d) len (tdDelay d)
  let s1 := if dl = tdDelay d then s
    else
      let t := s.count (A.fthClampcnt b) 0 32
      if (t.fth b).evClamp then t else (t.modFth b fun x => { x with evClamp := true }).fthEvent b 3 obj
  let c := if tdOrd d = 2 then s1.polyCoefs b p (dl % 4096) else cubicCoefs (dl % 4096)
  let r := s1.tapPoints b e (dl / 4096) (s1.fth b).grain.toNat obj
  let y := tapValue (tdOrd d) (dl % 4096) c r.2
  let sum := (fpFma fthEnv (r.1.fth b).sum (tdGain d) y).1
  if tdAcc d then r.1.modFth b fun x => { x with sum := sum }
  else
    let o := tapOutput e sum
    let s2 := if o.2 then r.1.count (A.fthSatcnt b) 0 32 else r.1
    s2.modFth b fun x => { x with sum := 0, outs := x.outs ++ [⟨obj, tdPush d, tdDest d, o.1⟩] }

/-- The descriptors of a group from place j on: each is read again (R155); the first that is invalid stops the list. DESIGN
CHOICE (log entry 126): those before it in its group have issued. -/
def State.tapGroup (s : State) (b p : Nat) : Nat → Nat → State
  | 0, _ => s
  | n + 1, i =>
    if s.fthLcnt b p ≤ i then s
    else
      let r := s.fthRead b (s.fthBase b p + i * 16) 16 i
      if tdCheck r.2 ≠ 0 then (r.1.fthEvent b 1 i).fthEnd b
      else
        let s1 := if tdOp r.2 = 1 then r.1.tap b p r.2 i else r.1
        (s1.modFth b fun x => { x with idx := i + 1 }).tapGroup b p n (i + 1)

/-- A read that a group of descriptors from index i on would make waits: of its descriptor line, or of a point window. -/
def State.groupWaits (s : State) (b p i : Nat) : Bool :=
  let at_ := s.fthBase b p + i * 16
  s.borrowed at_ || (List.range 4).any fun j =>
    let d := memNat s.mem (at_ + 16 * j) 16
    let e := s.fthLineOf b p (tdLine d)
    tdOp d == 1 && s.rangeWaits (lnBase e) (4 * lnLen e)

/-- FATHOM_GROUP_ISSUE (R150-R152): what is still to be fed is fed, and the next four descriptors issue, unless the bench's
wagon is full or an access waits for a borrowed stripe or a locked bank (07 R265, 09 R322). -/
def fathomGroupIssue (b : BenchId) (s : State) : State :=
  s.within b.val <|
    let b := b.val
    let p := (s.fth b).page.val
    if (s.fth b).running && !s.fthFrozen b then
      let t := s.fthFeed b p (s.fth b).grain.toNat (s.fth b).toFeed
      let x := t.fth b
      if x.toFeed.isEmpty && x.idx < t.fthLcnt b p && (t.wq (52 + b)).length < 1024 && !t.groupWaits b p x.idx then
        t.tapGroup b p 4 x.idx
      else t
    else s

/-- The list is complete in a cycle counted from grain start (R150, R157). -/
def State.fthComplete (s : State) (b : Nat) (cycle : Nat) : State :=
  ((s.setFld (A.fthUsed b) 0 16 cycle).maxFld (A.fthUsedmax b) 0 16 cycle).fthEnd b

/-- FATHOM_OUTPUT (R150, R152): the oldest output is written to its bank word, or is ready for a push; with the last one
the list is complete. -/
def fathomOutput (b : BenchId) (cycle : BitVec 16) (s : State) : State :=
  s.within b.val <|
    let b := b.val
    let x := s.fth b
    let s1 := match x.outs with
      | [] => s
      | o :: rest =>
        let t := s.modFth b fun x => { x with outs := rest }
        if o.push then t.modFth b fun x => { x with pushes := x.pushes ++ [(BitVec.ofNat 16 o.dest, o.val)] }
        else if s.borrowed (o.dest * 4) then s
        else t.fthWrite b (o.dest * 4) o.val o.desc
    let y := s1.fth b
    if y.running && y.outs.isEmpty && s1.fthLcnt b y.page.val ≤ y.idx then s1.fthComplete b cycle.toNat else s1

/-- FATHOM_DEADLINE (R156, 02 R66): a miss of the bench's grain; under ABANDON the taps not yet computed write nothing, and
a list that still waits for an older one is not run. -/
def fathomDeadline (b : BenchId) (s : State) : State :=
  s.within b.val <|
    let b := b.val
    let x := s.fth b
    if s.fthFrozen b then s
    else if x.later.isSome then
      if x.laterMissed then s
      else
        let s1 := s.fthMiss b (s.fthPage b) 0
        if s.fthFinish b (s.fthPage b) then s1.modFth b fun x => { x with laterMissed := true }
        else s1.modFth b fun x => { x with later := none }
    else if x.running && !x.missed then
      let s1 := s.fthMiss b x.page.val x.idx
      if s.fthFinish b x.page.val then s1.modFth b fun x => { x with missed := true } else s1.fthStop b
    else s

/-- The page of a paged offset of the Fathom block, and its entry in the page (17 R528, log entry 9). -/
def fthPaged (o : Nat) : Option (Nat × Nat) :=
  if 0x08 ≤ o ∧ o < 0x18 then some ((o - 0x08) / 8, 512)
  else if 0x18 ≤ o ∧ o < 0x20 then some ((o - 0x18) / 4, 512)
  else if 0x1000 ≤ o ∧ o < 0x3000 then some ((o - 0x1000) / 0x1000, (o - 0x1000) % 0x1000 / 16)
  else if 0x3000 ≤ o ∧ o < 0x5000 then some ((o - 0x3000) / 0x1000, 256 + (o - 0x3000) % 0x1000 / 16)
  else none

/-- A write to the Fathom pages (R153): the shadow page takes it. -/
def State.fthWriteReg (s : State) (b o : Nat) (v : Word) : State :=
  match fthPaged o, regOf (A.fthCtl b + o) with
  | some (p, e), some r =>
    s.pagedWrite (A.fthCtl b + o) (writeFields r.fields (s.rawReg (A.fthCtl b + o)) v) (p == s.fthPage b)
      (s.bit (A.fthStat b) 2) (A.fthStat b) 0 1 2 (b * 1024 + p * 512 + e)
  | _, _ => s

/-- FATHOM_PAGE_WRITE (R153). -/
def fathomPageWrite (b : BenchId) (off : BitVec 16) (v : Word) (s : State) : State := s.fthWriteReg b.val off.toNat v

/-- TAPLIST_COMMIT at its grain start (R153): the shadow page becomes active. -/
def State.taplistApply (s : State) (b : Nat) : State :=
  ((s.setFld (A.fthCtl b) 0 1 (1 - s.fthPage b)).setFld (A.fthStat b) 2 1 0).fthEvent b 0 (1 - s.fthPage b)

/-! ## The commands -/

/-- FATHOM_GROUP_ISSUE (04 R151). -/
def execFathomGroupIssue (b : BenchId) (s : State) : Host.Outcome State Fault Refusal := finish s (fathomGroupIssue b s)
/-- FATHOM_OUTPUT (04 R150). -/
def execFathomOutput (b : BenchId) (cycle : BitVec 16) (s : State) : Host.Outcome State Fault Refusal :=
  finish s (fathomOutput b cycle s)
/-- FATHOM_DEADLINE (04 R156). -/
def execFathomDeadline (b : BenchId) (s : State) : Host.Outcome State Fault Refusal := finish s (fathomDeadline b s)
/-- FATHOM_PAGE_WRITE (04 R153). -/
def execFathomPageWrite (b : BenchId) (off : BitVec 16) (v : Word) (s : State) : Host.Outcome State Fault Refusal :=
  finish s (fathomPageWrite b off v s)

end Sys2Proof.Machine
end

