-- ==== Sys2Proof/Machine/Validate.lean ====
section
/-! DEFINITION. Validation of the tables that commands name: slot maps (03 R107), route pages (04 R131), tap lists (04
R154), network and chain stream pages (11 R371, 12 R402), proposed entries (05 R175, 06 R212, 14 R479). -/

namespace Sys2Proof.Machine

/-! ## Status codes (14 R461) -/

def stOk : Nat := 0x00
def stOpcode : Nat := 0x10
def stField : Nat := 0x11
def stReserved : Nat := 0x12
def stAuth : Nat := 0x20
def stAwait : Nat := 0x21
def stLate : Nat := 0x30
def stStale : Nat := 0x40
def stUnreach : Nat := 0x50
def stBusy : Nat := 0x60
def stInternal : Nat := 0x70

/-- A table that fails: status, and the index of the failing entry, none where it fails outside every entry (R460). -/
structure TabErr where
  status : Nat
  entry : Option Nat
  deriving DecidableEq, Repr

/-- The first failing rule of a list of rules in their order: a rule that holds is true. -/
def firstBad : List (Bool × Nat) → Option Nat
  | [] => none
  | (ok, st) :: rs => if ok then firstBad rs else some st

/-- No number occurs twice. -/
def allDiff (l : List Nat) : Bool := l.eraseDups.length == l.length

/-- A word address ÷ 4 of the bank region (01 R28). -/
def bankWord (w : Nat) : Bool := w * 4 < bankEnd
def State.fabwWord (s : State) (w : Nat) : Bool := s.fabw (bankOf (w * 4))

/-! ## Slot maps (03 R107) -/

/-- Reserved bits of a slot-map entry by its operation. -/
def smReserved (e : Nat) : Bool :=
  match smOp e with
  | 0 => bitsAt e 0 60 == 0
  | 1 => bitsAt e 26 2 == 0
  | 2 => true
  | _ => bitsAt e 16 18 == 0

/-- The input and the output positions of an entry. -/
def smIn (sl : List Nat) (e : Nat) : List (Nat × Nat) :=
  if smOp e = 1 then smPos sl (smCount e) (smLane e) (smSlot e) else if smOp e = 3 then [(smLane e, smSlot e)] else []
def smOut (sl : List Nat) (e : Nat) : List (Nat × Nat) :=
  if smOp e = 2 then smPos sl (smCount e) (smLane e) (smSlot e) else if smOp e = 3 then [(smOlane e, smOslot e)] else []

/-- The words (÷ 4) that an IN entry writes: inbox words, then timestamp words. -/
def smWords (sl : List Nat) (e : Nat) : List Nat :=
  if smOp e = 1 then
    let ws := (smCover sl e).map (·.2.2)
    if smTs e then ws ++ ws.map (· + 1) else ws
  else []

/-- An entry against the rules, in their order; `prev` are the entries before it. -/
def State.smCheck (s : State) (g p : Nat) (prev : List Nat) (e : Nat) : Option Nat :=
  let sl := s.slotsNow g
  let slots := fun (lane : Nat) => sl.getD (lane / 8) 0
  let ws := (smCover sl e).map (·.2.2)
  let cover := fun (op : Nat) (x : Nat × Nat) => ((prev ++ [e]).filter (fun y => smOp y == op && (smIn sl y).contains x)).length
  firstBad
    [ (smOp e ≤ 3, stField),
      (smReserved e, stReserved),
      (smOp e == 0 || (smSlot e < slots (smLane e) && (smOp e != 3 || smOslot e < slots (smOlane e)) &&
        (smIn sl e ++ smOut sl e).all (fun x => x.1 < 64)), stField),
      ((smIn sl e).all (fun x => !s.smDir g p x.1) && (smOut sl e).all (fun x => s.smDir g p x.1), stField),
      (smOp e == 0 || smOp e == 3 || ws.all (fun w => bankWord w && (smOp e != 1 || !smTs e || bankOf (w * 4) == bankOf (w * 4 + 4))),
        stField),
      (smOp e != 1 || !smTs e || smCount e == 1 || 2 ≤ smStride e, stField),
      ((smIn sl e).all (fun x => cover 1 x ≤ 2 && cover 3 x ≤ 4), stField),
      ((smOut sl e).all (fun x => ((prev.flatMap (smOut sl)) ++ smOut sl e).count x ≤ 1), stField),
      (allDiff ((prev ++ [e]).flatMap (smWords sl)), stField) ]

/-- The entries from index i on, up to the first END. -/
def State.smWalk (s : State) (g p : Nat) : Nat → Nat → List Nat → Option TabErr
  | 0, _, _ => none
  | n + 1, i, prev =>
    let e := s.smEntry g p i
    match s.smCheck g p prev e with
    | some st => some ⟨st, some i⟩
    | none => if smOp e = 0 then none else s.smWalk g p n (i + 1) (prev ++ [e])

/-- The shadow page of port group g (R107): bytes 0x0008 to 0x0FFF first. -/
def State.smValidate (s : State) (g : Nat) : Option TabErr :=
  let p := 1 - s.pgActive g
  if (List.range 0x3FE).all (fun i => s.tab (smOff g p (i + 2)) == 0) then s.smWalk g p 2048 0 []
  else some ⟨stReserved, none⟩

/-- The result in `PG_STAT` (R118): HDRERR is 1 only while the most recent validation failed in the header bytes. DESIGN
CHOICE: ERRIDX keeps the index of an earlier failure through a validation that passes (log entry 133). -/
def State.smReport (s : State) (g : Nat) (r : Option TabErr) : State :=
  match r with
  | none => s.setFld (A.pgStat g) 4 1 0
  | some x =>
    (s.setFld (A.pgStat g) 4 1 (b2n x.entry.isNone)).setFld (A.pgStat g) 16 11 (x.entry.getD 0)

/-! ## Route pages (04 R131) -/

/-- The cycles a SCHED entry uses on its wagon meet those of another. -/
def schedMeet (a b : Nat) : Bool := rtOfs a < rtOfs b + rtCount b && rtOfs b < rtOfs a + rtCount a

def rtDsts (e : Nat × Nat) : List Nat := (List.range (rtCount e.1)).map (fun i => rtDst e.2 + i * rtDstride e.2)
def rtSrcs (e : Nat × Nat) : List Nat := (List.range (rtCount e.1)).map (fun i => rtSrc e.1 + i * rtSstride e.2)

/-- Reserved fields, and fields stated as 0 for the kind. -/
def rtReserved (e : Nat × Nat) : Bool :=
  match rtKind e.1 with
  | 0 => bitsAt e.1 0 60 == 0 && e.2 == 0
  | 1 => bitsAt e.2 26 22 == 0
  | 2 => bitsAt e.2 26 22 == 0 && rtDom e.1 == 0 && rtOfs e.1 == 0
  | _ => bitsAt e.2 26 22 == 0 && rtDom e.1 == 0 && rtOfs e.1 == 0 && bitsAt e.1 20 6 == 0 && rtSstride e.2 == 0

def State.rtCheck (s : State) (prev : List (Nat × Nat)) (e : Nat × Nat) : Option Nat :=
  let k := rtKind e.1
  let sched := prev.filter (fun x => rtKind x.1 == 1)
  firstBad
    [ (k ≤ 3, stField),
      (rtReserved e, stReserved),
      (k == 0 || ((rtDsts e).all bankWord && (k == 3 || (rtSrcs e).all bankWord)), stField),
      (k == 0 || (rtDsts e).all s.fabwWord, stAuth),
      ((k != 1 || (44 ≤ rtWagon e.1 && rtWagon e.1 ≤ 51)) &&
        (k != 2 || (52 ≤ rtWagon e.1 && (rtSrcs e).all (fun w => 52 + benchOfBank (bankOf (w * 4)) == rtWagon e.1))) &&
        (k != 3 || rtWagon e.1 == 52 + rtBench e.1), stField),
      (k != 1 || rtOfs e.1 + rtCount e.1 - 1 + 64 < fabCycles (s.fld (A.rdCtl (rtDom e.1)) 1 3), stField),
      (k != 1 || sched.all (fun x => rtWagon x.1 != rtWagon e.1 || (rtDom x.1 == rtDom e.1 && !schedMeet x.1 e.1)), stField),
      (k == 0 || allDiff ((prev ++ [e]).flatMap rtDsts), stField),
      (k != 2 || (rtSrcs e).all (fun w =>
        ((prev ++ [e]).filter (fun x => rtKind x.1 == 2 && (rtSrcs x).contains w)).length ≤ 4), stField),
      (k != 3 || prev.all (fun x => rtKind x.1 != 3 || rtBench x.1 != rtBench e.1 ||
        rtChan x.1 + rtCount x.1 ≤ rtChan e.1 || rtChan e.1 + rtCount e.1 ≤ rtChan x.1), stField) ]

def State.rtWalk (s : State) (p : Nat) : Nat → Nat → List (Nat × Nat) → Option TabErr
  | 0, _, _ => none
  | n + 1, i, prev =>
    let e := (s.rt0 p i, s.rt1 p i)
    match s.rtCheck prev e with
    | some st => some ⟨st, some i⟩
    | none => if rtKind e.1 = 0 then none else s.rtWalk p n (i + 1) (prev ++ [e])

/-- The shadow route page (R131, R132). -/
def State.rtValidate (s : State) : Option TabErr := s.rtWalk (1 - s.rtPage) 16384 0 []

def State.rtReport (s : State) (r : Option TabErr) : State :=
  match r with
  | some ⟨_, some i⟩ => s.setFld A.fabStat 16 14 i
  | _ => s

/-! ## Tap lists (04 R154) -/

/-- A byte range lies wholly in banks of bench b. -/
def inBench (b a n : Nat) : Bool := b * 0x1000000 ≤ a && a + n ≤ (b + 1) * 0x1000000

/-- Reserved fields of a delay-line entry. -/
def lnReserved (e : Nat) : Bool := bitsAt e 26 6 == 0 && bitsAt e 39 25 == 0 && bitsAt e 90 38 == 0

/-- Lines i and j of a page overlap. -/
def lnMeet (a b : Nat) : Bool := lnBase a < lnBase b + lnLen b * 4 && lnBase b < lnBase a + lnLen a * 4

/-- The lines of the page: reserved fields, then R142, bank, feed word and overlap. -/
def State.lnCheck (s : State) (b p : Nat) : Option Nat :=
  let es := (List.range 256).map (fun i => s.fthLineOf b p i)
  let on := es.filter lnEn
  firstBad
    [ (es.all lnReserved, stReserved),
      (on.all (fun e => lnBase e % 64 == 0 && 5 ≤ bitsAt e 32 5 && bitsAt e 32 5 ≤ 17 &&
        inBench b (lnBase e) (lnLen e * 4) && bankOf (lnBase e) == bankOf (lnBase e + lnLen e * 4 - 1) &&
        inBench b (lnFeed e) 4) &&
        (on.zipIdx.all (fun x => on.zipIdx.all (fun y => x.2 == y.2 || !lnMeet x.1 y.1))), stField) ]

/-- One descriptor of the list. -/
def State.tdValid (s : State) (b p d : Nat) : Option Nat :=
  firstBad
    [ (tdCheck d != 1, stField),
      (tdCheck d != 2, stReserved),
      (tdOp d == 0 || lnEn (s.fthLineOf b p (tdLine d)), stField),
      (tdOp d == 0 || tdAcc d || tdPush d || inBench b (tdDest d * 4) 4, stField) ]

def State.tdWalk (s : State) (b p : Nat) : Nat → Nat → Option TabErr
  | 0, _ => none
  | n + 1, i =>
    match s.tdValid b p (memNat s.mem (s.fthBase b p + 16 * i) 16) with
    | some st => some ⟨st, some i⟩
    | none => s.tdWalk b p n (i + 1)

/-- The shadow page of bench b and its list (R154): the list's place, the lines, then the descriptors in their order. -/
def State.tapValidate (s : State) (b : Nat) : Option TabErr :=
  let p := 1 - s.fthPage b
  if !inBench b (s.fthBase b p) (16 * s.fthLcnt b p) then some ⟨stField, none⟩
  else match s.lnCheck b p with
    | some st => some ⟨st, none⟩
    | none => s.tdWalk b p (s.fthLcnt b p) 0

def State.tapReport (s : State) (b : Nat) (r : Option TabErr) : State :=
  match r with
  | some ⟨_, some i⟩ => s.setFld (A.fthErridx b) 0 18 i
  | _ => s

/-! ## Network streams (11 R371) -/

/-- Reserved fields of a network stream entry. -/
def neReserved (dir e : Nat) : Bool :=
  bitsAt e 29 3 == 0 && bitsAt e 58 6 == 0 && bitsAt e 200 56 == 0 &&
  (if dir = 0 then bitsAt e 20 9 == 0 && bitsAt e 83 13 == 0 && bitsAt e 192 8 == 0
   else bitsAt e 88 8 == 0 && (neFmt e != 0 || neMtt e == 0)) &&
  (neFmt e != 1 || neRtpofs e == 0) && (neFmt e != 0 || bitsAt e 176 16 == 0)

def neWords (e : Nat) : List Nat := (List.range (neNch e)).map (fun c => neAddr e + c * neStride e)

/-- The enabled entries among those before that share a wagon with e, and e: their channels. -/
def wagonLoad (wagon nch : Nat → Nat) (prev : List Nat) (e : Nat) : Nat :=
  (prev.filter (fun x => wagon x == wagon e)).foldl (fun n x => n + nch x) (nch e)

def State.neCheck (s : State) (dir : Nat) (prev : List Nat) (e : Nat) : Option Nat :=
  let on := bitAt e 0
  firstBad
    [ (neReserved dir e, stReserved),
      (!on || (neFmt e ≤ 1 && neSfmt e ≤ (if neFmt e = 0 then 1 else 3) && (dir == 0 || (nePtime e ≤ 4 && neTc e ≤ 6))), stField),
      (!on || (s.domState (neDom e) != 0 && s.fld (A.rdCtl (neDom e)) 1 3 ≤ 5 && 2 ≤ s.domSrc (neDom e)), stField),
      (!on || (neNch e * (if dir = 0 then 1 else s.neSpp e) * sfmtBytes (neSfmt e) ≤ 1440 &&
        wagonLoad neWagon neNch prev e ≤ 1024), stField),
      (!on || (neWords e).all bankWord, stField),
      (!on || dir == 1 || (neWords e).all s.fabwWord, stAuth),
      (!on || dir == 1 || (prev.all (fun x => nePort x != nePort e || neKey x != neKey e) &&
        allDiff ((prev ++ [e]).flatMap neWords)), stField) ]

def State.neWalk (s : State) (dir p : Nat) : Nat → Nat → List Nat → Option TabErr
  | 0, _, _ => none
  | n + 1, i, prev =>
    let e := s.netEntry dir p i
    match s.neCheck dir prev e with
    | some st => some ⟨st, some i⟩
    | none => s.neWalk dir p n (i + 1) (if bitAt e 0 then prev ++ [e] else prev)

/-- The shadow pair of pages: ingress, then egress; which of the two fails. -/
def State.netValidate (s : State) : Option (Nat × TabErr) :=
  let p := 1 - s.net.page
  match s.neWalk 0 p 512 0 [] with
  | some e => some (0, e)
  | none => (s.neWalk 1 p 512 0 []).map (fun e => (1, e))

def State.netReport (s : State) (r : Option (Nat × TabErr)) : State :=
  match r with
  | some (dir, x) => (s.setFld A.netStat 3 1 dir).setFld A.netStat 16 9 (x.entry.getD 0)
  | none => s

/-! ## Chain streams (12 R402) -/

def ceReserved (dir e : Nat) : Bool :=
  bitsAt e 58 6 == 0 && bitsAt e 72 56 == 0 && (dir == 0 || bitsAt e 64 8 == 0)

def ceWords (e : Nat) : List Nat := (List.range (ceNch e)).map (fun c => ceAddr e + c * ceStride e)

def State.ceCheck (s : State) (dir : Nat) (prev : List Nat) (e : Nat) : Option Nat :=
  let on := bitAt e 0
  firstBad
    [ (ceReserved dir e, stReserved),
      (!on || s.domState (ceDom e) != 0, stField),
      (!on || dir == 1 || 2 ≤ ceLink e, stField),
      (!on || wagonLoad ceWagon ceNch prev e ≤ 1024, stField),
      (!on || (ceWords e).all bankWord, stField),
      (!on || dir == 1 || (ceWords e).all s.fabwWord, stAuth),
      (!on || dir == 1 || (prev.all (fun x => cePeer x != cePeer e || ceSid x != ceSid e) &&
        allDiff ((prev ++ [e]).flatMap ceWords)), stField) ]

def State.ceWalk (s : State) (dir p : Nat) : Nat → Nat → List Nat → Option TabErr
  | 0, _, _ => none
  | n + 1, i, prev =>
    let e := s.chEntry dir p i
    match s.ceCheck dir prev e with
    | some st => some ⟨st, some i⟩
    | none => s.ceWalk dir p n (i + 1) (if bitAt e 0 then prev ++ [e] else prev)

def State.chValidate (s : State) : Option (Nat × TabErr) :=
  let p := 1 - s.chain.page
  match s.ceWalk 0 p 64 0 [] with
  | some e => some (0, e)
  | none => (s.ceWalk 1 p 64 0 []).map (fun e => (1, e))

def State.chReport (s : State) (r : Option (Nat × TabErr)) : State :=
  match r with
  | some (dir, x) => (s.setFld A.chStat 15 1 dir).setFld A.chStat 24 6 (x.entry.getD 0)
  | none => s

/-! ## Proposed entries (14 R479) -/

/-- A segment [a, a + limit] lies in [lo, hi). -/
def segIn (a limit lo hi : Nat) : Bool := lo ≤ a && a + limit < hi

/-- A proposed descriptor for core c (06 R211, R212), as a 128-bit number. -/
def descCheck (c d : Nat) : Option Nat :=
  let v := BitVec.ofNat 128 d
  let b := c / 8
  let base := dBase' d
  let lim := bitsAt d 64 32
  let r := bitAt d 97
  let w := bitAt d 98
  let x := bitAt d 99
  let f := bitAt d 100
  let cl := bitsAt d 101 2
  let bench := segIn base lim (b * 0x1000000) ((b + 1) * 0x1000000)
  let page := ctlBase + A.coreCfg b 0
  let own := ctlBase + A.coreCfg b (c % 8)
  firstBad
    [ (bitsAt d 48 16 == 0, stField),
      (bitsAt d 103 25 == 0 && (bitAt d 96 || v == 0), stReserved),
      (cl != 3 && base % 64 == 0, stField),
      (!(x && w), stField),
      (!x || (cl == 0 && !f && bench), stField),
      (!f || (cl == 0 && !w && !x && segIn base lim farBase farEnd), stField),
      (!bitAt d 96 || cl != 0 || f || segIn base lim 0 bankEnd, stField),
      (cl != 1 || (!x && (segIn base lim own (own + 0x4000) || segIn base lim page (page + 0x40000) ||
        segIn base lim (ctlBase + A.evtClaim c) (ctlBase + A.evtClaim (c + 1)))), stField),
      (cl != 2 || (r && w && !x && !f && bench), stField) ]
where
  /-- BASE. -/
  dBase' (d : Nat) : Nat := bitsAt d 0 48

/-- A proposed eligibility entry for bank n (05 R175), as words. -/
def eligCheck (n : Nat) (ws : List Word) : Option Nat :=
  let mask := natOf ((ws.take 8).flatMap (fun w => bytesOf w.toNat 4))
  firstBad
    [ (bitsAt mask 142 114 == 0, stReserved),
      ((ws.getD 8 0).toNat < 4 && (ws.drop 9).all (· == 0), stReserved),
      ((List.range 12).all (fun b => b == benchOfBank n || !bitAt mask (96 + b)), stField) ]

/-- A proposed `Q_BIND` or `TW_LANE` entry (14 R479). -/
def bindCheck (w : Word) : Option Nat := if 4 ≤ w.toNat then some stReserved else if w = 2 then some stField else none
def twLaneCheck (w : Word) : Option Nat :=
  if (List.range 16).any (fun j => fget w (2 * j) 2 == 3) then some stField else none

end Sys2Proof.Machine
end

