-- ==== Sys2Proof/Machine/CmdCheck.lean ====
section
/-! DEFINITION. Command packets (14): the opcodes with their issuers, commit rule and fields, and checks 2 to 9 of R462. -/

namespace Sys2Proof.Machine

/-! ## Opcodes (R463, R467-R482) -/

/-- The issuer codes of R463; `ab`: A or B. -/
inductive Issuer where
  | any
  | a
  | b
  | s
  | ab
  deriving DecidableEq, Repr

/-- An opcode: who may issue it, whether its commit grain is used, and its parameters: first byte, bytes, and the mask of
bits that are not reserved. -/
structure Op where
  iss : Issuer
  used : Bool
  fields : List (Nat × Nat × Nat)
  deriving DecidableEq, Repr

/-- A parameter of `n` bytes at byte i without reserved bits. -/
def par (i n : Nat) : Nat × Nat × Nat := (i, n, 2 ^ (8 * n) - 1)

/-- The opcodes of 14; an opcode not listed is not defined. -/
def opOf (code : Nat) : Option Op :=
  match code with
  | 0x0000 => some ⟨.any, false, []⟩
  | 0x0001 => some ⟨.any, false, []⟩
  | 0x0002 => some ⟨.any, false, [par 24 1]⟩
  | 0x0003 => some ⟨.any, false, [par 24 1]⟩
  | 0x0004 => some ⟨.any, false, [par 24 4]⟩
  | 0x0100 => some ⟨.a, true, [par 24 8, par 32 8, par 40 4, par 44 1]⟩
  | 0x0101 => some ⟨.a, true, [par 24 1, (25, 1, 7), par 26 1, par 28 4, par 32 2, par 34 2, (36, 4, 0x3FFFFFF), (40, 4, 0x7F)]⟩
  | 0x0102 => some ⟨.a, true, [par 24 1, (25, 1, 1)]⟩
  | 0x0103 => some ⟨.a, true, [par 24 2, par 26 1, par 27 1]⟩
  | 0x0200 => some ⟨.a, true, [par 24 6, par 30 1]⟩
  | 0x0300 => some ⟨.a, true, []⟩
  | 0x0301 => some ⟨.a, true, [par 24 1]⟩
  | 0x0400 => some ⟨.a, true, [par 24 1]⟩
  | 0x0401 => some ⟨.a, true, []⟩
  | 0x0402 => some ⟨.a, true, []⟩
  | 0x0403 => some ⟨.a, true, [par 24 1, par 25 1]⟩
  | 0x0404 => some ⟨.a, true, [par 24 1]⟩
  | 0x0405 => some ⟨.a, true, [par 24 1]⟩
  | 0x0406 => some ⟨.a, true, [par 24 9]⟩
  | 0x0500 => some ⟨.any, false, [par 24 2, (26, 1, 7), par 28 2, par 32 8, par 40 2, (42, 2, 0xFFF), par 44 2, par 46 2]⟩
  | 0x0501 => some ⟨.any, false, [par 24 2, (26, 1, 1)]⟩
  | 0x0502 => some ⟨.any, false, [par 24 2]⟩
  | 0x0600 => some ⟨.a, true, [par 24 1, par 26 2, par 28 2, par 32 4, par 40 8]⟩
  | 0x0601 => some ⟨.b, false, [par 24 4, par 40 8]⟩
  | 0x0602 => some ⟨.ab, false, [par 24 4]⟩
  | 0x0700 => some ⟨.a, true, [(24, 1, 1)]⟩
  | 0x0701 => some ⟨.a, true, []⟩
  | 0x0702 => some ⟨.a, true, []⟩
  | 0x0800 => some ⟨.a, false, [(24, 1, 1)]⟩
  | 0x0801 => some ⟨.any, false, []⟩
  | 0x0900 => some ⟨.ab, false, [par 24 4, par 40 8]⟩
  | 0x0901 => some ⟨.s, false, [par 24 1]⟩
  | _ => none

/-- The parameters of a packet: the data words of PARAM_WRITE beyond COUNT are reserved (R472). -/
def pkFields (o : Op) (p : Packet) : List (Nat × Nat × Nat) :=
  if pkOpcode p = 0x0200 then
    let n := pk p 30 1
    o.fields ++ (List.range 7).map (fun i => (32 + 4 * i, 4, if 1 ≤ n && n ≤ 7 && n ≤ i then 0 else 0xFFFFFFFF))
  else o.fields

/-! ## Issuers (R463, 16 R513) -/

/-- STRAP_AUTHB is high: authority B is the management serial port. -/
def State.authbHigh (s : State) : Bool := s.bit A.sysStrap 3

/-- The issuer code of an origin as CMD frames carry it (12 R388): 0 PF0, 1 PF1, 2 the management serial port. -/
def State.issuerCode (s : State) (o : Origin) : Nat :=
  match o with
  | .sq q => s.qFn q.val
  | .serial => 2
  | .chain _ _ _ i => i.toNat

/-- An issuer is authority B. -/
def State.isAuthB (s : State) (i : Nat) : Bool := if s.authbHigh then i == 2 else i == 1

/-- The issuer is allowed (R463). -/
def State.issuerOk (s : State) (x : Issuer) (i : Nat) : Bool :=
  match x with
  | .any => i ≤ 2
  | .a => i == 0
  | .b => s.isAuthB i
  | .s => i == 1 || i == 2
  | .ab => i == 0 || s.isAuthB i

/-! ## Verdicts -/

/-- STATUS, DETAIL and AUX of a validation (R460). -/
structure Verdict where
  status : Nat
  detail : Nat
  aux : Nat
  deriving DecidableEq, Repr

def noDetail : Nat := 0xFFFF
def noAux : Nat := 0xFFFFFFFF

def Verdict.ok : Verdict := ⟨stOk, noDetail, noAux⟩
/-- INVALID_FIELD at a byte. -/
def Verdict.field (o : Nat) : Verdict := ⟨stField, o, noAux⟩
def Verdict.auth (o : Nat) : Verdict := ⟨stAuth, o, noAux⟩
/-- A status without a failing field. -/
def Verdict.plain (st : Nat) : Verdict := ⟨st, noDetail, noAux⟩
/-- A named table fails (R460). -/
def Verdict.table (x : TabErr) : Verdict := ⟨x.status, noDetail, x.entry.getD noAux⟩

/-- The first rule that does not hold. -/
def firstFail : List (Bool × Verdict) → Option Verdict
  | [] => none
  | (ok, v) :: rs => if ok then firstFail rs else some v

/-! ## Check 6: reserved fields -/

/-- The first failing byte among bytes 24 to 63. -/
def paramReserved (fs : List (Nat × Nat × Nat)) (p : Packet) : Option Nat :=
  ((List.range 40).map (· + 24)).find? fun b =>
    match fs.find? (fun f => f.1 ≤ b && b < f.1 + f.2.1) with
    | some (i, n, m) => b == i && pk p i n &&& m != pk p i n
    | none => pk p b 1 != 0

/-- Check 6 (R462): FLAGS bits [7:2], bytes 10 to 15, and every reserved parameter bit. -/
def reservedAt (o : Op) (p : Packet) : Option Nat :=
  if pk p 2 1 / 4 ≠ 0 then some 2
  else if pk p 10 6 ≠ 0 then some 10
  else paramReserved (pkFields o p) p

/-! ## Check 7: parameters -/

/-- The frequency of bench b in Hz (18 R558). -/
def State.benchHz (s : State) (b : Nat) : Nat := s.fld (A.benchClkstat b) 0 11 * 1000000

/-- The largest GRAIN_DL of a bench (02 R37). -/
def State.maxDl (s : State) (b : Nat) : Nat :=
  s.benchHz b * 10000 / (s.domHz (s.benchDom b) * 10001) - 32

/-- Banks n to n + k - 1. -/
def bankRun (n k : Nat) : List Nat := (List.range k).map (n + ·)

/-- NEXT may own every bank of a run: 255 is no owner. -/
def State.allEligible (s : State) (ns : List Nat) (next : Nat) : Bool :=
  next == 255 || ns.all (fun n => s.eligible n next)

/-- [a, a + n) lies in the banks, or in far memory. -/
def inMem (a n : Nat) : Bool := a + n ≤ bankEnd || (farBase ≤ a && a + n ≤ farEnd)

/-- The destination banks of a LOAD_IMAGE. -/
def imageBanks (p : Packet) : List Nat :=
  let a := pk p 32 8
  let n := pk p 40 4
  bankRun (bankOf a) (if n = 0 then 0 else bankOf (a + n - 1) + 1 - bankOf a)

/-- LOAD_IMAGE (R470). -/
def State.loadImageParams (s : State) (p : Packet) : List (Bool × Verdict) :=
  let src := pk p 24 8
  let dst := pk p 32 8
  let len := pk p 40 4
  let next := pk p 44 1
  [ (src % 64 == 0 && inMem src 1, .field 24),
    (dst % 64 == 0 && dst < bankEnd, .field 32),
    (len % 64 == 0 && 64 ≤ len && len ≤ 0x1000000, .field 40),
    (inMem src len, .field 24),
    (dst + len ≤ bankEnd, .field 32),
    ((imageBanks p).all (fun n => s.owner n == 141), .field 32),
    (!(142 ≤ next && next ≤ 254), .field 44),
    (s.allEligible (imageBanks p) next, .auth 44) ]

/-- START_CORE and STOP_CORE (R469, R471). -/
def State.startCoreParams (s : State) (p : Packet) : List (Bool × Verdict) :=
  let c := pk p 24 1
  [ (c < 96, .field 24),
    (pkDom p == s.benchDom (c / 8), .field 2),
    (pk p 26 1 < 128, .field 26),
    (pk p 28 4 < 2 ^ 30, .field 28),
    (pk p 32 2 ≤ s.maxDl (c / 8), .field 32),
    (pkBit p 25 2 || pk p 40 1 % 8 == s.fld (coreReg A.coreCfgact c) 0 3, .field 40) ]

def State.stopCoreParams (s : State) (p : Packet) : List (Bool × Verdict) :=
  let c := pk p 24 1
  [ (c < 96, .field 24), (pkDom p == s.benchDom (c / 8), .field 2) ]

/-- BANK_ASSIGN (R469, 05 R183). -/
def State.bankAssignParams (s : State) (p : Packet) : List (Bool × Verdict) :=
  let n := pk p 24 2
  let k := pk p 26 1
  let next := pk p 27 1
  [ (n < 384, .field 24),
    (1 ≤ k && k ≤ 32 && n + k ≤ 384, .field 26),
    (!(142 ≤ next && next ≤ 254), .field 27),
    (s.allEligible (bankRun n k) next, .auth 27) ]

/-- PARAM_WRITE (R472). -/
def State.paramWriteParams (s : State) (p : Packet) : List (Bool × Verdict) :=
  let a := pk p 24 6
  let k := pk p 30 1
  [ (a % 4 == 0 && a < bankEnd, .field 24),
    (1 ≤ k && k ≤ 7, .field 30),
    (a / 64 == (a + 4 * k - 1) / 64, .field 24),
    (s.eligible (bankOf a) 141, .auth 24) ]

/-- TIME_CONFIG (R476, 11 R361). -/
def timeConfigParams (p : Packet) : List (Bool × Verdict) :=
  let proto := pk p 25 1
  let sync := sgn (pk p 30 1) 8
  [ (pk p 24 1 < 8, .field 24), (proto ≤ 3, .field 25), (pk p 26 1 ≤ 127, .field 26),
    (pk p 27 1 ≤ 1 && (proto != 1 || pk p 27 1 == 0), .field 27),
    (pk p 28 1 ≤ 1 && (proto != 1 || pk p 28 1 == 0), .field 28),
    (pk p 29 1 ≤ 2, .field 29), (-7 ≤ sync && sync ≤ 1, .field 30) ]

/-- The parameter rules of an opcode, tables and protection apart. -/
def State.paramRules (s : State) (p : Packet) : List (Bool × Verdict) :=
  match pkOpcode p with
  | 0x0002 => [(pk p 24 1 ≤ 3 && s.domRuns (pk p 24 1), .field 24)]
  | 0x0003 => [(pk p 24 1 ≤ 1, .field 24)]
  | 0x0004 => [(pk p 24 4 == 0xA5A5, .field 24)]
  | 0x0100 => s.loadImageParams p
  | 0x0101 => s.startCoreParams p
  | 0x0102 => s.stopCoreParams p
  | 0x0103 => s.bankAssignParams p
  | 0x0200 => s.paramWriteParams p
  | 0x0301 => [(pk p 24 1 < 12, .field 24), (pkDom p == s.benchDom (pk p 24 1), .field 2)]
  | 0x0400 => [(pk p 24 1 < 16, .field 24)]
  | 0x0403 => [(pk p 24 1 < 32, .field 24)]
  | 0x0404 => [(pk p 24 1 < 32, .field 24)]
  | 0x0405 => [(pk p 24 1 ≤ 3 && s.domRuns (pk p 24 1), .field 24)]
  | 0x0406 => timeConfigParams p
  | 0x0700 => [(pkDom p == s.pairDom, .field 2), (s.role != 0, .field 8)]
  | 0x0701 => [(pkDom p == s.pairDom, .field 2)]
  | 0x0702 => [(pkDom p == s.pairDom, .field 2)]
  | 0x0901 => [(pk p 24 1 ≤ 2, .field 24)]
  | _ => []

/-- The table that an opcode names: its validation, recorded where the table's status register shows it. -/
def State.tableCheck (s : State) (p : Packet) : State × Option TabErr :=
  match pkOpcode p with
  | 0x0300 => let r := s.rtValidate; (s.rtReport r, r)
  | 0x0301 => let r := s.tapValidate (pk p 24 1); (s.tapReport (pk p 24 1) r, r)
  | 0x0400 => let r := s.smValidate (pk p 24 1); (s.smReport (pk p 24 1) r, r)
  | 0x0401 => let r := s.netValidate; (s.netReport r, r.map (·.2))
  | 0x0402 => let r := s.chValidate; (s.chReport r, r.map (·.2))
  | _ => (s, none)

/-- Checks 6 and 7 (R462). -/
def State.checkPacket (s : State) (p : Packet) : State × Verdict :=
  match opOf (pkOpcode p) with
  | none => (s, .plain stOpcode)
  | some o =>
    match reservedAt o p with
    | some d => (s, ⟨stReserved, d, noAux⟩)
    | none =>
      match firstFail (s.paramRules p) with
      | some v => (s, v)
      | none =>
        match s.tableCheck p with
        | (t, some e) => (t, .table e)
        | (t, none) => (t, .ok)

/-! ## Check 8: commit grains (02 R71-R73, R464) -/

/-- Check 8 for grain c of domain d (02 R71, R73). -/
def State.grainCheck (s : State) (d c : Nat) : Verdict :=
  let cur := (s.dom d).cnt.toNat
  if !s.domRuns d then .field 2
  else if cur + 2 ^ 24 < c then .field 16
  else if c < cur + 2 then .plain stLate
  else .ok

/-- The commit grain of a packet, that of R72 where COMMIT is 0, or the failing rule. -/
def State.commitGrain (s : State) (p : Packet) : Verdict × DWord :=
  let d := pkDom p
  let c := if pkCommit p = 0 then (s.dom d).cnt.toNat + 2 else (pkCommit p).toNat
  let v := s.grainCheck d c
  (v, if v = .ok then BitVec.ofNat 64 c else pkCommit p)

/-- LOAD_IMAGE is in time (R470): at least 100 µs + (LEN ÷ 4,096) µs before the boundary of C - 1. The last boundary is at
`btime`; grains last 1 s ÷ rate. -/
def State.imageInTime (s : State) (p : Packet) (c : DWord) : Bool :=
  let d := s.dom (pkDom p)
  let hz := s.domHz (pkDom p)
  let ahead : Int := ((c.toNat : Int) - 1 - d.cnt.toNat) * 1000000000 + ((d.btime.toNat : Int) - s.utime) * hz
  decide (((100000 * 4096 + pk p 40 4 * 1000) * hz : Int) ≤ ahead * 4096)

/-! ## Check 9: limits (R466, R473, 02 R73) -/

/-- Commands accepted, or held between the members of a pair, by domain and commit grain. -/
def State.commitsHeld (s : State) : List (Nat × DWord × Packet) :=
  s.cmds.commits.map (fun c => (c.dom, c.grain, c.pkt)) ++ s.twin.inn.map (fun x => (pkDom x.pkt, x.grain, x.pkt)) ++
  (s.twin.out.filter (fun x => !x.relayed)).map (fun x => (pkDom x.pkt, x.grain, x.pkt))

/-- Pending commits (02 R73), those of pair commands under way among them; a PROPOSE or a WITHDRAW is none. -/
def State.commitCount (s : State) : Nat :=
  let counts := fun (o : BitVec 16) => o != 0x0600 && o != 0x0602
  s.cmds.commits.length + (s.twin.inn.filter (fun x => counts x.opcode)).length +
    (s.twin.out.filter (fun x => !x.relayed && counts x.opcode)).length

/-- The page pair, engine or sequencer that a command commits to (R466): two commands with one key meet. -/
def commitKey (p : Packet) : Option (Nat × Nat) :=
  let o := pkOpcode p
  if o = 0x0300 ∨ o = 0x0401 ∨ o = 0x0402 then some (o, 0)
  else if o = 0x0301 ∨ o = 0x0400 then some (o, pk p 24 1)
  else if o = 0x0403 ∨ o = 0x0404 then some (0x0403, pk p 24 1)
  else none

/-- The bench of a PARAM_WRITE's bank. -/
def pwBench (p : Packet) : Nat := pk p 24 6 / 0x1000000

/-- A resource prevents the command. -/
def State.resourceBusy (s : State) (p : Packet) (c : DWord) : Bool :=
  let held := s.commitsHeld
  4096 ≤ s.commitCount ||
  ((commitKey p).isSome && held.any (fun x => commitKey x.2.2 == commitKey p)) ||
  (pkOpcode p == 0x0200 && 4 ≤ (held.filter (fun x => pkOpcode x.2.2 == 0x0200 && x.1 == pkDom p && x.2.1 == c &&
    pwBench x.2.2 == pwBench p)).length) ||
  (pkOpcode p == 0x0403 && s.dmaState (pk p 24 1) != 0 && s.dmaState (pk p 24 1) != 3)

/-- The unit's state refuses the command: STANDBY or a change to or from it (18 R552, log entry 145), or a debug unlock between
LEAVING and OPEN (19 R567). -/
def State.stateBusy (s : State) (p : Packet) : Bool :=
  let f := pkOpcode p / 256
  (s.fld A.sysPwr 2 2 != 2 && !(f == 0 || f == 5 || f == 6 || f == 9 || pkOpcode p == 0x0801)) ||
  ((s.fld A.dbgStat 0 2 == 1 || s.fld A.dbgStat 0 2 == 2) && f != 0 && f != 5)

/-! ## Acceptance -/

/-- A pending flag of a page pair is set (03 R108, 04 R132, R153, 11 R368, 12 R402). -/
def State.setPend (s : State) (p : Packet) : State :=
  match pkOpcode p with
  | 0x0300 => s.setFld A.fabStat 2 1 1
  | 0x0301 => s.setFld (A.fthStat (pk p 24 1)) 2 1 1
  | 0x0400 => s.setFld (A.pgStat (pk p 24 1)) 3 1 1
  | 0x0401 => s.setFld A.netStat 2 1 1
  | 0x0402 => s.setFld A.chStat 14 1 1
  | _ => s

/-- An accepted slot-map page is expanded with the SLOTS of its clock groups (03 R103), each of which has to change over to it
(R109). -/
def State.mapAccepted (s : State) (p : Packet) (c : DWord) : State :=
  if pkOpcode p = 0x0400 then
    let g := pk p 24 1
    let s1 := { s with smap := tset [] s.smap (g * 2 + (1 - s.pgActive g)) (s.slotsNow g) }
    s1 |> upTo 8 fun s i => s.modGroup (8 * g + i) fun x => { x with due := some (pkDom p, c) }
  else s

/-- An accepted command waits for its grain (02 R75); the copy of a LOAD_IMAGE starts (R470). -/
def State.acceptCommit (s : State) (p : Packet) (c : DWord) (origin : BitVec 8) : State :=
  let x : Commit := ⟨BitVec.ofNat 16 (pkOpcode p), pkDom p, c, p, pkSeq p, origin, 0⟩
  let img := if pkOpcode p = 0x0100 then [(⟨p, false⟩ : ImageCopy)] else []
  let s1 := (s.setPend p).mapAccepted p c
  { s1 with cmds := { s1.cmds with commits := s1.cmds.commits ++ [x], images := s1.cmds.images ++ img } }

/-- The link index of an origin in a record of R465: 0xFF where it held none. -/
def State.originIndex (s : State) (o : Origin) : BitVec 8 :=
  match o with
  | .chain i _ _ _ => i
  | _ => s.ownSrc

end Sys2Proof.Machine
end

