-- ==== Sys2Proof/Machine/Operands.lean ====
section
/-! DEFINITION. The operands of a grain core: its registers, the results in flight (06 R189-R194, 09 R303-R307), its
segments (06 R208-R217) and the offsets of its accesses (07 R246, 08 R294, R295). -/

namespace Sys2Proof.Machine

/-! ## Registers -/

def State.sreg (s : State) (c n : Nat) : Word := tget 0 (s.core c).s n
def State.areg (s : State) (c n : Nat) : Word := tget 0 (s.core c).a n
/-- p0 reads as all ones (R192). -/
def State.preg (s : State) (c n : Nat) : DWord := if n = 0 then BitVec.allOnes 64 else tget 0 (s.core c).p n
/-- A pair s[n], s[n+1], n even (R190). -/
def State.spair (s : State) (c n : Nat) : DWord := s.sreg c (n + 1) ++ s.sreg c n

/-- CORE_CFGACT: the values of CORE_CFG in effect (R204). -/
def State.predMode (s : State) (c : Nat) : Bool := s.bit (coreReg A.coreCfgact c) 0
def State.halfWidth (s : State) (c : Nat) : Bool := s.bit (coreReg A.coreCfgact c) 1
def State.wcf (s : State) (c : Nat) : Bool := s.bit (coreReg A.coreCfgact c) 2
def State.dzt (s : State) (c : Nat) : Bool := s.bit (coreReg A.coreCfgact c) 3
def State.ftz (s : State) (c : Nat) : Bool := s.bit (coreReg A.coreCfgact c) 4
def State.fact (s : State) (c : Nat) : Nat := s.fld (coreReg A.coreCfgact c) 5 2

/-- The lanes within the width in effect (R193, 08 R271). -/
def State.width (s : State) (c : Nat) : Nat := if s.halfWidth c then 8 else 16
def State.widthMask (s : State) (c : Nat) : BitVec 16 := if s.halfWidth c then 0x00FF else 0xFFFF

/-- A v register: lanes 8 to 15 read as 0 in half width (R193). -/
def State.vreg (s : State) (c n : Nat) : BitVec 512 :=
  let x := tget 0 (s.core c).v n
  if s.halfWidth c then (x.setWidth 256).setWidth 512 else x

/-- fN is lane 0 of vN (R191). -/
def State.freg (s : State) (c n : Nat) : Word := (tget 0 (s.core c).v n).setWidth 32

/-- The 16-bit lane mask of a predicate of lanes. -/
def maskOf (f : Nat → Bool) : BitVec 16 :=
  BitVec.ofNat 16 ((List.range 16).foldr (fun i x => b2n (f i) + 2 * x) 0)

/-- The active lanes of an operation with governing predicate PG (08 R272, R273). -/
def State.active (s : State) (c pg : Nat) : BitVec 16 :=
  maskOf (fun i => i < s.width c && (s.preg c pg).getLsbD (4 * i))

/-- The condition of a long operation (R199-R201); a short one always executes. -/
def State.condTrue (s : State) (c cond : Nat) : Bool :=
  if s.predMode c then predCond cond (s.preg c (cond % 8)) else flagCond cond (s.core c).flg.toNat

/-! ## Results in flight (09 R304, R305) -/

/-- A result of the bundle at E1 with an exposed latency (R304). -/
def State.sched (s : State) (c slot lat : Nat) (tgt : Tgt) (val : BitVec 512) : State :=
  s.modCore c fun k => { k with pws := pwInsert ⟨k.t + lat, k.t, slot, tgt, val⟩ k.pws }

def State.schedS (s : State) (c slot lat n : Nat) (v : Word) : State :=
  s.sched c slot lat (.s (BitVec.ofNat 6 n)) (v.setWidth 512)
def State.schedPair (s : State) (c slot lat n : Nat) (v : DWord) : State :=
  (s.schedS c slot lat n (v.setWidth 32)).schedS c slot lat (n + 1) ((v >>> 32).setWidth 32)
def State.schedA (s : State) (c slot n : Nat) (v : Word) : State :=
  s.sched c slot 1 (.a (BitVec.ofNat 4 n)) (v.setWidth 512)
def State.schedV (s : State) (c slot lat n : Nat) (lanes : BitVec 16) (v : BitVec 512) : State :=
  s.sched c slot lat (.v (BitVec.ofNat 5 n) lanes) v
def State.schedP (s : State) (c slot lat n : Nat) (v : DWord) : State :=
  s.sched c slot lat (.p (BitVec.ofNat 3 n)) (v.setWidth 512)
/-- A flag write; one that names no field is none. -/
def State.schedFlg (s : State) (c slot lat : Nat) (f : FlgW) : State :=
  if f.1 = 0 then s else s.sched c slot lat (.flg (BitVec.ofNat 32 f.1)) (BitVec.ofNat 512 f.2)

/-- A vector with the lanes of a mask taken from another. -/
def mixLanes (m : BitVec 16) (old new : BitVec 512) : BitVec 512 :=
  vecOf (fun i => if m.getLsbD i then lane new i else lane old i)

/-- A result reaches its register (R194: fields of FLG not named keep their value; R193: half width). -/
def applyPW (half : Bool) (k : Core) (x : PW) : Core :=
  match x.tgt with
  | .s n => { k with s := tset 0 k.s n.toNat (x.val.setWidth 32) }
  | .a n => { k with a := tset 0 k.a n.toNat (x.val.setWidth 32) }
  | .v n lanes =>
    let m := if half then lanes &&& 0x00FF else lanes
    { k with v := tset 0 k.v n.toNat (mixLanes m (tget 0 k.v n.toNat) x.val) }
  | .p n => { k with p := tset 0 k.p n.toNat (x.val.setWidth 64) }
  | .flg bits => { k with flg := (k.flg &&& ~~~bits) ||| (x.val.setWidth 32 &&& bits) }
  | .lc n => { k with lc := tset 0 k.lc n.toNat (x.val.setWidth 32) }
  | .ls n => { k with ls := tset 0 k.ls n.toNat (x.val.setWidth 32) }
  | .le n => { k with le := tset 0 k.le n.toNat (x.val.setWidth 32) }
  | .seg n => { k with segs := tset Seg.null k.segs n.toNat ⟨x.val.setWidth 7, (x.val >>> 7).setWidth 128, true⟩ }

/-! ## Accumulators (08 R282-R285) -/

/-- Lane i of an accumulator as a signed 72-bit number. -/
def accLane (v : BitVec 1152) (i : Nat) : Int := sgn (v.toNat / 2 ^ (72 * i)) 72

/-- An accumulator of lanes given as integers in the 72-bit range. -/
def accOf (f : Nat → Int) : BitVec 1152 :=
  BitVec.ofNat 1152 ((List.range 16).foldr (fun i x => wrapN (f i) 72 + 2 ^ 72 * x) 0)

/-- The exact new value of a lane under a change (R282). -/
def accNew (fn : AccFn) (old : Int) (x y : Word) : Int :=
  match fn with
  | .mac => old + x.toInt * y.toInt
  | .msu => old - x.toInt * y.toInt
  | .maci => old + sgn x.toNat 24 * sgn y.toNat 24
  | .load sh => x.toInt * 2 ^ sh.toNat
  | .clear => 0

/-- An accumulator change is made (R282, R283): saturated to 72 bits; a saturating lane sets S (R275). -/
def applyAcc (half : Bool) (k : Core) (x : AccChg) : Core :=
  let old := tget 0 k.va x.n.toNat
  let on (i : Nat) : Bool := x.lanes.getLsbD i && (!half || i < 8)
  let new (i : Nat) : Int := accNew x.fn (accLane old i) (lane x.x i) (lane x.y i)
  let sat := (List.range 16).any (fun i => on i && satI (new i) 72 != new i)
  { k with va := tset 0 k.va x.n.toNat (accOf (fun i => if on i then satI (new i) 72 else accLane old i)),
           flg := if sat then k.flg ||| BitVec.ofNat 32 fS else k.flg }

/-- Counted bundle number t begins: every accumulator change and every result whose point has come is made. -/
def takeDue (half : Bool) (k : Core) (t : Nat) : Core :=
  let k1 := (k.accs.filter (fun x => x.due ≤ t)).foldl (applyAcc half) k
  let k2 := (k1.pws.filter (fun x => x.due ≤ t)).foldl (applyPW half) k1
  { k2 with accs := k.accs.filter (fun x => t < x.due), pws := k.pws.filter (fun x => t < x.due) }

/-- Every result in flight is written, in order of write point (R307). No latency exceeds 16 bundles. -/
def State.flush (s : State) (c : Nat) : State :=
  s.modCore c fun k => (List.range 16).foldl (fun x i => takeDue (s.halfWidth c) x (k.t + i + 1)) k

/-! ## Segments (06 R208-R217) -/

def dBase (d : BitVec 128) : Nat := bitsAt d.toNat 0 48
def dGen (d : BitVec 128) : Nat := bitsAt d.toNat 48 16
def dLimit (d : BitVec 128) : Nat := bitsAt d.toNat 64 32
def dV (d : BitVec 128) : Bool := bitAt d.toNat 96
def dR (d : BitVec 128) : Bool := bitAt d.toNat 97
def dW (d : BitVec 128) : Bool := bitAt d.toNat 98
def dX (d : BitVec 128) : Bool := bitAt d.toNat 99
def dF (d : BitVec 128) : Bool := bitAt d.toNat 100
/-- CLASS: 0 MEMORY, 1 CONTROL, 2 STACK. -/
def dClass (d : BitVec 128) : Nat := bitsAt d.toNat 101 2

/-- Descriptor i of core c (R209); an entry with an uncorrectable error acts as a null descriptor (17 R528). -/
def State.descOf (s : State) (c i : Nat) : BitVec 128 :=
  if s.bad 3 (c * 128 + i) then 0
  else BitVec.ofNat 128 (natOf ((List.range 4).flatMap
    (fun k => bytesOf (s.tab (A.desc ((c * 128 + i) * 4 + k))).toNat 4)))

/-- Segment register n of a core. -/
def State.segReg (s : State) (c n : Nat) : Seg := tget Seg.null (s.core c).segs n

/-- The access that a fault record names: segment register, offset, whether a write (R232). -/
structure FltAcc where
  seg : Nat
  addr : Option Word
  wr : Bool
  deriving DecidableEq, Repr

/-- A fault of a core: cause (R227), the slot of the operation, its access, the vector element (R232). What a record does
not have is a free value in the registers (log entry 43). -/
structure FltRec where
  cause : Nat
  slot : Option Nat
  acc : Option FltAcc
  elem : Option Nat
  deriving DecidableEq, Repr

/-- Cause codes of R227. -/
def cILLEGAL : Nat := 0x01
def cFETCH : Nat := 0x02
def cFETCHECC : Nat := 0x03
def cSEGNULL : Nat := 0x04
def cSEGCLASS : Nat := 0x05
def cSEGSTALE : Nat := 0x06
def cSEGPERM : Nat := 0x07
def cSEGLIMIT : Nat := 0x08
def cMAP : Nat := 0x09
def cALIGN : Nat := 0x0A
def cDZ : Nat := 0x0B

def fltOp (cause slot : Nat) : FltRec := ⟨cause, some slot, none, none⟩
def fltIllegal (slot : Nat) : FltRec := fltOp cILLEGAL slot

/-- A control address that a core reaches: its bench page, or its own claim block (01 R30). -/
def coreCtlOk (c a : Nat) : Bool :=
  let o := a - ctlBase
  inCtl a && ((A.coreCfg (c / 8) 0 ≤ o && o < A.coreCfg (c / 8 + 1) 0) ||
    (A.evtClaim c ≤ o && o < A.evtClaim (c + 1)))

/-- The first cause, in the order of R227, for which an access of `size` bytes at offset o through a descriptor faults. -/
def accessCause (c : Nat) (d : BitVec 128) (o : Int) (size : Nat) (wr : Bool) : Option Nat :=
  if !dV d then some cSEGNULL
  else if (wr && (!dW d || dF d)) || (!wr && !dR d) then some cSEGPERM
  else if o < 0 || (dLimit d : Int) < o + size - 1 then some cSEGLIMIT
  else if dClass d = 1 && !coreCtlOk c (dBase d + o.toNat) then some cMAP
  else if o % size != 0 || (dClass d = 1 && size != 4) then some cALIGN
  else none

/-- A scalar access that faults (R227-R229). -/
def State.accessFault (s : State) (c slot seg : Nat) (o : Int) (size : Nat) (wr : Bool) : Option FltRec :=
  (accessCause c (s.segReg c seg).desc o size wr).map fun k => ⟨k, some slot, some ⟨seg, some (BitVec.ofInt 32 o), wr⟩, none⟩

/-- The global address of an offset in a segment. -/
def State.addrOf (s : State) (c seg : Nat) (o : Int) : Nat := dBase (s.segReg c seg).desc + o.toNat

/-- What a load's exposed latency depends on (R248). -/
inductive Region where
  | own
  | other
  | far
  | ctl
  deriving DecidableEq, Repr

def regionOf (c a : Nat) : Region :=
  if inBanks a then (if benchOfBank (bankOf a) = c / 8 then .own else .other)
  else if inFar a then .far
  else .ctl

/-- Exposed latency of a load by region (R248). -/
def Region.latency : Region → Nat
  | .own => 4
  | .other => 9
  | .far => 6
  | .ctl => 4

/-- A pair names an even register (R190). -/
def oddPair (n : Nat) : Bool := n % 2 == 1

end Sys2Proof.Machine
end

