-- ==== Sys2Proof/Machine/CoreCtl.lean ====
section
/-! DEFINITION. A grain core's programs: how they start and end, ABANDON, faults, core reset, halts (02 R54-R65, 06
R203-R205, R227-R234, 15 R491-R494, 18 R547, 19 R569-R571). -/

namespace Sys2Proof.Machine

/-- CORE_STAT.STATE (06 R205): 0 STOPPED, 1 WAITING, 2 RUNNING, 3 HALTED, 4 RESET. An event program leaves it as it was
before the start (15 R493). -/
def State.coreState (s : State) (c : Nat) : Nat :=
  let k := s.core c
  if k.resetting then 4
  else if k.halted then 3
  else if !bitAt k.gctl.toNat 0 then 0
  else if k.prog == .grain then 2
  else 1

/-! ## Performance counters (09 R325, R326) -/

/-- The counters count: EN is 1 and STATE is RUNNING. -/
def State.perfOn (s : State) (c : Nat) : Bool := s.bit (coreReg A.perfCtl c) 0 && s.coreState c == 2

/-- Adds n to a count field that holds at its largest value. -/
def State.addFld (s : State) (off lo w n : Nat) : State := s.setFld off lo w (Nat.min (2 ^ w - 1) (s.fld off lo w + n))

/-- Counts n in a counter of core c. -/
def State.perf (s : State) (c : Nat) (r : Nat → Nat → Nat) (n : Nat) : State :=
  if s.perfOn c then s.addFld (coreReg r c) 0 32 n else s

/-- Counts the cycles of a stall, of which the model holds no number (log entry 45). -/
def State.perfStall (s : State) (c : Nat) (r : Nat → Nat → Nat) : State :=
  if s.perfOn c then (s.addFld (coreReg r c) 0 32 (Config.freeWord s.fresh).toNat).stir else s

/-- Counts the cycles or accesses of which the model knows only the greatest number (log entry 45). -/
def State.perfUpTo (s : State) (c : Nat) (r : Nat → Nat → Nat) (n : Nat) : State :=
  if s.perfOn c then (s.addFld (coreReg r c) 0 32 ((Config.freeWord s.fresh).toNat % (n + 1))).stir else s

/-- The counters that a grain start clears with `PERF_CTL.GRAIN`: offsets 0x804 to 0x834. -/
def perfRegs : List (Nat → Nat → Nat) :=
  [A.perfBundles, A.perfBubble, A.perfMisp, A.perfFetch, A.perfRot, A.perfLine, A.perfSb, A.perfXb, A.perfFwmiss,
   A.perfFwcnt, A.perfCtlreg, A.perfWait, A.perfWpf]

def State.perfClear (s : State) (c : Nat) (rs : List (Nat → Nat → Nat)) : State :=
  rs.foldl (fun s r => s.setReg (coreReg r c) 0) s

def State.perfGrain (s : State) (c : Nat) : State :=
  if s.bit (coreReg A.perfCtl c) 1 then s.perfClear c perfRegs else s

/-- The entry point of the grain program: `CORE_GENTRY.OFFSET` × 4 in effect (02 R61). -/
def grainEntry (k : Core) : Word := k.gentry

/-- An STX that waits, with another write point. -/
def Drain.dueAt (d : Drain) (t : Nat) : Drain :=
  match d with
  | .stx x a _ v => .stx x a t v
  | d => d

/-- What every end of a program does (02 R55, R64, 07 R263, R268, 09 R307): results in flight are written, the
reservation is cleared, younger bundles are discarded, and pc is the grain entry point; banks on loan go back (05 R182)
and a held event source is released (15 R499). -/
def State.endProgram (s : State) (c : Nat) : State :=
  let s1 := (s.flush c).modCore c fun k =>
    { k with res := match k.drain with | .stx _ _ _ _ => k.res | _ => none, drain := k.drain.dueAt (k.t + 1), fpath := [], dslot := none, annul := false, regTgt := false, pc := grainEntry k,
             prog := .none, waiting := false, brkSkip := false, noDl := false, dlPend := false,
             jobs := k.jobs.map (fun j => { j with due := k.t + 1 }) }
  ((s1.setFld (A.evtCstat c) 13 1 0).releaseLoans c).autoRelease c

/-- The ABANDON of 02 R64: the loop counts are 0 as well, and nothing of the program waits any more. -/
def State.abandon (s : State) (c : Nat) : State :=
  (s.endProgram c).modCore c fun k =>
    { k with lc := [], jobs := [], drain := .none, lockWait := none, squash := true,
             locks := k.locks.filter (fun l => l.taken) }

/-- The ABANDON of an event program that its bench's grain start cuts (15 R494): it waits for no stall, so what is in flight
from memory is written as it returns (09 R307), a RET's target apart; an STX that has not been made fails with its reservation. -/
def State.abandonCut (s : State) (c : Nat) : State :=
  let k0 := s.core c
  (s.endProgram c).modCore c fun k =>
    { k with lc := [], drain := .none, lockWait := none, squash := true, res := none,
             jobs := k.jobs.map (fun j => { j with ldx := false, elems := j.elems.filter (fun x => x.dst != .ret) }),
             locks := (k.locks.filter (fun l => l.taken)).map (fun l => { l with last := Nat.min l.last k.t }),
             pws := match k0.drain with
               | .stx x _ _ _ => pwInsert ⟨k.t + 1, k.t, x.slot.val, .s (x.ext.setWidth 6), 0⟩ k.pws
               | _ => k.pws }

/-- A core is inside a LOCK sequence (07 R265). -/
def inLock (k : Core) : Bool := k.locks.any (fun l => k.t < l.last)

/-- A core is in a whole-core stall (09 R306). -/
def stalled (k : Core) : Bool :=
  !k.jobs.isEmpty || !k.sbWait.isEmpty || k.drain != .none || k.lockWait.isSome

/-- Takes a core out of the grain programs: `CORE_GCTL.GEN` becomes 0, at once (06 R231). -/
def State.stopGen (s : State) (c : Nat) : State :=
  (s.setFld (coreReg A.coreGctl c) 0 1 0).modCore c fun k => { k with gctl := fput k.gctl 0 1 0, trigWait := false }

/-- The fault record (06 R232, R233): the first fault after VALID was cleared; a further one sets OVF. `code`: a fault of a
fetch, an access of the code segment at the pc. What the fault does not have is a free value (log entry 43). -/
def State.recordFault (s : State) (c : Nat) (f : FltRec) (pc npc : Word) (ds : Bool) (code : Bool) : State :=
  let k := s.core c
  let st := coreReg A.fltStat c
  let s1 := s.count (coreReg A.coreFltcnt c) 0 32
  if s1.bit st 0 then s1.setFld st 1 1 1
  else
    let r := (Config.freeWord s.fresh).toNat
    let wr := match f.acc with | some a => a.wr | none => false
    let seg := match f.acc with | some a => a.seg | none => bitsAt r 0 3
    let addr := match f.acc with
      | some a => a.addr.getD (Config.freeWord (s.fresh + 1))
      | none => if code then pc else Config.freeWord (s.fresh + 1)
    let desc : Word :=
      let g := if code then some k.code else f.acc.map (fun a => s.segReg c a.seg)
      match g with
      | some g => BitVec.ofNat 32 (g.idx.toNat + dGen g.desc * 2 ^ 16)
      | none => Config.freeWord (s.fresh + 2) &&& 0xFFFF007F
    let v := 1 + f.cause * 2 ^ 8 + f.slot.getD (bitsAt r 3 3) * 2 ^ 16 + b2n ds * 2 ^ 19 + b2n wr * 2 ^ 20 +
      b2n f.elem.isSome * 2 ^ 21 + f.elem.getD (bitsAt r 6 4) * 2 ^ 22 + seg * 2 ^ 26
    let s2 := s1.setReg st (BitVec.ofNat 32 (v + b2n (s1.bit st 1) * 2))
    let s3 := (s2.setReg (coreReg A.fltPc c) pc).setReg (coreReg A.fltAddr c) addr
    let s4 := ((s3.setReg (coreReg A.fltDesc c) desc).setReg (coreReg A.fltNpc c) npc).setReg (coreReg A.fltGsn c) k.gsn
    { s4 with fresh := s4.fresh + 3 }

/-! ## LOCK (07 R265) -/

/-- The lock of a bank that no other core's sequence holds: taken only if the bank lies in the core's own bench, the core
owns it and it is ON; the status to RT at latency 1. -/
def State.takeLock (s : State) (c : Nat) (w : LockWait) : State :=
  let n := bankOf w.addr
  let ok := inBanks w.addr && benchOfBank n == c / 8 && s.owner n == c && s.awake n
  s.modCore c fun k =>
    { k with lockWait := none, locks := k.locks ++ [⟨n, w.bundle + 1, w.bundle + w.n, ok⟩],
             pws := pwInsert ⟨w.bundle + 1, w.bundle, w.slot, .s w.rt, BitVec.ofNat 512 (b2n ok)⟩ k.pws }

/-- A LOCK waits while another core's sequence holds the bank. -/
def State.lockHeld (s : State) (c : Nat) (w : LockWait) : Bool :=
  inBanks w.addr && s.lockedFor (bankOf w.addr) c

/-- The cores that wait with a LOCK make their test where the bank is free now, the lowest number first (log entry 44). -/
def State.grantLocks (s : State) : State :=
  (s.cores.map (fun e => e.1)).foldl (init := s) fun s c =>
    match (s.core c).lockWait with
    | some w => if s.lockHeld c w then s else (s.perfStall c A.perfWait).takeLock c w
    | none => s

/-- The action of FACT after a fault (06 R231): 0 ABANDON, 1 STOP, 2 HALT with pc at the bundle (on a sealed unit as
STOP). Bank loans end under each of them (05 R182). -/
def State.faultAction (s : State) (c : Nat) (pc : Word) : State :=
  if s.fact c = 0 then s.abandon c
  else if s.fact c = 2 ∧ s.debugOpen then
    (s.releaseLoans c).modCore c fun k => { k with pc := pc, squash := true, dslot := k.ds, haltPend := some 2 }
  else (s.abandon c).stopGen c

/-- A fault of core c (06 R227-R234): no operation of its bundle has any effect; results in flight are written; the record,
source 32, and the action of FACT. A fed or stepped bundle's core stays halted and FACT is not applied (19 R573). The lock of
a sequence that faults is released (07 R266). -/
def State.coreFault (s : State) (c : Nat) (f : FltRec) (pc npc : Word) (ds code : Bool) : State :=
  let s1 := (s.recordFault c f pc npc ds code).raise 32 c f.cause
  let s2 := s1.modCore c fun k =>
    { k with squash := true, res := none, locks := k.locks.filter (fun l => l.last < k.t && l.taken) }
  let s3 := (s2.grantLocks).flush c
  if (s3.core c).halted then
    s3.modCore c fun k =>
      { k with pc := pc, dslot := k.ds, steps := 0, mon := k.mon.map (fun m => { m with fault := true }) }
  else s3.faultAction c pc

/-- A fault of an operation of the bundle at E1; in a delay slot the record holds the target (06 R230). -/
def State.opFaulted (s : State) (c : Nat) (f : FltRec) : State :=
  let k := s.core c
  s.coreFault c f k.bpc (match k.ds with | some x => x.2 | none => k.npc) k.ds.isSome false

/-! ## Starts (02 R54-R58, 06 R215, R217, 15 R493) -/

/-- Reloads a segment register whose cached GEN is stale (06 R215); one that nothing has loaded since the core reset has no
descriptor to reload from, and stays null (06 R216). -/
def reloadSeg (s : State) (c : Nat) (g : Seg) : Seg :=
  let d := s.descOf c g.idx.toNat
  if !g.loaded || dGen g.desc = dGen d then g else { g with desc := d }

/-- The segment registers at a grain start or an event start: stale ones reloaded. -/
def State.reloadSegs (s : State) (c : Nat) : State :=
  s.modCore c fun k => { k with
    segs := ((List.range 8).map (fun n => (n, reloadSeg s c (tget Seg.null k.segs n)))).filter (fun e => e.2 != Seg.null) }

/-- The code segment is the descriptor of an index (06 R217, 15 R493). -/
def State.loadCode (s : State) (c i : Nat) : State :=
  s.modCore c fun k => { k with code := ⟨BitVec.ofNat 7 i, s.descOf c i, true⟩ }

/-- The grain program of the bench's grain starts: the core fetches its entry bundle, and gsn takes the grain number
(02 R54, R56). -/
def State.beginGrain (s : State) (c : Nat) : State :=
  let g := (s.bench (c / 8)).grain
  s.modCore c fun k =>
    { k with prog := .grain, pc := grainEntry k, grain := g, gsn := g.setWidth 32, trigWait := false, trigHit := false,
             trigPast := false, waiting := false, fpath := [], dslot := none, annul := false,
             regTgt := false, squash := false, dlPend := false }

/-- The trigger word lies in a bank of the core's own bench (02 R59). -/
def trigOwn (c : Nat) (k : Core) : Bool :=
  inBanks k.trig.toNat && benchOfBank (bankOf k.trig.toNat) == c / 8

/-- A core whose trigger is enabled waits for it from the grain start on (02 R57, R59). -/
def State.awaitTrigger (s : State) (c : Nat) : State :=
  (s.setFld (coreReg A.coreGstat c) 3 1 (b2n (!trigOwn c (s.core c)))).modCore c fun k =>
    { k with trigWait := true, trigHit := false, trigPast := false }

/-- The grain's code segment: descriptor ENSEG as it stands at the grain start (06 R217). -/
def State.grainCode (s : State) (c : Nat) : State := s.loadCode c (fget (s.core c).gctl 4 7)

/-- The core's start in a grain: at once, or at its trigger (02 R54, R57). LATESTART, TMISS and TBAD are those of the
current program (R61). DESIGN CHOICE (log entry 118): TBAD tells of a trigger that is enabled, and is 0 with TEN 0. -/
def State.startGrainWork (s : State) (c : Nat) : State :=
  let s1 := (((s.grainCode c).setFld (coreReg A.coreGstat c) 1 1 0).setFld (coreReg A.coreGstat c) 2 1 0).setFld
    (coreReg A.coreGstat c) 3 1 0
  if bitAt (s1.core c).gctl.toNat 2 then s1.awaitTrigger c else s1.beginGrain c

/-- A core that ran late under FINISH starts the grain it owes (02 R65): at once, or by the trigger of that grain. DESIGN CHOICE
(log entry 119): its segment registers and its code segment are reloaded at this start, not at its bench's grain start,
through which the older program runs. -/
def State.startLate (s : State) (c : Nat) : State :=
  let k := s.core c
  let s1 := (((s.reloadSegs c).grainCode c).setFld (coreReg A.coreGstat c) 1 1 1).setFld (coreReg A.coreGstat c) 2 1 0
  if !bitAt k.gctl.toNat 2 then (s1.setFld (coreReg A.coreGstat c) 3 1 0).beginGrain c
  else
    let s2 := s1.setFld (coreReg A.coreGstat c) 3 1 (b2n (!trigOwn c k))
    if k.trigHit then s2.beginGrain c
    else if k.trigPast then (s2.setFld (coreReg A.coreGstat c) 2 1 1).beginGrain c
    else s2.modCore c fun k => { k with trigWait := true }

/-- An ABANDON that waited for a stall or a LOCK sequence is made when neither holds any more (R64); the core then starts
the program of its bench's grain where that grain has begun meanwhile. -/
def State.settle (s : State) (c : Nat) : State :=
  let k := s.core c
  if k.dlPend && !stalled k && !inLock k then
    let behind := k.prog == .grain && k.grain != (s.bench (c / 8)).grain
    let s1 := s.abandon c
    if behind && bitAt (s1.core c).gctl.toNat 0 then (s1.reloadSegs c).startGrainWork c else s1
  else s

/-- ABANDON now, or when the stall or the LOCK sequence ends (R64). -/
def State.abandonSoon (s : State) (c : Nat) : State :=
  (s.modCore c fun k => { k with dlPend := true }).settle c

/-- A missed deadline (02 R63): counted, the grain recorded, source 16 with the domain and the overrun action. -/
def State.missDeadline (s : State) (c : Nat) (g : DWord) : State :=
  let s1 := (s.count (coreReg A.coreDlcnt c) 0 32).setReg (coreReg A.coreDllast c) (g.setWidth 32)
  s1.raise 16 c (s.benchDom (c / 8) + b2n (bitAt (s.core c).gctl.toNat 1) * 4)

/-! ## Core reset (18 R547) -/

/-- A core reset begins: a running program ends under ABANDON, queued stores are written before it ends, results in
flight are discarded, STATE reads RESET. -/
def State.beginReset (s : State) (c : Nat) : State :=
  let s1 := s.modCore c fun k => { k with pws := [], accs := [] }
  let s2 := if (s1.core c).prog == .none then (s1.releaseLoans c).autoRelease c else s1.abandon c
  let s3 := s2.modCore c fun k =>
    { k with resetting := true, halted := false, steps := 0,
             haltPend := if k.mon.isSome then some (k.haltPend.getD 3) else none, fpath := [], locks := [], res := none,
             trigWait := false, jobs := [], drain := .none, lockWait := none }
  s2.thawFrom (s3.grantLocks)

/-- CORE_RESET_DONE (R547): the registers take their values; CM, VL and WCF come into effect (06 R204). The grain registers are
in effect with it, since the core then stands STOPPED or WAITING as `CORE_GCTL.GEN` holds (log entry 41). -/
def coreResetDone (c : CoreId) (s : State) : State :=
  let k := s.core c.val
  if k.resetting && k.sb.isEmpty && k.sbWait.isEmpty && s.benchUp (c.val / 8) then
    let cfg := s.rawReg (coreReg A.coreCfg c.val)
    let s1 := s.setFld (coreReg A.coreCfgact c.val) 0 3 (fget cfg 0 3)
    s1.modCore c.val fun k =>
      { Core.init with gctl := s.rawReg (coreReg A.coreGctl c.val), gentry := s.rawReg (coreReg A.coreGentry c.val),
                       gdl := s.rawReg (coreReg A.grainDl c.val), trig := s.rawReg (coreReg A.coreTrig c.val),
                       tlatest := s.rawReg (coreReg A.coreTrigLatest c.val), pc := s.rawReg (coreReg A.coreGentry c.val),
                       grain := k.grain, gsn := k.gsn, t := k.t, digs := k.digs,
                       haltPend := k.haltPend, mon := k.mon }
  else s

/-! ## The commands -/

/-- CORE_RESET_DONE (18 R547). -/
def execCoreResetDone (c : CoreId) (s : State) : Host.Outcome State Fault Refusal := finish s (coreResetDone c s)

end Sys2Proof.Machine
end

