-- ==== Sys2Proof/Machine/Sha.lean ====
section
/-! DEFINITION. SHA-256 of FIPS 180-4, as the digest of 16 R517 needs it. -/

namespace Sys2Proof.Machine

/-- Eight words written as one number, the first at the top. -/
def shaRow (x : Nat) : List Word := (List.range 8).map fun i => BitVec.ofNat 32 (x / 2 ^ (32 * (7 - i)))

/-- The round constants, eight to a row. -/
def shaK : List Word :=
  List.flatMap shaRow
   [0x428a2f9871374491b5c0fbcfe9b5dba53956c25b59f111f1923f82a4ab1c5ed5,
    0xd807aa9812835b01243185be550c7dc372be5d7480deb1fe9bdc06a7c19bf174,
    0xe49b69c1efbe47860fc19dc6240ca1cc2de92c6f4a7484aa5cb0a9dc76f988da,
    0x983e5152a831c66db00327c8bf597fc7c6e00bf3d5a7914706ca635114292967,
    0x27b70a852e1b21384d2c6dfc53380d13650a7354766a0abb81c2c92e92722c85,
    0xa2bfe8a1a81a664bc24b8b70c76c51a3d192e819d6990624f40e3585106aa070,
    0x19a4c1161e376c082748774c34b0bcb5391c0cb34ed8aa4a5b9cca4f682e6ff3,
    0x748f82ee78a5636f84c878148cc7020890befffaa4506cebbef9a3f7c67178f2]

/-- The initial hash value. -/
def shaInit : List Word :=
  shaRow 0x6a09e667bb67ae853c6ef372a54ff53a510e527f9b05688c1f83d9ab5be0cd19

/-- Three rotations of a word, added without carry. -/
def shaRot (x : Word) (i j k : Nat) : Word := x.rotateRight i ^^^ x.rotateRight j ^^^ x.rotateRight k

/-- A big-endian word of four bytes. -/
def beWord (bs : List Byte) : Word := BitVec.ofNat 32 (bs.foldl (fun x b => x * 256 + b.toNat) 0)

/-- The words of a message schedule after those given, the most recent first. -/
def shaExpand : Nat → List Word → List Word
  | 0, w => w
  | n + 1, w =>
    let ago := fun k => w.getD (k - 1) 0
    let mixed := fun (x : Word) i j k => x.rotateRight i ^^^ x.rotateRight j ^^^ x >>> k
    shaExpand n ((mixed (ago 2) 17 19 10 + ago 7 + mixed (ago 15) 7 18 3 + ago 16) :: w)

/-- One round on the working variables a to h. -/
def shaRound (v : List Word) (kw : Word × Word) : List Word :=
  match v with
  | [a, b, c, d, e, f, g, h] =>
    let chosen := g ^^^ (e &&& (f ^^^ g))
    let most := (a &&& (b ||| c)) ||| (b &&& c)
    let x := kw.1 + kw.2 + h + chosen + shaRot e 6 11 25
    [x + most + shaRot a 2 13 22, a, b, c, d + x, e, f, g]
  | _ => v

/-- The words of a block of 64 bytes. -/
def shaWords : Nat → List Byte → List Word
  | 0, _ => []
  | n + 1, bs => beWord (bs.take 4) :: shaWords n (bs.drop 4)

/-- One block. -/
def shaBlock (h : List Word) (block : List Byte) : List Word :=
  let w := (shaExpand 48 (shaWords 16 block).reverse).reverse
  List.zipWith (· + ·) h ((shaK.zip w).foldl shaRound h)

/-- Every block of a padded message. -/
def shaBlocks : Nat → List Word → List Byte → List Word
  | 0, h, _ => h
  | n + 1, h, bs => shaBlocks n (shaBlock h (bs.take 64)) (bs.drop 64)

/-- The hash of a message, as 32 bytes. -/
def sha256 (m : List Byte) : List Byte :=
  let pad := (119 - m.length % 64) % 64
  let full := m ++ [0x80] ++ List.replicate pad 0 ++ (bytesOf (m.length * 8) 8).reverse
  (shaBlocks (full.length / 64) shaInit full).flatMap (fun w => (bytesOf w.toNat 4).reverse)

/-- Bytes 0 to 7 of the hash as a little-endian number (R517). -/
def digest64 (m : List Byte) : DWord := BitVec.ofNat 64 (natOf ((sha256 m).take 8))

end Sys2Proof.Machine
end

