-- ==== Sys2Proof/Machine/Protect.lean ====
section
/-! DEFINITION. Protected set-up (16): proposals, digests, concurrence, application at the commit grain, and the debug
unlock request (14 R483). -/

namespace Sys2Proof.Machine

/-! ## Digests (R517) -/

/-- IDX of the digest header. -/
def State.protIdx (s : State) : Nat :=
  match s.index with
  | some i => if s.paired then i / 2 * 2 else i
  | none => 0xFFFF

/-- The digest of a change: the header of R517, then the entries as staged. -/
def State.protDigest (s : State) (kind dom first count : Nat) (c : DWord) (entries : List Word) : DWord :=
  digest64 (bytesOf kind 1 ++ bytesOf dom 1 ++ bytesOf first 2 ++ bytesOf count 2 ++ bytesOf s.protIdx 2 ++
    bytesOf c.toNat 8 ++ bytesOf 0 8 ++ entries.flatMap (fun w => bytesOf w.toNat 4))

/-! ## PROPOSE (R478, R479, R515) -/

/-- Bytes of an entry and the bound on FIRST + COUNT by KIND (R479). -/
def kindSize (kind : Nat) : Nat × Nat :=
  match kind with
  | 0 => (16, 12288)
  | 1 => (64, 384)
  | 2 => (4, 65536)
  | _ => (4, 64)

def propKind (p : Packet) : Nat := pk p 24 1
def propFirst (p : Packet) : Nat := pk p 26 2
def propCount (p : Packet) : Nat := pk p 28 2
def propStage (p : Packet) : Nat := pk p 32 4

/-- The staged entries as words. -/
def State.stagedWords (s : State) (p : Packet) : List Word :=
  (List.range (propCount p * (kindSize (propKind p)).1 / 4)).map (fun i => s.tab (A.staging (propStage p / 4 + i)))

/-- The words of entry i of a change. -/
def entryWords (kind : Nat) (ws : List Word) (i : Nat) : List Word :=
  let n := (kindSize kind).1 / 4
  (ws.drop (i * n)).take n

/-- The rule of an entry n of a KIND (R479). -/
def entryRule (kind n : Nat) (ws : List Word) : Option Nat :=
  match kind with
  | 0 => descCheck (n / 128) (natOf (ws.flatMap (fun w => bytesOf w.toNat 4)))
  | 1 => eligCheck n ws
  | 2 => bindCheck (ws.headD 0)
  | _ => twLaneCheck (ws.headD 0)

/-- The first entry that fails its rule. -/
def entriesBad (kind first : Nat) (ws : List Word) (count : Nat) : Option TabErr :=
  (List.range count).findSome? fun i => (entryRule kind (first + i) (entryWords kind ws i)).map (fun st => ⟨st, some i⟩)

/-- The fields of a PROPOSE, and the first rule of R515. -/
def proposeFields (p : Packet) : List (Bool × Verdict) :=
  let k := propKind p
  let n := propCount p
  let f := propFirst p
  [ (k ≤ 3, .field 24),
    (f < (kindSize k).2, .field 26),
    (1 ≤ n && f + n ≤ (kindSize k).2 && (k != 0 || f / 128 == (f + n - 1) / 128), .field 28),
    (propStage p % 16 == 0 && propStage p + n * (kindSize k).1 ≤ 65536, .field 32) ]

/-- A digest check fails (R526): source 38. -/
def State.digestRefused (s : State) (pid kind concur : Nat) : State := s.raise 38 pid (kind + concur * 2 ^ 8)

/-- Check 7 of a PROPOSE; `sent` is the COMMIT field as sent. -/
def State.proposeCheck (s : State) (p : Packet) (sent : DWord) : State × Option Verdict :=
  match firstFail (proposeFields p) with
  | some v => (s, some v)
  | none =>
    let ws := s.stagedWords p
    match entriesBad (propKind p) (propFirst p) ws (propCount p) with
    | some e => (s, some (.table e))
    | none =>
      if s.protDigest (propKind p) (pkDom p) (propFirst p) (propCount p) sent ws = BitVec.ofNat 64 (pk p 40 8) then (s, none)
      else (s.digestRefused 0 (propKind p) 0, some (.auth 40))

/-- The slots that hold a proposal. -/
def State.proposals (s : State) : List (Nat × Proposal) :=
  s.prot.slots.filterMap fun e => e.2.map (fun x => (e.1, x))

/-- The slot a new proposal takes (R515): a free one, or that of the proposal that lapsed earliest. -/
def State.freeSlot (s : State) : Option Nat :=
  match (List.range 16).find? (fun i => (tget none s.prot.slots i).isNone) with
  | some i => some i
  | none =>
    (s.proposals.filter (fun e => e.2.state == 3)).foldl (init := none) fun b e =>
      match b with
      | none => some e.1
      | some j => match tget none s.prot.slots j with
        | some y => if e.2.lapsedAt < y.lapsedAt then some e.1 else some j
        | none => some j

/-- The rules of R515 that R462 counts under check 9. -/
def State.proposeBusy (s : State) (p : Packet) : Bool :=
  let k := propKind p
  let f := propFirst p
  let n := propCount p
  (k == 2 && (List.range n).any (fun i => s.qState (f + i) != 0)) ||
  s.proposals.any (fun e => e.2.state != 3 && e.2.kind.toNat == k && e.2.first < f + n && f < e.2.first + e.2.count) ||
  s.freeSlot.isNone

/-- The proposal identifier after one (R516): 0 is never assigned. -/
def pidNext (x : Word) : Word := if x = 0xFFFFFFFF then 1 else x + 1

/-- A proposal is recorded (R515, R516, R518). -/
def State.recordProposal (s : State) (p : Packet) (i : Nat) (pid : Word) (c : DWord) (origin : BitVec 8) : State :=
  let x : Proposal :=
    { pid := pid, kind := BitVec.ofNat 8 (propKind p), dom := pkDom p, state := 1, first := propFirst p, count := propCount p,
      grain := c, wend := s.timer + s.fld A.protCwin 0 22, digest := BitVec.ofNat 64 (pk p 40 8), entries := s.stagedWords p,
      seq := pkSeq p, origin := origin, lapsedAt := 0 }
  let s1 := s.setSlot i (some x)
  { s1 with prot := { s1.prot with nextPid := pidNext pid } }

/-- PROPOSE after check 6. `given` (R524): the twin takes the identifier and the commit grain of the ACTIVE member.
Verdict, identifier, commit grain. -/
def State.propose (s : State) (p : Packet) (given : Option (Word × DWord)) (origin : BitVec 8) :
    State × Verdict × Word × DWord :=
  match s.proposeCheck p (pkCommit p) with
  | (t, some v) => (t, v, 0, 0)
  | (t, none) =>
    let g : Verdict × DWord := match given with
      | some x => (t.grainCheck (pkDom p) x.2.toNat, x.2)
      | none => t.commitGrain p
    if g.1 ≠ .ok then (t, g.1, 0, 0)
    else if t.proposeBusy p || t.stateBusy p then (t, .plain stBusy, 0, 0)
    else
      match t.freeSlot with
      | none => (t, .plain stBusy, 0, 0)
      | some i =>
        let pid := match given with | some x => x.1 | none => t.prot.nextPid
        (t.recordProposal p i pid g.2 origin, ⟨stAwait, noDetail, pid.toNat⟩, pid, g.2)

/-! ## CONCUR and WITHDRAW (R480, R518-R521) -/

/-- The proposal has no time left: it has lapsed, its window has ended, or the boundary of C - 1 has come. -/
def State.tooLate (s : State) (x : Proposal) : Bool :=
  x.state == 3 || x.wend ≤ s.timer || !s.domRuns x.dom || x.grain.toNat ≤ (s.dom x.dom).cnt.toNat + 1

/-- The rows of R480 for a CONCUR. `own`: this member's check of the concur window decides (R524). The rows on PID and DIGEST belong to check 7 of 14 R462, COMMIT to check 8. -/
def State.concurCheck (s : State) (p : Packet) (own : Bool) : State × Verdict :=
  let pid := BitVec.ofNat 32 (pk p 24 4)
  let dig := BitVec.ofNat 64 (pk p 40 8)
  match s.slotOf pid with
  | none => (s, .field 24)
  | some (i, x) =>
    if x.state = 2 then (s, .field 24)
    else if x.digest ≠ dig then (s.digestRefused x.pid.toNat x.kind.toNat 1, .auth 40)
    else if pkCommit p ≠ 0 then (s, .field 16)
    else if (if own then s.tooLate x else x.state == 3) then ((if x.state = 3 then s else s.lapse i x).freePid pid, .plain stLate)
    else if 4096 ≤ s.commitCount || s.stateBusy p then (s, .plain stBusy)
    else (s, .ok)

/-- A proposal is concurred. -/
def State.concurred (s : State) (pid : Word) : State :=
  match s.slotOf pid with
  | some (i, x) => s.setSlot i (some { x with state := 2 })
  | none => s

/-- A concurred proposal is accepted for its grain (R521). -/
def State.concurAccept (s : State) (pid : Word) : State :=
  match s.slotOf pid with
  | some (_, x) =>
    let c : Commit := ⟨0x0600, x.dom, x.grain, 0, x.seq, x.origin, x.pid⟩
    { s with cmds := { s.cmds with commits := s.cmds.commits ++ [c] } }
  | none => s

/-- The commit grain of a proposal. -/
def State.pidGrain (s : State) (pid : Word) : DWord := match s.slotOf pid with | some (_, x) => x.grain | none => 0

/-- The rows of R480 for a WITHDRAW. -/
def State.withdrawCheck (s : State) (p : Packet) : Verdict :=
  match s.slotOf (BitVec.ofNat 32 (pk p 24 4)) with
  | some (_, x) =>
    if x.state = 2 then .field 24
    else if pkCommit p ≠ 0 then .field 16
    else if s.stateBusy p then .plain stBusy
    else .ok
  | none => .field 24

/-- PROTECT_LAPSED (R519): a pending proposal that has no time left lapses. -/
def protectLapsed (pid : Word) (s : State) : State :=
  match s.slotOf pid with
  | some (i, x) => if x.state = 1 && s.tooLate x then s.lapse i x else s
  | none => s

/-- Proposals of a domain whose boundary of C - 1 has come lapse (R519). -/
def State.lapseAtBoundary (s : State) (d : Nat) : State :=
  s.proposals.foldl (init := s) fun s e =>
    if e.2.state = 1 ∧ e.2.dom = d ∧ e.2.grain.toNat ≤ (s.dom d).cnt.toNat + 1 then s.lapse e.1 e.2 else s

/-! ## Taking effect (R512, R521, R522) -/

/-- A descriptor takes its new value with the next GEN (06 R211). -/
def State.putDesc (s : State) (n : Nat) (ws : List Word) : State :=
  let gen := s.fld (A.desc (4 * n + 1)) 16 16 % 0xFFFF + 1
  let s1 := (List.range 4).foldl (fun s j => s.setReg (A.desc (4 * n + j)) (ws.getD j 0)) s
  { s1.setFld (A.desc (4 * n + 1)) 16 16 gen with cfgUe := s.cfgUe.filter (fun e => e != (3, n)) }

/-- An eligibility entry takes its new value, and an owner it removes loses the bank (05 R176). -/
def State.putElig (s : State) (n : Nat) (ws : List Word) : State :=
  let s1 := (List.range 8).foldl (fun s j => s.setReg (A.bankElig n j) (ws.getD j 0)) s
  State.evict { s1.setReg (A.bankEligF n) (ws.getD 8 0) with cfgUe := s.cfgUe.filter (fun e => e != (4, n)) } n

/-- A queue's binding takes its new value; its duplicate window is emptied (R512). -/
def State.putBind (s : State) (q : Nat) (w : Word) : State :=
  ({ s.setReg (A.qBind q) w with cfgUe := s.cfgUe.filter (fun e => e != (7, q)) }).seqClear q

/-- A `TW_LANE` word takes its new value; a clock group in RUN keeps its drive rights until its next frame (R512). -/
def State.putLanes (s : State) (i : Nat) (w : Word) : State :=
  let keep := fun (s : State) (k : Nat) =>
    if s.cgState k = 2 ∧ (s.group k).codes = none then
      s.modGroup k fun x => { x with codes := some (BitVec.ofNat 16
        ((List.range 8).foldl (fun n j => n + s.laneCodeNow (8 * k + j) * 4 ^ j) 0)) }
    else s
  let s1 := (keep (keep s (2 * i)) (2 * i + 1)).setReg (A.twLane i) w
  { s1 with cfgUe := s1.cfgUe.filter (fun e => e != (6, i)) }

/-- One entry of a change. -/
def State.putEntry (s : State) (kind n : Nat) (ws : List Word) : State :=
  match kind with
  | 0 => s.putDesc n ws
  | 1 => s.putElig n ws
  | 2 => s.putBind n (ws.headD 0)
  | _ => s.putLanes n (ws.headD 0)

/-- A concurred change at its grain (R521, R522): every entry, or, where a named queue is not DISABLED, none. -/
def State.applyProposal (s : State) (c : Commit) : State :=
  match s.slotOf c.pid with
  | none => s
  | some (i, x) =>
    if x.kind = 2 && (List.range x.count).any (fun j => s.qState (x.first + j) != 0) then s.dropCommit c
    else
      let s1 := (List.range x.count).foldl (fun s j => s.putEntry x.kind.toNat (x.first + j) (entryWords x.kind.toNat x.entries j)) s
      ((s1.setSlot i none).count A.protAppcnt 0 32).raise 36 x.pid.toNat x.kind.toNat

/-! ## UNLOCK (14 R483) -/

/-- The unlock request that waits. -/
def State.unlockWaits (s : State) : Option UnlockReq :=
  match s.prot.unlock with
  | some r => if s.timer < r.wend then some r else none
  | none => none

/-- The first step: a request is opened, under the digest of R512. A request that waits holds the place (log entry 33). -/
def State.unlockOpen (s : State) (p : Packet) (byA : Bool) : State × Verdict :=
  let dig := BitVec.ofNat 64 (pk p 40 8)
  if s.protDigest 0xFF (pkDom p) 0 0 0 [] ≠ dig then (s, .auth 40)
  else if pkCommit p ≠ 0 then (s, .field 16)
  else if s.unlockWaits.isSome || s.stateBusy p then (s, .plain stBusy)
  else
    let pid := s.prot.nextPid
    let r : UnlockReq := ⟨pid, byA, dig, s.timer + s.fld A.protCwin 0 22⟩
    ({ s with prot := { s.prot with unlock := some r, nextPid := pidNext pid } }, ⟨stAwait, noDetail, pid.toNat⟩)

/-- The second step, under the rows of R480. -/
def State.unlockJoin (s : State) (p : Packet) (byA : Bool) : State × Verdict :=
  let done := { s with prot := { s.prot with unlock := none } }
  match s.prot.unlock with
  | none => (s, .field 24)
  | some r =>
    if r.pid.toNat ≠ pk p 24 4 then (s, .field 24)
    else if r.byA = byA then (s, .auth 0)
    else if r.digest.toNat ≠ pk p 40 8 then (s, .auth 40)
    else if pkCommit p ≠ 0 then (s, .field 16)
    else if s.stateBusy p then (s, .plain stBusy)
    else if r.wend ≤ s.timer then (done, .plain stLate)
    else (done, .ok)

/-- UNLOCK (R483) by authority A (`byA`) or B. -/
def State.unlockCmd (s : State) (p : Packet) (byA : Bool) : State × Verdict :=
  if s.debugOpen then (s, .field 24)
  else if pk p 24 4 = 0 then s.unlockOpen p byA
  else s.unlockJoin p byA

/-! ## The commands -/

/-- PROTECT_LAPSED (16 R519). -/
def execProtectLapsed (pid : Word) (s : State) : Host.Outcome State Fault Refusal := finish s (protectLapsed pid s)

end Sys2Proof.Machine
end

