-- ==== Sys2Proof/Machine/CmdBase.lean ====
section
/-! DEFINITION. Commands in progress and their completions: duplicate windows (13 R450-R452, 14 R459), checks 1 to 5 of
14 R462, forwarding on the chain (12 R398, R399). -/

namespace Sys2Proof.Machine

/-! ## Completions (R460) -/

def State.modCmds (s : State) (f : Cmds → Cmds) : State := { s with cmds := f s.cmds }

/-- UNIT: the link index of this unit, or 0xFFFF. -/
def State.unitCode (s : State) : Nat := s.index.getD 0xFFFF

/-- A completion of a packet (R460). -/
def mkCompletion (p : Packet) (v : Verdict) (result unit cflags : Nat) : Completion :=
  { opcode := BitVec.ofNat 16 (pkOpcode p), status := BitVec.ofNat 8 v.status, cflags := BitVec.ofNat 8 cflags, seq := pkSeq p,
    unit := BitVec.ofNat 16 unit, detail := BitVec.ofNat 16 v.detail, aux := BitVec.ofNat 32 v.aux,
    result := BitVec.ofNat 64 result }

/-- DUP, and FWD, set in CFLAGS. -/
def Completion.dup (c : Completion) : Completion := { c with cflags := c.cflags ||| 1 }
def Completion.fwd (c : Completion) : Completion := { c with cflags := c.cflags ||| 2 }

/-- A completion waits to be written; one bound for a full CQ begins to be held (13 R449). -/
def State.postDone (s : State) (o : Origin) (c : Completion) : State :=
  (s.modCmds fun m => { m with done := m.done ++ [⟨o, c, false⟩] }).holdDone

/-! ## Duplicate windows -/

/-- s is newer than o in 32-bit serial arithmetic (13 R450). -/
def seqNewer (s o : Word) : Bool := let d := (s - o).toNat; 1 ≤ d && d < 2 ^ 31

/-- The last 64 of a list. -/
def last64 {α : Type} (l : List α) : List α := l.drop (l.length - 64)

/-- The window of an origin: of its SQ, or of the management serial port (14 R459). -/
def State.windowOf (s : State) (o : Origin) : List (Word × Completion) :=
  match o with
  | .sq q => (s.qst q.val).window
  | .serial => s.cmds.serial
  | .chain _ _ _ _ => []

/-- A command of this unit's own queue or port has completed: its completion enters the window (13 R450, R451); one that
came by CMD enters the records of its origin index (13 R452). -/
def State.recordDone (s : State) (o : Origin) (c : Completion) : State :=
  match o with
  | .sq q =>
    let s1 := s.setQst q.val { s.qst q.val with window := last64 ((s.qst q.val).window ++ [(c.seq, c)]) }
    if seqNewer c.seq (s1.rawReg (A.qSeqhi q.val)) then s1.setReg (A.qSeqhi q.val) c.seq else s1
  | .serial => s.modCmds fun m => { m with serial := last64 (m.serial ++ [(c.seq, c)]) }
  | .chain i queue _ _ =>
    let l := tget [] s.cmds.remote i.toNat
    s.modCmds fun m => { m with remote := tset [] m.remote i.toNat (last64 (l ++ [(queue, c.seq, c)])) }

/-- A command in progress ends with a completion: recorded, written, and each duplicate answered after it (13 R451). -/
def State.endCmd (s : State) (o : Origin) (seq : Word) (c : Completion) : State :=
  match takeFirst (fun x : InProg => x.origin == o && x.seq == seq) s.cmds.inprog with
  | none => s
  | some (x, rest) =>
    let s1 := ((s.modCmds fun m => { m with inprog := rest }).recordDone o c).postDone o c
    (List.range x.dups).foldl (fun s _ => s.postDone o c.dup) s1

/-- A command in progress ends with a verdict of this unit. -/
def State.answer (s : State) (o : Origin) (p : Packet) (v : Verdict) (result : Nat) : State :=
  s.endCmd o (pkSeq p) (mkCompletion p v result s.unitCode 0)

/-! ## Checks 1 to 5 (R451, R462) -/

/-- The command in progress of an origin and sequence number. -/
def State.findProg (s : State) (o : Origin) (seq : Word) : Option InProg :=
  s.cmds.inprog.find? (fun x => x.origin == o && x.seq == seq)

def State.addProg (s : State) (x : InProg) : State := s.modCmds fun m => { m with inprog := m.inprog ++ [x] }

def State.updProg (s : State) (o : Origin) (seq : Word) (f : InProg → InProg) : State :=
  s.modCmds fun m => { m with inprog := m.inprog.map (fun x => if x.origin == o && x.seq == seq then f x else x) }

/-- The origin queue of a CMD frame: 0xFFFF for the management serial port (log entry 34). -/
def originQueue (o : Origin) : BitVec 16 := match o with | .sq q => BitVec.ofNat 16 q.val | _ => 0xFFFF

/-- The CMD frame of a forwarded command (12 R398): its tag is the sequence number (log entry 34). -/
def State.sendCmd (s : State) (o : Origin) (p : Packet) : State :=
  s.sendOwn 1 (BitVec.ofNat 8 (pkTarget p)) (.cmd (originQueue o) (pkSeq p) (BitVec.ofNat 2 (s.issuerCode o)) p)

/-- The packet is for this unit (01 R25). -/
def State.isTarget (s : State) (p : Packet) : Bool := pkTarget p == 0xFFFF || some (pkTarget p) == s.index

/-- Checks 2 to 5: the status that ends the command here, if any. -/
def State.receiveCheck (s : State) (o : Origin) (p : Packet) : Option Verdict :=
  if pk p 3 1 ≠ 1 then some (.field 3)
  else match opOf (pkOpcode p) with
    | none => some (.plain stOpcode)
    | some x =>
      if !s.issuerOk x.iss (s.issuerCode o) then some (.auth 0)
      else if s.isTarget p then none
      else if pkOpcode p = 0x0901 then some (.field 8)
      else if s.index.isNone || !s.portUp 1 || 63 < pkTarget p then some (.plain stUnreach)
      else none

/-- A new packet: it ends by checks 2 to 5, waits to be executed, or is forwarded. -/
def State.receiveNew (s : State) (o : Origin) (p : Packet) : State :=
  let st : Stage := if s.isTarget p then .ready else .forwarded
  let s1 := s.addProg ⟨o, pkSeq p, p, st, 0⟩
  match s1.receiveCheck o p with
  | some v => s1.answer o p v 0
  | none => if s1.isTarget p then s1 else s1.sendCmd o p

/-- Counts a duplicate, or a stale packet, of an SQ. -/
def State.dupCount (s : State) (o : Origin) : State := match o with | .sq q => s.count (A.qDupcnt q.val) 0 32 | _ => s
def State.staleCount (s : State) (o : Origin) : State := match o with | .sq q => s.count (A.qStalecnt q.val) 0 32 | _ => s

/-- A packet from a submission queue or the management serial port (R451, in the order of its rows). -/
def State.receive (s : State) (o : Origin) (p : Packet) : State :=
  let w := s.windowOf o
  match w.find? (fun e => e.1 == pkSeq p), s.findProg o (pkSeq p) with
  | some (_, c), _ => (s.dupCount o).postDone o c.dup
  | none, some x =>
    let s1 := s.updProg o x.seq fun x => { x with dups := x.dups + 1 }
    if x.stage = .forwarded then s1.sendCmd o x.pkt else s1
  | none, none =>
    match w with
    | e :: _ =>
      if w.length = 64 && !seqNewer (pkSeq p) e.1 then
        (s.staleCount o).postDone o (mkCompletion p (.plain stStale) 0 s.unitCode 0)
      else s.receiveNew o p
    | [] => s.receiveNew o p

/-- Commands fetched from SQ n that wait to be validated. -/
def State.fetchedOf (s : State) (n : Nat) : Nat :=
  (s.cmds.inprog.filter (fun x => x.stage == .ready && (match x.origin with | .sq q => q.val == n | _ => false))).length

/-- The unit can fetch an entry of queue n (R426, R437, R448, R449): an SQ in RUN with an entry ready, its CQ not full, and fewer
than 32 commands fetched from it. -/
def State.sqReady (s : State) (n : Nat) : Bool :=
  s.qState n == 1 && s.qType n == 0 && s.qHd n != s.qTl n && s.qFn n < 2 && s.fnReady (s.qFn n) && !s.qFull (s.qLnk n) &&
  s.fetchedOf n < 32

/-- It is the turn of queue n (R448): no other SQ that can be fetched from comes between the last one and it. -/
def State.sqTurn (s : State) (n : Nat) : Bool :=
  let after := fun (x : Nat) => (x + 65535 - s.cmds.turn) % 65536
  s.qListed.all (fun x => !s.sqReady x || after n ≤ after x)

/-- SQ_FETCH (R448): one entry of the SQ whose turn it is. -/
def sqFetch (q : QueueId) (p : Packet) (s : State) : State :=
  let n := q.val
  if s.sqReady n && s.sqTurn n then
    let h := s.qHd n + 1
    ((s.setFld (A.qHead n) 0 16 (if h < s.qLen n then h else 0)).modCmds fun m => { m with turn := n }).receive (.sq q) p
  else s

/-! ## CMD and CPL (12 R398, R399, 13 R452) -/

/-- A CMD frame for this unit: a repeat is answered from the records, or after the one in progress; a new one enters at
check 6. -/
def State.receiveCmd (s : State) (i : BitVec 8) (queue : BitVec 16) (tag : Word) (issuer : BitVec 2) (p : Packet) : State :=
  let o : Origin := .chain i queue tag issuer
  match (tget [] s.cmds.remote i.toNat).find? (fun e => e.1 == queue && e.2.1 == pkSeq p) with
  | some (_, _, c) => s.postDone o c.dup
  | none =>
    match s.findProg o (pkSeq p) with
    | some _ => s.updProg o (pkSeq p) fun x => { x with dups := x.dups + 1 }
    | none => s.addProg ⟨o, pkSeq p, p, .ready, 0⟩

/-- The origin of this unit that a queue number of a CMD or CPL frame names. -/
def originOf (queue : BitVec 16) : Origin := if queue = 0xFFFF then .serial else .sq ⟨queue.toNat, queue.isLt⟩

/-- A forwarded command of this unit ends. -/
def State.endForwarded (s : State) (queue : BitVec 16) (tag : Word) (c : InProg → Completion) : State :=
  match s.findProg (originOf queue) tag with
  | some x => if x.stage = .forwarded then s.endCmd x.origin x.seq (c x) else s
  | none => s

/-- CMD (12 R398, R399): for this unit, passed on, or back at its origin unexecuted. -/
def cmd (h : ChHdr) (queue : BitVec 16) (tag : Word) (issuer : BitVec 2) (p : Packet) (s : State) : State :=
  match s.accept 0 h with
  | (s1, true) =>
    if s1.forMe h then s1.receiveCmd h.src queue tag issuer p
    else if some h.src.toNat = s1.index then
      s1.endForwarded queue tag fun x => mkCompletion x.pkt (.plain stUnreach) 0 s1.unitCode 0
    else s1.sendFrame 1 h.src h.dst (.cmd queue tag issuer p)
  | (s1, false) => s1

/-- CPL (12 R398): the completion of a forwarded command, with FWD (14 R460). -/
def cpl (h : ChHdr) (queue : BitVec 16) (tag : Word) (c : BitVec 256) (s : State) : State :=
  s.arrive 0 h (.cpl queue tag c) fun s => s.endForwarded queue tag fun _ => (Completion.ofBits c).fwd

/-! ## COMPLETION_WRITE and the resets that wait for it (R468) -/

/-- A reset that waited for the completion of its command begins. -/
def State.beginResetOf (s : State) (o : Origin) (k : Nat) : State :=
  if k < 2 then s.ifrst k
  else s.unitReset 2 (match o with | .sq q => s.qFn q.val | .serial => 2 | .chain _ _ _ _ => 3)

/-- The first waiting reset that satisfies p begins. -/
def State.beginWaiting (s : State) (p : Origin × Word × Nat → Bool) : State :=
  match takeFirst p s.cmds.resets with
  | some (r, rest) => (s.modCmds fun m => { m with resets := rest }).beginResetOf r.1 r.2.2
  | none => s

/-- A waiting reset's completion is no longer there: an interface reset discarded it, and its command stays accepted
(13 R453). -/
def State.unanswered (s : State) (r : Origin × Word × Nat) : Bool :=
  !s.cmds.done.any (fun d => d.origin == r.1 && d.c.seq == r.2.1)

/-- COMPLETION_WRITE (13 R443, R449): the oldest completion that can be is written or sent, and a reset that waited for it
begins; one whose completion was discarded begins first (log entry 144). -/
def completionWrite (s : State) : State :=
  if s.cmds.resets.any s.unanswered then s.beginWaiting s.unanswered
  else
    match s.writeDone with
    | (s1, none) => s1
    | (s1, some (o, seq)) => s1.beginWaiting (fun r => r.1 == o && r.2.1 == seq)

/-! ## The commands -/

/-- SQ_FETCH (13 R448). -/
def execSqFetch (q : QueueId) (p : Packet) (s : State) : Host.Outcome State Fault Refusal := finish s (sqFetch q p s)
/-- COMPLETION_WRITE (13 R443). -/
def execCompletionWrite (s : State) : Host.Outcome State Fault Refusal := finish s (completionWrite s)
/-- CMD (12 R398). -/
def execCmd (h : ChHdr) (q : BitVec 16) (t : Word) (i : BitVec 2) (p : Packet) (s : State) :
    Host.Outcome State Fault Refusal := finish s (cmd h q t i p s)
/-- CPL (12 R398). -/
def execCpl (h : ChHdr) (q : BitVec 16) (t : Word) (c : BitVec 256) (s : State) : Host.Outcome State Fault Refusal :=
  finish s (cpl h q t c s)

end Sys2Proof.Machine
end

