-- ==== Sys2Proof/Machine/Pair.lean ====
section
/-! DEFINITION. Commands to a twin pair (12 R414-R416, 16 R524, 17 R534, R540): relay, the steps of R415 on both members, and
how a unit leaves its pair for a debug unlock (19 R566). -/

namespace Sys2Proof.Machine

/-- The latest HB of the twin says FENCED or SOLO, or is 4 grains old (17 R540; log entry 35). -/
def State.twinGone (s : State) : Bool :=
  (s.twin.hbSeen && (s.twin.hbState == 0 || s.twin.hbState == 4)) ||
  s.hbGone (s.dom s.pairDom).cnt.toNat

/-- A command that is a pair command of this member (R414); an UNPAIR without a twin is not (R540). -/
def State.isPairCmd (s : State) (p : Packet) : Bool :=
  let o := pkOpcode p
  let f := o / 256
  if o = 0x0700 then s.role != 0
  else s.paired && ((1 ≤ f && f ≤ 4) || f == 6 || f == 7) && !(o == 0x0701 && s.twinGone)

/-- This member coordinates the command: ACTIVE, or EVEN for a PAIR (R414, 14 R481). -/
def State.isCoord (s : State) (p : Packet) : Bool :=
  if pkOpcode p = 0x0700 then s.role == 1 else s.twState == twActive

/-- The twin's index as UNIT of a completion that the twin decides. -/
def State.twinUnit (s : State) : Nat := s.twinIndex.getD 0xFFFF

/-- A packet that this member has relayed and awaits the answer to. -/
def State.relayedOut (s : State) (p : Packet) : Bool := s.twin.out.any (fun x => x.relayed && x.pkt == p)

/-- The relayed command with a packet ends (R415): its completion comes from the ACTIVE member. -/
def State.endRelayed (s : State) (p : Packet) (v : Verdict) (result cf : Nat) : State :=
  match takeFirst (fun x : PrepOut => x.relayed && x.pkt == p) s.twin.out with
  | none => s
  | some (x, rest) =>
    let s1 := s.modTwin fun t => { t with out := rest }
    match x.origin with
    | some o => s1.endCmd o (pkSeq p) (mkCompletion p v result s.twinUnit cf)
    | none => s1

/-! ## The coordinating member (R415) -/

/-- The proposal identifier that a protection packet names. -/
def pkPid (p : Packet) : Word := BitVec.ofNat 32 (pk p 24 4)

/-- The conditions of 14 R481 on the coordinating member. -/
def State.pairCond (s : State) (p : Packet) : Bool :=
  if pkOpcode p = 0x0700 then s.twState == twSolo && s.index.any (fun i => i % 2 == 0)
  else if pkOpcode p = 0x0702 then !s.silent
  else true

/-- A WITHDRAW of the proposal is under way: of the two, the first validated decides (16 R520). -/
def State.withdrawing (s : State) (pid : Word) : Bool :=
  s.twin.out.any (fun x => !x.relayed && x.opcode == 0x0602 && x.pid == pid)

/-- Step 1: the command is validated. Verdict, commit grain, identifier. A protection command's record is made. -/
def State.pairStep1 (s : State) (p : Packet) (origin : BitVec 8) : State × Verdict × DWord × Word :=
  match s.checkPacket p with
  | (t, v) =>
    if v ≠ .ok then (t, v, 0, 0)
    else if pkOpcode p = 0x0600 then
      let r := t.propose p none origin
      (r.1, r.2.1, r.2.2.2, r.2.2.1)
    else if pkOpcode p = 0x0601 then
      if t.withdrawing (pkPid p) then (t, .field 24, 0, 0)
      else
        let r := t.concurCheck p true
        if r.2 = .ok then (r.1.concurred (pkPid p), .ok, r.1.pidGrain (pkPid p), pkPid p) else (r.1, r.2, 0, 0)
    else if pkOpcode p = 0x0602 then (t, t.withdrawCheck p, t.pidGrain (pkPid p), pkPid p)
    else
      let g := t.commitGrain p
      if g.1 ≠ .ok then (t, g.1, 0, 0)
      else if pkOpcode p = 0x0100 && !t.imageInTime p g.2 then (t, .plain stLate, 0, 0)
      else if t.stateBusy p || t.resourceBusy p g.2 || !t.pairCond p then (t, .plain stBusy, 0, 0)
      else (t, .ok, g.2, 0)

/-- Step 1 allows step 2. -/
def goesOn (v : Verdict) : Bool := v.status == stOk || v.status == stAwait

/-- RESULT of an accepted command (14 R460, R478): its commit grain; WITHDRAW states none. -/
def acceptResult (p : Packet) (c : DWord) : Nat := if pkOpcode p = 0x0602 then 0 else c.toNat

/-- A pair PROPOSE or CONCUR that ends without effect discards its proposal (log entry 36). -/
def State.revertPair (s : State) (p : Packet) (pid : Word) : State :=
  if pkOpcode p = 0x0600 ∨ pkOpcode p = 0x0601 then s.freePid pid else s

/-- The answer of the coordinating member to the origin here; a command the twin relayed ends on the twin. -/
def State.answerPair (s : State) (o : Option Origin) (p : Packet) (v : Verdict) (result cf : Nat) : State :=
  match o with
  | some o => s.endCmd o (pkSeq p) (mkCompletion p v result s.unitCode cf)
  | none => s

/-- Steps 1 and 2. `rtag`: the tag of the RELAY that brought the command, which a REJ answers. -/
def State.coordinate (s : State) (o : Option Origin) (rtag : Word) (p : Packet) : State :=
  let src := match o with | some x => s.originIndex x | none => s.twinSrc
  let refuse := fun (t : State) (v : Verdict) =>
    match o with
    | some _ => t.answerPair o p v 0 0
    | none => t.sendPair (.rej rtag (BitVec.ofNat 8 v.status))
  match s.pairStep1 p src with
  | (t, v, c, pid) =>
    if !goesOn v then refuse t v
    else if t.pairPath.isNone then refuse (t.revertPair p pid) (.plain stUnreach)
    else
      let tag := t.twin.tag + 1
      let x : PrepOut := ⟨tag, p, BitVec.ofNat 16 (pkOpcode p), o, false, c, pid⟩
      let t1 := t.modTwin fun w => { w with tag := tag, out := w.out ++ [x] }
      let t2 := match o with | some y => t1.updProg y (pkSeq p) fun z => { z with stage := .pair } | none => t1
      t2.sendPair (.prep tag c pid (t2.rawReg A.twCfg) (t2.dom (pkDom p)).cnt p)

/-- The domain in which a pair command's grain is counted: that of the proposal for CONCUR and WITHDRAW (16 R524). -/
def State.pairDomOf (s : State) (p : Packet) (pid : Word) : Nat :=
  if pkOpcode p = 0x0601 ∨ pkOpcode p = 0x0602 then (match s.slotOf pid with | some (_, x) => x.dom | none => pkDom p)
  else pkDom p

/-- The command takes effect at its grain on this member (R415 steps 4 and 6, 16 R524). -/
def State.pairAccept (s : State) (p : Packet) (c : DWord) (pid : Word) (origin : BitVec 8) : State :=
  if pkOpcode p = 0x0600 then s
  else if pkOpcode p = 0x0601 then s.concurAccept pid
  else if pkOpcode p = 0x0602 then s.freePid pid
  else s.acceptCommit p c origin

/-- Step 5: ABORT, and the failing status. -/
def State.pairAbort (s : State) (x : PrepOut) (v : Verdict) (cf : Nat) : State :=
  ((s.sendPair (.abort x.tag)).revertPair x.pkt x.pid).answerPair x.origin x.pkt v 0 cf

/-- Step 4, or step 5 where ACC comes too late. -/
def State.accSeen (s : State) (tag : Word) : State :=
  match takeFirst (fun x : PrepOut => !x.relayed && x.tag == tag) s.twin.out with
  | none => s
  | some (x, rest) =>
    let s1 := s.modTwin fun t => { t with out := rest }
    let d := s1.pairDomOf x.pkt x.pid
    if !s1.domRuns d || x.grain.toNat ≤ (s1.dom d).cnt.toNat + 1 then s1.pairAbort x (.plain stLate) 0
    else
      let src := match x.origin with | some o => s1.originIndex o | none => s1.twinSrc
      let v : Verdict := if x.opcode = 0x0600 then ⟨stAwait, noDetail, x.pid.toNat⟩ else .ok
      ((s1.sendPair (.commit tag)).pairAccept x.pkt x.grain x.pid src).answerPair x.origin x.pkt v
        (acceptResult x.pkt x.grain) 0

/-- Status without DETAIL and AUX: the PAIRC frame carries neither, so where R460 gives them a value it is open here
(log entry 37). -/
def State.frameVerdict (s : State) (status : BitVec 8) : State × Verdict :=
  let st := status.toNat
  if st = stField ∨ st = stReserved ∨ st = stAuth then
    (s.stir, ⟨st, (Config.freeWord s.fresh).toNat % 2 ^ 16, (Config.freeWord s.fresh).toNat⟩)
  else (s, .plain st)

/-- REJ: of the twin at step 3, or of the ACTIVE member to a RELAY. -/
def State.rejSeen (s : State) (tag : Word) (status : BitVec 8) : State :=
  match s.twin.out.find? (fun x => x.tag == tag) with
  | none => s
  | some x =>
    let r := s.frameVerdict status
    if x.relayed then r.1.endRelayed x.pkt r.2 0 0
    else (r.1.modTwin fun t => { t with out := t.out.filter (fun y => y.tag != tag) }).pairAbort x r.2 4

/-- The boundary of C - 1 passes without an answer (R415 step 5). -/
def State.pairLimit (s : State) (d : Nat) : State :=
  (s.twin.out.filter (fun x => !x.relayed)).foldl (init := s) fun s x =>
    if s.pairDomOf x.pkt x.pid = d ∧ x.grain.toNat ≤ (s.dom d).cnt.toNat + 1 then
      (s.modTwin fun t => { t with out := t.out.filter (fun y => y.tag != x.tag) }).pairAbort x (.plain stLate) 0
    else s

/-- RELAY (R414). -/
def State.relaySeen (s : State) (tag : Word) (p : Packet) : State :=
  if s.isCoord p then s.coordinate none tag p else s.sendPair (.rej tag (BitVec.ofNat 8 stBusy))

/-! ## The twin (R415, R416) -/

/-- What only the twin can check of a PAIR (14 R481): equal `TW_CFG`, and counters that agree. -/
def State.pairAgrees (s : State) (p : Packet) (cfg : Word) (cnt : DWord) : Bool :=
  let mine := (s.dom (pkDom p)).cnt
  s.rawReg A.twCfg == cfg && s.domRuns (pkDom p) && (mine == cnt || mine == cnt + 1)

/-- The state this member must be in. -/
def State.twinCond (s : State) (p : Packet) : Bool :=
  if pkOpcode p = 0x0700 then s.twState == twSolo && s.role == 2 && s.index.any (fun i => i % 2 == 1)
  else if pkOpcode p = 0x0702 then s.twState == twStandby
  else s.paired

/-- Step 3: the twin's own validation, all checks of 14 R462 from the sixth on. -/
def State.twinCheck (s : State) (p : Packet) (c : DWord) (pid cfg : Word) (cnt : DWord) : State × Verdict :=
  if !s.twinCond p then (s, .plain stBusy)
  else
    match s.checkPacket p with
    | (t, v) =>
      if v ≠ .ok then (t, v)
      else if pkOpcode p = 0x0600 then
        let r := t.propose p (some (pid, c)) t.twinSrc
        (r.1, if r.2.1.status = stAwait then .ok else r.2.1)
      else if pkOpcode p = 0x0601 then
        let r := t.concurCheck p false
        (if r.2 = .ok then r.1.concurred (pkPid p) else r.1, r.2)
      else if pkOpcode p = 0x0602 then (t, t.withdrawCheck p)
      else if pkOpcode p = 0x0700 && !t.pairAgrees p cfg cnt then (t, .plain stField)
      else if t.grainCheck (pkDom p) c.toNat ≠ .ok then (t, t.grainCheck (pkDom p) c.toNat)
      else if pkOpcode p = 0x0100 && !t.imageInTime p c then (t, .plain stLate)
      else if (t.stateBusy p && !t.relayedOut p) || t.resourceBusy p c then (t, .plain stBusy)
      else (t, .ok)

/-- PREP. A relayed command that the twin itself refuses ends here, with TWIN. -/
def State.prepSeen (s : State) (tag : Word) (c : DWord) (pid cfg : Word) (cnt : DWord) (p : Packet) : State :=
  match s.twinCheck p c pid cfg cnt with
  | (t, v) =>
    if v = .ok then
      let x : PrepIn := ⟨tag, p, BitVec.ofNat 16 (pkOpcode p), c, pid⟩
      (t.modTwin fun w => { w with inn := w.inn ++ [x] }).sendPair (.acc tag)
    else (t.sendPair (.rej tag (BitVec.ofNat 8 v.status))).endRelayed p v 0 4

/-- COMMIT (R415 step 6): a relayed command ends with the ACTIVE member's answer. -/
def State.commitSeen (s : State) (tag : Word) : State :=
  match takeFirst (fun x : PrepIn => x.tag == tag) s.twin.inn with
  | none => s
  | some (x, rest) =>
    let s1 := s.modTwin fun t => { t with inn := rest }
    let src := if s1.relayedOut x.pkt then s1.ownSrc else s1.twinSrc
    let v : Verdict := if x.opcode = 0x0600 then ⟨stAwait, noDetail, x.pid.toNat⟩ else .ok
    (s1.pairAccept x.pkt x.grain x.pid src).endRelayed x.pkt v (acceptResult x.pkt x.grain) 0

/-- ABORT (R415 step 6). -/
def State.abortSeen (s : State) (tag : Word) : State :=
  match takeFirst (fun x : PrepIn => x.tag == tag) s.twin.inn with
  | none => s
  | some (x, rest) =>
    ((s.modTwin fun t => { t with inn := rest }).revertPair x.pkt x.pid).endRelayed x.pkt (.plain stLate) 0 0

/-- In doubt at the boundary of C (R416): FENCED before anything is applied at C. -/
def State.doubt (s : State) (d : Nat) : State :=
  let due := s.twin.inn.filter (fun x => s.pairDomOf x.pkt x.pid == d && x.grain.toNat ≤ (s.dom d).cnt.toNat)
  if due = [] then s else (due.foldl (fun s x => s.revertPair x.pkt x.pid) s).fenced fcDoubt

/-! ## A pair command of this unit's own origin -/

/-- A pair command ready here: coordinated, or relayed (R414). -/
def State.runPair (s : State) (o : Origin) (p : Packet) : State :=
  if s.isCoord p then s.coordinate (some o) 0 p
  else if s.pairPath.isNone then s.answer o p (.plain stUnreach) 0
  else
    let tag := s.twin.tag + 1
    let x : PrepOut := ⟨tag, p, BitVec.ofNat 16 (pkOpcode p), some o, true, 0, 0⟩
    ((s.modTwin fun t => { t with tag := tag, out := t.out ++ [x] }).updProg o (pkSeq p) fun z => { z with stage := .pair }).sendPair
      (.relay tag p)

/-! ## Leaving the pair for a debug unlock (19 R566, R567) -/

/-- The erase starts: STATE reads ERASING, every domain is disabled and no lane is driven. -/
def State.beginErase (s : State) : State :=
  let s1 := s.setFld A.dbgStat 0 2 2
  let s2 := (List.range 4).foldl (fun s d => if s.domEn d then s.rdCtlWrite d (s.rawReg (A.rdCtl d) &&& 0xFFFFFFFE) else s) s1
  let s3 := (List.range 128).foldl (fun s k => if s.cgEn k then s.cgCtlWrite k (s.rawReg (cgReg A.cgCtl k) &&& 0xFFFFFFFE) else s) s2
  (s3.setFld A.twStat 3 1 0)

/-- A packet that the unit commits of itself (log entry 38). -/
def ownPacket (opcode dom : Nat) : Packet := BitVec.ofNat 512 (opcode + dom * 2 ^ 16 + 2 ^ 24 + 0xFFFF * 2 ^ 64)

/-- One of the unit's own commands is under way. -/
def State.ownUnderWay (s : State) (p : Packet) : Bool :=
  s.twin.out.any (fun x => x.pkt == p) || s.twin.inn.any (fun x => x.pkt == p) || s.cmds.commits.any (fun x => x.pkt == p)

/-- A unit in LEAVING goes on leaving its pair: the drill first where it is ACTIVE over a STANDBY twin, then UNPAIR, alone
where its twin is gone; a SOLO or FENCED unit is erased. -/
def State.leaveStep (s : State) : State :=
  if s.fld A.dbgStat 0 2 ≠ 1 then s
  else if !s.paired then s.beginErase
  else
    let d := s.pairDom
    let drill := ownPacket 0x0702 d
    let part := ownPacket 0x0701 d
    if s.ownUnderWay drill || s.ownUnderWay part || s.silent then s
    else if !s.domRuns d then s
    else if s.twinGone then s.acceptCommit part ((s.dom d).cnt + 2) s.ownSrc
    else if s.twState = twActive ∧ s.twin.hbState.toNat = twStandby then
      let x : PrepOut := ⟨s.twin.tag + 1, drill, 0x0702, none, false, (s.dom d).cnt + 2, 0⟩
      (s.modTwin fun t => { t with tag := x.tag, out := t.out ++ [x] }).sendPair
        (.prep x.tag x.grain 0 (s.rawReg A.twCfg) (s.dom d).cnt drill)
    else if s.twState = twActive then
      let x : PrepOut := ⟨s.twin.tag + 1, part, 0x0701, none, false, (s.dom d).cnt + 2, 0⟩
      (s.modTwin fun t => { t with tag := x.tag, out := t.out ++ [x] }).sendPair
        (.prep x.tag x.grain 0 (s.rawReg A.twCfg) (s.dom d).cnt part)
    else
      let x : PrepOut := ⟨s.twin.tag + 1, part, 0x0701, none, true, 0, 0⟩
      (s.modTwin fun t => { t with tag := x.tag, out := t.out ++ [x] }).sendPair (.relay x.tag part)

/-! ## The commands -/

/-- RELAY (12 R414). -/
def execRelay (p : ChainPortId) (h : ChHdr) (tag : Word) (pkt : Packet) (s : State) : Host.Outcome State Fault Refusal :=
  finish s (s.arrive p.val h (.relay tag pkt) fun s => s.relaySeen tag pkt)
/-- PREP (12 R415). -/
def execPrep (p : ChainPortId) (h : ChHdr) (tag : Word) (c : DWord) (pid cfg : Word) (cnt : DWord) (pkt : Packet) (s : State) :
    Host.Outcome State Fault Refusal :=
  finish s (s.arrive p.val h (.prep tag c pid cfg cnt pkt) fun s => s.prepSeen tag c pid cfg cnt pkt)
/-- ACC (12 R415). -/
def execAcc (p : ChainPortId) (h : ChHdr) (tag : Word) (s : State) : Host.Outcome State Fault Refusal :=
  finish s (s.arrive p.val h (.acc tag) fun s => s.accSeen tag)
/-- REJ (12 R415). -/
def execRej (p : ChainPortId) (h : ChHdr) (tag : Word) (st : BitVec 8) (s : State) : Host.Outcome State Fault Refusal :=
  finish s (s.arrive p.val h (.rej tag st) fun s => s.rejSeen tag st)
/-- COMMIT (12 R415). -/
def execCommit (p : ChainPortId) (h : ChHdr) (tag : Word) (s : State) : Host.Outcome State Fault Refusal :=
  finish s (s.arrive p.val h (.commit tag) fun s => s.commitSeen tag)
/-- ABORT (12 R415). -/
def execAbort (p : ChainPortId) (h : ChHdr) (tag : Word) (s : State) : Host.Outcome State Fault Refusal :=
  finish s (s.arrive p.val h (.abort tag) fun s => s.abortSeen tag)

end Sys2Proof.Machine
end

