-- ==== Sys2Proof/Machine/Commands.lean ====
section
/-! DEFINITION. The opcodes of the command reference (14): execution on validation, or acceptance for a commit grain. -/

namespace Sys2Proof.Machine

/-! ## System opcodes (R467, R468) -/

/-- RESULT of IDENT (R467). -/
def State.identWord (s : State) : Nat :=
  0x9612 + b2n Config.gradeE * 2 ^ 16 + Config.stepping.toNat * 2 ^ 24 + Config.firmware.toNat % 2 ^ 16 * 2 ^ 32 +
    s.index.getD 0 * 2 ^ 48 + b2n s.index.isSome * 2 ^ 54 + s.role * 2 ^ 55 + b2n s.debugOpen * 2 ^ 57

/-- What an executed command comes to: the state, STATUS with DETAIL and AUX, and RESULT. -/
abbrev Done3 := State × Verdict × Nat

def doneOk (s : State) : Done3 := (s, .ok, 0)

/-- TIME (R467). -/
def State.timeCmd (s : State) (p : Packet) : Done3 :=
  let d := s.dom (pk p 24 1)
  (s, ⟨stOk, noDetail, (s.utime - d.btime.toNat) % 2 ^ 32⟩, d.cnt.toNat)

/-- INTERFACE_RESET and UNIT_RESET (R468): the reset begins when the completion is written. -/
def State.resetCmd (s : State) (o : Origin) (p : Packet) (k : Nat) : Done3 :=
  doneOk (s.modCmds fun m => { m with resets := m.resets ++ [(o, pkSeq p, k)] })

/-! ## Queue opcodes (R477) -/

/-- Q, and a write of a descriptor register of it. -/
def pkQ (p : Packet) : Nat := pk p 24 2
def State.qPut (s : State) (fn q off v : Nat) : State := (s.qWrite fn q off (BitVec.ofNat 32 v)).1

/-- A refusal under 13 R434. -/
def State.qRefused (s : State) (fn : Nat) (p : Packet) : Bool := fn < 2 && s.qFn (pkQ p) != fn
def State.qNotBound (s : State) (p : Packet) : Done3 := (s.setQErr (pkQ p) 5, .auth 24, 0)

/-- The fields of `Q_CTL` other than EN and SEQCLR. -/
def State.qKind (s : State) (q : Nat) : Nat := s.fld (A.qCtl q) 1 3 * 2

/-- QUEUE_SET. -/
def State.queueSet (s : State) (fn : Nat) (p : Packet) : Done3 :=
  let q := pkQ p
  if s.qRefused fn p then s.qNotBound p
  else if s.qState q ≠ 0 then (s, .plain stBusy, 0)
  else
    let b := pk p 32 8
    let s1 := s.qPut fn q (A.qCtl q) (pk p 26 1 % 4 * 2 + pk p 26 1 / 4 % 2 * 8)
    let s2 := ((s1.qPut fn q (A.qSize q) (pk p 28 2)).qPut fn q (A.qBaseLo q) b).qPut fn q (A.qBaseHi q) (b / 2 ^ 32)
    doneOk (((s2.qPut fn q (A.qLink q) (pk p 40 2)).qPut fn q (A.qIrq q) (pk p 42 2)).qPut fn q (A.qMod q)
      (pk p 44 2 + pk p 46 2 * 2 ^ 16))

/-- QUEUE_ENABLE. -/
def State.queueEnable (s : State) (fn : Nat) (p : Packet) : Done3 :=
  let q := pkQ p
  if s.qRefused fn p then s.qNotBound p
  else
    match s.qWrite fn q (A.qCtl q) (BitVec.ofNat 32 (s.qKind q + pk p 26 1 % 2)) with
    | (t, .cfg) => (t, .field 26, 0)
    | (t, .inuse) => (t, .plain stBusy, 0)
    | (t, _) => doneOk t

/-- QUEUE_SEQCLR. -/
def State.queueSeqclr (s : State) (fn : Nat) (p : Packet) : Done3 :=
  let q := pkQ p
  if s.qRefused fn p then s.qNotBound p
  else if s.qState q ≠ 0 then (s, .plain stBusy, 0)
  else doneOk (s.qPut fn q (A.qCtl q) (s.qKind q + 16))

/-! ## Protection, diagnostics and debug opcodes (R478-R483) -/

/-- CONCUR of a unit on its own (16 R520, R521). -/
def State.concurAlone (s : State) (p : Packet) : Done3 :=
  match s.concurCheck p true with
  | (t, v) => if v = .ok then ((t.concurred (pkPid p)).concurAccept (pkPid p), .ok, (t.pidGrain (pkPid p)).toNat) else (t, v, 0)

/-- WITHDRAW of a unit on its own. -/
def State.withdrawAlone (s : State) (p : Packet) : Done3 :=
  let v := s.withdrawCheck p
  (if v = .ok then s.freePid (pkPid p) else s, v, 0)

/-- UNLOCK (R483, 19 R566): on OK the unit leaves its pair and is erased. -/
def State.unlockRun (s : State) (o : Origin) (p : Packet) : Done3 :=
  match s.unlockCmd p (s.issuerCode o == 0) with
  | (t, v) => (if v = .ok then (t.setFld A.dbgStat 0 2 1).leaveStep else t, v, 0)

/-- A monitor session is open, and its channel (19 R577). -/
def State.session (s : State) : Bool := s.bit A.dbgStat 2

/-- MONITOR (R482, 19 R559): one session at a time; opening beside an open one is RESOURCE_BUSY (log entry 39). -/
def State.monitorCmd (s : State) (p : Packet) : Done3 :=
  match pk p 24 1 with
  | 0 => doneOk ((s.setFld A.dbgStat 2 1 0).setFld A.dbgStat 3 1 0)
  | n => if s.session then (s, .plain stBusy, 0) else doneOk ((s.setFld A.dbgStat 2 1 1).setFld A.dbgStat 3 1 (n - 1))

/-- A command marked "0" after checks 6 and 7 (R464, R474). -/
def State.runNow (s : State) (o : Origin) (p : Packet) : Done3 :=
  match pkOpcode p with
  | 0x0601 => s.concurAlone p
  | 0x0602 => s.withdrawAlone p
  | 0x0900 => s.unlockRun o p
  | op =>
    if pkCommit p ≠ 0 then (s, .field 16, 0)
    else if s.stateBusy p then (s, .plain stBusy, 0)
    else
      match op with
      | 0x0001 => (s, .ok, s.identWord)
      | 0x0002 => s.timeCmd p
      | 0x0003 => s.resetCmd o p (pk p 24 1)
      | 0x0004 => s.resetCmd o p 2
      | 0x0500 => s.queueSet (s.issuerCode o) p
      | 0x0501 => s.queueEnable (s.issuerCode o) p
      | 0x0502 => s.queueSeqclr (s.issuerCode o) p
      | 0x0800 => doneOk (s.spallCtlWrite (fput (s.rawReg A.spallCtl) 0 1 (pk p 24 1)))
      | 0x0801 => (s, ⟨stOk, noDetail, (s.rawReg A.spallFailcnt).toNat⟩, (s.rawReg A.spallPeriods).toNat)
      | 0x0901 => s.monitorCmd p
      | _ => doneOk s

/-! ## Commands with a commit grain -/

/-- The conditions of R481 on a unit that executes a twin opcode alone. -/
def State.aloneBusy (s : State) (p : Packet) : Bool :=
  match pkOpcode p with
  | 0x0701 => s.twState == twSolo
  | 0x0702 => true
  | _ => false

/-- A command marked "Used" after checks 6 and 7: checks 8 and 9, then acceptance. -/
def State.runUsed (s : State) (o : Origin) (p : Packet) : Done3 :=
  if pkOpcode p = 0x0600 then
    let r := s.propose p none (s.originIndex o)
    (r.1, r.2.1, r.2.2.2.toNat)
  else
    let g := s.commitGrain p
    if g.1 ≠ .ok then (s, g.1, 0)
    else if pkOpcode p = 0x0100 && !s.imageInTime p g.2 then (s, .plain stLate, 0)
    else if s.stateBusy p || s.resourceBusy p g.2 || s.aloneBusy p then (s, .plain stBusy, 0)
    else (s.acceptCommit p g.2 (s.originIndex o), .ok, g.2.toNat)

/-- Checks 6 to 10 of a command that this unit executes alone. -/
def State.execute (s : State) (o : Origin) (p : Packet) : Done3 :=
  match s.checkPacket p with
  | (t, v) =>
    if v ≠ .ok then (t, v, 0)
    else match opOf (pkOpcode p) with
      | some x => if x.used then t.runUsed o p else t.runNow o p
      | none => (t, .plain stOpcode, 0)

/-- A packet of an opcode that this unit has received and not yet executed is executed (R462), the commands of one queue in the
order in which they came (13 R448). One that is not the next in progress of its origin, or carries another opcode, is no such
command: nothing happens, nor while the foreman has no clock (17 R528). -/
def State.opcode (s : State) (op : Nat) (o : Origin) (p : Packet) : State :=
  match s.cmds.inprog.find? (fun x => x.origin == o && x.stage == .ready) with
  | none => s
  | some x =>
    if x.pkt ≠ p ∨ pkOpcode p ≠ op ∨ !s.islandUp 33 then s
    else if s.isPairCmd p then s.runPair o p
    else
      match s.execute o p with
      | (t, v, r) => t.answer o p v r

/-- One line of an image is copied by the foreman, and whether it was: a refused access is one of 05 R173, or of 01 R31 for a
failed stack. -/
def State.copyLine (s : State) (src dst : Nat) : State × Bool :=
  let r : State × Option Nat :=
    if inBanks src then s.portReadFree 141 src 64
    else if s.stackFailed (stackOf src) then (s.addressMap 141 src, none)
    else
      let q := s.farRead 141 src 64
      (q.1, some q.2)
  match r.2 with
  | none => (r.1, false)
  | some v => r.1.portWriteFree 141 dst (bytesOf v 64)

/-- An image is copied line by line, and whether every line was. -/
def State.copyLines (s : State) (src dst n : Nat) : State × Bool :=
  (List.range n).foldl (fun r i =>
    let q := r.1.copyLine (src + 64 * i) (dst + 64 * i)
    (q.1, r.2 && q.2)) (s, true)

/-- The copy of an image is complete. -/
def State.imageDone (s : State) (p : Packet) : State :=
  s.modCmds fun m => { m with images := m.images.map (fun i => if i.pkt == p then { i with done := true } else i) }

/-- The copy of an image has failed, and its LOAD_IMAGE is skipped (R465, R470). -/
def State.imageFailed (s : State) (c : Commit) : State :=
  (s.modCmds fun m => { m with commits := m.commits.filter (fun x => x != c) }).dropCommit c

/-- LOAD_IMAGE_COPY_DONE (R470): the foreman has copied the oldest image for `dst`, or the copy has failed. A copy reads far memory
or banks and writes banks held by the foreman; DESIGN CHOICE (log entry 129): a refused access makes it fail. -/
def loadImageCopyDone (dst : BitVec 48) (ok : Bool) (s : State) : State :=
  match s.cmds.images.find? (fun i => pk i.pkt 32 8 == dst.toNat && !i.done) with
  | none => s
  | some i =>
    match s.cmds.commits.find? (fun c => c.opcode == 0x0100 && c.pkt == i.pkt) with
    | none => s
    | some c =>
      let src := pk i.pkt 24 8
      let n := pk i.pkt 40 4
      if !s.islandUp 33 || ok && (s.rangeWaits src n || s.rangeWaits dst.toNat n || inFar src && !s.islandUp 32) then s
      else if ok then
        let r := s.copyLines src dst.toNat (n / 64)
        if r.2 then r.1.imageDone i.pkt else r.1.imageFailed c
      else s.imageFailed c

/-! ## The commands -/

/-- CMD_NOP (R467). -/
def execCmdNop (o : Origin) (p : Packet) (s : State) : Host.Outcome State Fault Refusal := finish s (s.opcode 0x0000 o p)
/-- IDENT (R467). -/
def execIdent (o : Origin) (p : Packet) (s : State) : Host.Outcome State Fault Refusal := finish s (s.opcode 0x0001 o p)
/-- TIME (R467). -/
def execTime (o : Origin) (p : Packet) (s : State) : Host.Outcome State Fault Refusal := finish s (s.opcode 0x0002 o p)
/-- INTERFACE_RESET (R467). -/
def execInterfaceReset (o : Origin) (p : Packet) (s : State) : Host.Outcome State Fault Refusal :=
  finish s (s.opcode 0x0003 o p)
/-- UNIT_RESET (R467). -/
def execUnitReset (o : Origin) (p : Packet) (s : State) : Host.Outcome State Fault Refusal := finish s (s.opcode 0x0004 o p)
/-- LOAD_IMAGE (R470). -/
def execLoadImage (o : Origin) (p : Packet) (s : State) : Host.Outcome State Fault Refusal := finish s (s.opcode 0x0100 o p)
/-- LOAD_IMAGE_COPY_DONE (R470). -/
def execLoadImageCopyDone (dst : BitVec 48) (ok : Bool) (s : State) : Host.Outcome State Fault Refusal :=
  finish s (loadImageCopyDone dst ok s)
/-- START_CORE (R471). -/
def execStartCore (o : Origin) (p : Packet) (s : State) : Host.Outcome State Fault Refusal := finish s (s.opcode 0x0101 o p)
/-- STOP_CORE (R469). -/
def execStopCore (o : Origin) (p : Packet) (s : State) : Host.Outcome State Fault Refusal := finish s (s.opcode 0x0102 o p)
/-- BANK_ASSIGN (R469). -/
def execBankAssign (o : Origin) (p : Packet) (s : State) : Host.Outcome State Fault Refusal := finish s (s.opcode 0x0103 o p)
/-- PARAM_WRITE (R472). -/
def execParamWrite (o : Origin) (p : Packet) (s : State) : Host.Outcome State Fault Refusal := finish s (s.opcode 0x0200 o p)
/-- ROUTE_COMMIT (R474). -/
def execRouteCommit (o : Origin) (p : Packet) (s : State) : Host.Outcome State Fault Refusal :=
  finish s (s.opcode 0x0300 o p)
/-- TAPLIST_COMMIT (R474). -/
def execTaplistCommit (o : Origin) (p : Packet) (s : State) : Host.Outcome State Fault Refusal :=
  finish s (s.opcode 0x0301 o p)
/-- SLOTMAP_COMMIT (R475). -/
def execSlotmapCommit (o : Origin) (p : Packet) (s : State) : Host.Outcome State Fault Refusal :=
  finish s (s.opcode 0x0400 o p)
/-- NETSTREAM_COMMIT (R475). -/
def execNetstreamCommit (o : Origin) (p : Packet) (s : State) : Host.Outcome State Fault Refusal :=
  finish s (s.opcode 0x0401 o p)
/-- CHAINSTREAM_COMMIT (R475). -/
def execChainstreamCommit (o : Origin) (p : Packet) (s : State) : Host.Outcome State Fault Refusal :=
  finish s (s.opcode 0x0402 o p)
/-- DMA_START (R475). -/
def execDmaStart (o : Origin) (p : Packet) (s : State) : Host.Outcome State Fault Refusal := finish s (s.opcode 0x0403 o p)
/-- DMA_STOP (R475). -/
def execDmaStop (o : Origin) (p : Packet) (s : State) : Host.Outcome State Fault Refusal := finish s (s.opcode 0x0404 o p)
/-- DOMAIN_RESYNC (R475). -/
def execDomainResync (o : Origin) (p : Packet) (s : State) : Host.Outcome State Fault Refusal :=
  finish s (s.opcode 0x0405 o p)
/-- TIME_CONFIG (R476). -/
def execTimeConfig (o : Origin) (p : Packet) (s : State) : Host.Outcome State Fault Refusal := finish s (s.opcode 0x0406 o p)
/-- QUEUE_SET (R477). -/
def execQueueSet (o : Origin) (p : Packet) (s : State) : Host.Outcome State Fault Refusal := finish s (s.opcode 0x0500 o p)
/-- QUEUE_ENABLE (R477). -/
def execQueueEnable (o : Origin) (p : Packet) (s : State) : Host.Outcome State Fault Refusal :=
  finish s (s.opcode 0x0501 o p)
/-- QUEUE_SEQCLR (R477). -/
def execQueueSeqclr (o : Origin) (p : Packet) (s : State) : Host.Outcome State Fault Refusal :=
  finish s (s.opcode 0x0502 o p)
/-- PROPOSE (R478). -/
def execPropose (o : Origin) (p : Packet) (s : State) : Host.Outcome State Fault Refusal := finish s (s.opcode 0x0600 o p)
/-- CONCUR (R478). -/
def execConcur (o : Origin) (p : Packet) (s : State) : Host.Outcome State Fault Refusal := finish s (s.opcode 0x0601 o p)
/-- WITHDRAW (R478). -/
def execWithdraw (o : Origin) (p : Packet) (s : State) : Host.Outcome State Fault Refusal := finish s (s.opcode 0x0602 o p)
/-- PAIR (R481). -/
def execPair (o : Origin) (p : Packet) (s : State) : Host.Outcome State Fault Refusal := finish s (s.opcode 0x0700 o p)
/-- UNPAIR (R481). -/
def execUnpair (o : Origin) (p : Packet) (s : State) : Host.Outcome State Fault Refusal := finish s (s.opcode 0x0701 o p)
/-- TAKEOVER_DRILL (R481). -/
def execTakeoverDrill (o : Origin) (p : Packet) (s : State) : Host.Outcome State Fault Refusal :=
  finish s (s.opcode 0x0702 o p)
/-- SPALL_SET (R482). -/
def execSpallSet (o : Origin) (p : Packet) (s : State) : Host.Outcome State Fault Refusal := finish s (s.opcode 0x0800 o p)
/-- SPALL_STATUS (R482). -/
def execSpallStatus (o : Origin) (p : Packet) (s : State) : Host.Outcome State Fault Refusal :=
  finish s (s.opcode 0x0801 o p)
/-- UNLOCK (R483). -/
def execUnlock (o : Origin) (p : Packet) (s : State) : Host.Outcome State Fault Refusal := finish s (s.opcode 0x0900 o p)
/-- MONITOR (R482). -/
def execMonitor (o : Origin) (p : Packet) (s : State) : Host.Outcome State Fault Refusal := finish s (s.opcode 0x0901 o p)

end Sys2Proof.Machine
end

