-- ==== Sys2Proof/Machine/Alu.lean ====
section
/-! DEFINITION. What the scalar arithmetic operations compute (07 R237-R244), without where the result goes. -/

namespace Sys2Proof.Machine

/-- The X-slot operations on RA and RB, and the functions of UNARY (R237, R239). -/
inductive XOp where
  | add | addc | sub | subc | adds | subs | and | or | xor | andn | shl | shr | sar | min | max | minu | maxu
  | mul | mulh | mulq | mulw | div | divs | divu | rem | remu
  | neg | negs | abs | abss | not | clz | sext8 | sext16 | sext24 | rnd24 | popc
  deriving DecidableEq, Repr

/-- Latency in bundles (R237, R239). -/
def XOp.latency : XOp → Nat
  | .mul | .mulh | .mulq | .mulw => 3
  | .div | .divs | .divu | .rem | .remu => 12
  | _ => 1

/-- Division operations exist in slot X0 only (R238). -/
def XOp.isDiv : XOp → Bool
  | .div | .divs | .divu | .rem | .remu => true
  | _ => false

/-- Shifts by the whole unsigned amount (R244). -/
def shlW (a : Word) (n : Nat) : Word := if n < 32 then a <<< n else 0
def shrW (a : Word) (n : Nat) : Word := if n < 32 then a >>> n else 0
def sarW (a : Word) (n : Nat) : Word := a.sshiftRight (Nat.min n 31)

/-- Leading zero bits, 0 to 32 (R239). -/
def clzW (a : Word) : Nat := if a = 0 then 32 else 31 - a.toNat.log2

/-- Number of 1 bits (R239). -/
def popcW (a : Word) : Nat := ((List.range 32).filter (fun i => a.getLsbD i)).length

/-- Bits [w-1:0] sign-extended to 32. -/
def sextW (a : Word) (w : Nat) : Word := BitVec.ofInt 32 (sgn a.toNat w)

/-- The Q31 product rounded half upwards, with saturation (R242). -/
def mulqI (a b : Word) : Int := (a.toInt * b.toInt + 2 ^ 30) / 2 ^ 31

/-- MULQ: the result and whether it saturated (R242). -/
def mulqW (a b : Word) : Word × Bool :=
  (BitVec.ofInt 32 (satI (mulqI a b) 32), satI (mulqI a b) 32 != mulqI a b)

/-- RND24: the result and whether it saturated (R242). -/
def rnd24W (a : Word) : Word × Bool :=
  let x := a.toInt + 0x80
  if 0x7FFFFFFF < x then (0x7FFFFF00, true) else ((BitVec.ofInt 32 x) &&& 0xFFFFFF00, false)

/-- Signed quotient, truncated towards zero, of a division by a nonzero number (R243). -/
def quotI (a b : Word) : Int := a.toInt.tdiv b.toInt

/-- Signed quotient of a division by zero (R243). -/
def quotZero (a : Word) : Word := if a.msb then 0x80000000 else 0x7FFFFFFF

/-- What an X operation computes: 64 bits (RD, or the pair RD of MULW) and the flags it writes. -/
def XOp.eval (op : XOp) (a b : Word) (cin : Bool) : DWord × FlgW :=
  let w (r : Word) (f : FlgW) : DWord × FlgW := (r.setWidth 64, f)
  match op with
  | .add => let r := addFlags a b false; w r.1 r.2
  | .addc => let r := addFlags a b cin; w r.1 r.2
  | .sub => let r := subFlags a b true; w r.1 r.2
  | .subc => let r := subFlags a b cin; w r.1 r.2
  | .adds => let r := satZN (a.toInt + b.toInt); w r.1 r.2
  | .subs => let r := satZN (a.toInt - b.toInt); w r.1 r.2
  | .and => w (a &&& b) (zn (a &&& b))
  | .or => w (a ||| b) (zn (a ||| b))
  | .xor => w (a ^^^ b) (zn (a ^^^ b))
  | .andn => w (a &&& ~~~b) (zn (a &&& ~~~b))
  | .shl => w (shlW a b.toNat) (zn (shlW a b.toNat))
  | .shr => w (shrW a b.toNat) (zn (shrW a b.toNat))
  | .sar => w (sarW a b.toNat) (zn (sarW a b.toNat))
  | .min => w (if a.toInt ≤ b.toInt then a else b) flgNone
  | .max => w (if a.toInt ≤ b.toInt then b else a) flgNone
  | .minu => w (if a.toNat ≤ b.toNat then a else b) flgNone
  | .maxu => w (if a.toNat ≤ b.toNat then b else a) flgNone
  | .mul => w (a * b) flgNone
  | .mulh => w (BitVec.ofInt 32 (a.toInt * b.toInt / 2 ^ 32)) flgNone
  | .mulq => let r := mulqW a b; w r.1 (if r.2 then sticky fS else flgNone)
  | .mulw => (BitVec.ofInt 64 (a.toInt * b.toInt), flgNone)
  | .div =>
    if b = 0 then w (quotZero a) ((fV, 0) |> flgJoin (sticky fDZ))
    else w (BitVec.ofInt 32 (quotI a b)) (fV, if satI (quotI a b) 32 = quotI a b then 0 else fV)
  | .divs =>
    if b = 0 then w (quotZero a) (sticky fDZ)
    else w (BitVec.ofInt 32 (satI (quotI a b) 32)) (if satI (quotI a b) 32 = quotI a b then flgNone else sticky fS)
  | .divu => if b = 0 then w 0xFFFFFFFF (sticky fDZ) else w (a / b) flgNone
  | .rem => if b = 0 then w a (sticky fDZ) else w (BitVec.ofInt 32 (a.toInt.tmod b.toInt)) flgNone
  | .remu => if b = 0 then w a (sticky fDZ) else w (a % b) flgNone
  | .neg => let r := subFlags 0 a true; w r.1 r.2
  | .negs => let r := satZN (-a.toInt); w r.1 r.2
  | .abs =>
    let r : Word := if a.msb then -a else a
    w r (flgJoin (zn r) (fV, if a = 0x80000000 then fV else 0))
  | .abss => let r := satZN (if a.msb then -a.toInt else a.toInt); w r.1 r.2
  | .not => w (~~~a) (zn (~~~a))
  | .clz => w (BitVec.ofNat 32 (clzW a)) flgNone
  | .sext8 => w (sextW a 8) flgNone
  | .sext16 => w (sextW a 16) flgNone
  | .sext24 => w (sextW a 24) flgNone
  | .rnd24 => let r := rnd24W a; w r.1 (if r.2 then sticky fS else flgNone)
  | .popc => w (BitVec.ofNat 32 (popcW a)) flgNone

/-- The comparison CC of CMP and CMPI (R240); CC 7 is undefined. -/
def cmpHolds (cc : Nat) (a b : Word) : Bool :=
  match cc with
  | 0 => a == b
  | 1 => a != b
  | 2 => a.toInt < b.toInt
  | 3 => a.toInt ≤ b.toInt
  | 4 => a.toNat < b.toNat
  | 5 => a.toNat ≤ b.toNat
  | _ => (a &&& b) != 0

/-- The flags of CMP and CMPI: as SUB, or for TST Z and N as AND (R240). -/
def cmpFlags (cc : Nat) (a b : Word) : FlgW := if cc = 6 then zn (a &&& b) else (subFlags a b true).2

end Sys2Proof.Machine
end

