-- ==== Sys2Proof/Machine/CoreMem.lean ====
section
/-! DEFINITION. How a core's loads and stores reach memory: the store buffer, forwarding, the stalls of a load (07 R249, 09
R312-R321), and the tally digest of its stores (12 R412). -/

namespace Sys2Proof.Machine

/-! ## Stores (09 R319, R320) -/

/-- The 16-byte record of a store (12 R412): 48-bit address, 2 bytes of byte enables, 8 bytes of data (log entry 46). -/
def StPart.record (p : StPart) : List Byte :=
  bytesOf p.addr 6 ++ bytesOf (2 ^ p.size - 1) 2 ++ bytesOf (p.data.toNat % 256 ^ p.size) 8

/-- The grain whose digest a store of core c enters: that of the grain program, or for an event program the next (12 R412). -/
def State.digGrain (s : State) (c : Nat) : Nat :=
  let k := s.core c
  if k.prog == .event then (s.bench (c / 8)).grain.toNat + 1 else k.grain.toNat

/-- The digest takes the stores of an entry that leaves the buffer. -/
def digestEntry (k : Core) (e : SbEntry) : Core :=
  { k with digs := tset 0 k.digs e.digGrain (crc32cFrom (tget 0 k.digs e.digGrain) (e.parts.flatMap (fun p => p.record))) }

/-- Stores by 64-byte line, lines in the order of their first store: one port access each (08 R297). -/
def byLine : List StPart → List (List StPart)
  | [] => []
  | p :: ps =>
    let same (x : StPart) : Bool := x.addr / 64 == p.addr / 64
    insertLine p same (byLine ps)
where
  /-- Puts a store before those of its line. -/
  insertLine (p : StPart) (same : StPart → Bool) : List (List StPart) → List (List StPart)
    | gs =>
      match gs.find? (fun g => g.any same) with
      | some g => (p :: g) :: gs.filter (fun g => !g.any same)
      | none => [p] :: gs

/-- Store-buffer entries go in as far as there is room; the rest waits, and the core with it. -/
def fillSb (k : Core) (es : List SbEntry) : Core :=
  let w := k.sbWait ++ es
  let room := 8 - k.sb.length
  { k with sb := k.sb ++ w.take room, sbWait := w.drop room }

/-- The stores of one operation of the bundle at E1 enter the store buffer, one entry for each port access. -/
def State.store (s : State) (c : Nat) (ps : List StPart) : State :=
  let g := s.digGrain c
  let es := (byLine ps).map fun l => ({ parts := l, ctl := l.any (fun p => inCtl p.addr), digGrain := g, bundle := (s.core c).t } : SbEntry)
  s.modCore c fun k => { fillSb k es with ownStore := false }

/-- The access of a store of core c to banks: made as one, or refused under 05 R173. -/
def State.putParts (s : State) (c : Nat) (ps : List StPart) : State :=
  match ps with
  | [] => s
  | p :: _ =>
    let n := bankOf p.addr
    if !s.awake n then s.denied n c p.addr true
    else if !s.mayWrite c n then s.denied n c p.addr false
    else
      let s1 := ps.foldl (fun s p => s.poke p.addr (bytesOf p.data.toNat p.size)) s
      s1.wrote c ((ps.flatMap (fun p => wordsOf p.addr p.size)).eraseDups)

/-- An other-bench store at its bank's port B (09 R315): it may meet port A reads of its words (05 R167). -/
def State.putFar (s : State) (c : Nat) (ps : List StPart) : State :=
  match ps with
  | [] => s
  | p :: _ =>
    if s.awake (bankOf p.addr) && s.mayWrite c (bankOf p.addr) && ps.any (fun x => s.portAReads x.addr x.size) then
      let s1 := s.stir.putParts c ps
      if Config.freeBit s.fresh then ps.foldl (fun s x => s.tear x.addr (bytesOf x.data.toNat x.size)) (s1.countBusy p.addr) else s1
    else s.putParts c ps

/-- A latched port B write is made. -/
def State.putLatched (s : State) (who : Nat) (e : SbEntry) : State :=
  if who = 141 then
    match e.parts with
    | [] => s
    | p :: _ => s.paramPut p.addr (e.parts.flatMap (fun x => bytesOf x.data.toNat x.size))
  else s.putFar who e.parts

/-- A bank access of core c at address a waits: for a borrowed stripe, or for another core's LOCK sequence (09 R312). -/
def State.coreWaits (s : State) (c a : Nat) : Bool := s.inStripe a || (inBanks a && s.lockedFor (bankOf a) c)

/-- The latched port B writes that no longer wait are made, in their order. -/
def State.flushStores (s : State) : State :=
  s.fab.stores.foldl (fun s x =>
    if x.2.parts.any (fun p => s.borrowed p.addr) then s.latchStore x.1 x.2 else s.putLatched x.1 x.2)
    { s with fab := { s.fab with stores := [] } }

/-- An entry leaves the store buffer for banks: made, or latched where it goes to another bench whose bank holds it up (09
R319). -/
def State.storeOut (s : State) (c : Nat) (e : SbEntry) : State :=
  match e.parts with
  | [] => s
  | p :: _ =>
    if regionOf c p.addr == .other then
      if e.parts.any (fun x => s.coreWaits c x.addr) then s.latchStore c e else s.putFar c e.parts
    else s.putParts c e.parts

/-! ## Loads (07 R249, 09 R312-R321) -/

def SbEntry.overlaps (e : SbEntry) (x : Elem) : Bool := !e.ctl && x.addrs.any (fun a => (e.byteAt a).isSome)
def SbEntry.holds (e : SbEntry) (x : Elem) : Bool := x.addrs.all (fun a => (e.byteAt a).isSome)
def SbEntry.dataFor (e : SbEntry) (x : Elem) : DWord := BitVec.ofNat 64 (natOf (x.addrs.map (fun a => (e.byteAt a).getD 0)))

/-- The youngest entry older than the load's bundle that overlaps an access (R321). -/
def youngest (k : Core) (bundle : Nat) (xs : List Elem) : Option SbEntry :=
  (k.sb ++ k.sbWait).reverse.find? (fun e => e.bundle < bundle && xs.any (fun x => e.overlaps x))

/-- One element read on a bank port; a refused read gives 0 (05 R173). An other-bench read is one of port B, which the
fabric carries as read where it met a port A write (05 R161, R170). -/
def readElem (c : Nat) (sx : State × List Elem) (x : Elem) : State × List Elem :=
  let r := if regionOf c x.addr == .other then sx.1.portReadFree c x.addr x.size else sx.1.portRead c x.addr x.size
  (r.1, sx.2 ++ [x.got (BitVec.ofNat 64 (r.2.getD 0))])

/-- One port access of a load to banks: forwarded from the store buffer, made, or none where it has to wait (R321): for an
overlapping store, for a stripe or a lock, or for the fabric's return (`back` false, another bench). -/
def State.tryAccess (s : State) (c bundle : Nat) (back : Bool) (xs : List Elem) : Option (State × List Elem) :=
  match youngest (s.core c) bundle xs with
  | some e => if xs.all (fun x => e.holds x) then some (s, xs.map (fun x => x.got (e.dataFor x))) else none
  | none =>
    if xs.any (fun x => s.coreWaits c x.addr || (!back && regionOf c x.addr == .other)) then none
    else some (xs.foldl (readElem c) (s, []))

/-- Elements of a job whose data are to come, in banks, in one line. -/
def Elem.waits (x : Elem) (line : Nat) : Bool := x.data.isNone && inBanks x.addr && x.addr / 64 == line

/-- Elements with their data in place of those that waited. -/
def putElems (xs : List Elem) : List Elem → List Elem
  | [] => []
  | y :: ys =>
    match xs.find? (fun x => x.addr == y.addr && x.size == y.size && x.dst == y.dst && y.data.isNone) with
    | some x => x :: putElems xs ys
    | none => y :: putElems xs ys

/-- One line of a load's bank elements is accessed; an LDX sets the reservation at its access, on a line of a bank of the
core's own bench (07 R267). -/
def State.accessLine (c : Nat) (back : Bool) (sj : State × LoadJob) (line : Nat) : State × LoadJob :=
  let j := sj.2
  match sj.1.tryAccess c j.bundle back (j.elems.filter (fun x => x.waits line)) with
  | some (s1, xs) =>
    let s2 := if j.ldx && regionOf c (line * 64) == .own then s1.modCore c (fun k => { k with res := some line }) else s1
    (s2, { j with elems := putElems xs j.elems })
  | none => sj

/-- The lines of a load's bank elements that still wait, in the order of the elements (08 R297). -/
def bankLines (j : LoadJob) : List Nat :=
  ((j.elems.filter (fun x => x.data.isNone && inBanks x.addr)).map (fun x => x.addr / 64)).eraseDups

/-- A load with all its data: the results are written at its exposed distance (R304, 08 R296). Port B writes of the cycle
of its bundle can still tear it (05 R167). -/
def State.finishLoad (s : State) (c : Nat) (j : LoadJob) : State :=
  s.modCore c fun k =>
    let k1 := landLoad j k
    if j.elems.any (fun x => regionOf c x.addr == .own) then { k1 with reads := k1.reads ++ [j] } else k1

/-- A job that has all its data ends; another goes on waiting. -/
def State.keepJob (s : State) (c : Nat) (j : LoadJob) : State :=
  if j.elems.all (fun x => x.data.isSome) then s.finishLoad c j
  else s.modCore c fun k => { k with jobs := k.jobs ++ [j] }

/-- A far-window lookup of one line of a load (R316): a hit gives the data; a miss is to be filled. -/
def farLookup (c : Nat) (sj : State × LoadJob) (line : Nat) : State × LoadJob :=
  let s := sj.1
  let j := sj.2
  match s.fwcFind (c / 8) line with
  | some d =>
    (if s.perfOn c then s.addFld (coreReg A.perfFwcnt c) 0 16 1 else s,
     { j with elems := j.elems.map (fun x => if inFar x.addr && x.addr / 64 == line then
        x.got (BitVec.ofNat 64 (d.toNat / 256 ^ (x.addr % 64) % 256 ^ x.size)) else x) })
  | none =>
    (if s.perfOn c then s.addFld (coreReg A.perfFwcnt c) 16 16 1 else s, { j with lines := j.lines ++ [line] })

/-- The lines of a load's far elements. -/
def farLines (j : LoadJob) : List Nat := ((j.elems.filter (fun x => inFar x.addr)).map (fun x => x.addr / 64)).eraseDups

/-- A load of the bundle at E1, with the exposed latency of its elements' regions. -/
def State.load (s : State) (c slot lat : Nat) (xs : List Elem) (ldx : Bool) : State :=
  let t := (s.core c).t
  let j : LoadJob := ⟨t + lat, t, slot, xs, [], ldx⟩
  let s1 := s.perf c A.perfLine ((farLines j).length + (bankLines j).length - 1)
  let r1 := (farLines j).foldl (farLookup c) (s1, j)
  let r2 := (bankLines j).foldl (State.accessLine c false) r1
  r2.1.keepJob c r2.2

/-- The loads that wait try again: after a write of the store buffer, a stripe's release, the end of a lock. -/
def State.retryLoads (s : State) (c : Nat) : State :=
  let js := (s.core c).jobs
  js.foldl (fun s j =>
    let r := (bankLines j).foldl (State.accessLine c false) (s, j)
    r.1.keepJob c r.2) (s.modCore c fun k => { k with jobs := [] })

/-- The first load of core c that satisfies p makes progress by f; the others keep their places. -/
def State.onJob (s : State) (c : Nat) (p : LoadJob → Bool) (f : State → LoadJob → State × LoadJob) : State :=
  match (s.core c).jobs.find? p with
  | none => s
  | some j =>
    let r := f s j
    let done := r.2.elems.all (fun x => x.data.isSome)
    let s1 := r.1.modCore c fun k =>
      { k with jobs := if done then k.jobs.erase j else k.jobs.map (fun x => if x = j then r.2 else x) }
    (if done then s1.finishLoad c r.2 else s1).settle c

/-- The data of a line that has filled reach the load of a core that waits for it, or nothing where a lookup in D asked. -/
def State.takeFill (s : State) (c line : Nat) (d : BitVec 512) : State :=
  if fillLine (s.core c) ≠ some line then s
  else if (s.core c).jobs.all (fun j => j.lines.isEmpty) then s.modCore c fun k => { k with early := k.early.drop 1 }
  else
    s.onJob c (fun j => !j.lines.isEmpty) fun s j =>
      (s.perfStall c A.perfFwmiss,
       { j with lines := j.lines.drop 1, elems := j.elems.map (fun x => if x.data.isNone && x.addr / 64 == line then
          x.got (BitVec.ofNat 64 (d.toNat / 256 ^ (x.addr % 64) % 256 ^ x.size)) else x) })

/-- FAR_WINDOW_FILL (R316, R317, 10 R335): the line of the core's outstanding fill arrives, for every core of the bench that
waits for it (10 R337). -/
def farWindowFill (c : CoreId) (s : State) : State :=
  let b := c.val / 8
  s.within b <| if !s.islandUp 32 then s else
    match fillLine (s.core c.val) with
    | none => s
    | some line =>
      let r := s.fwcFill b c.val line
      (List.range 8).foldl (fun s i => s.takeFill (8 * b + i) line r.2) r.1

/-- The first line of another bench that a load waits for. -/
def otherLine (c : Nat) (j : LoadJob) : Option Nat := (bankLines j).find? (fun l => regionOf c (l * 64) == .other)

/-- The seam lost what an access to a line of another bench had read (17 R528; path 4, fabric to bench): the load receives 0 as
one that is refused, under source 28, whose reason no rule gives (log entry 87). What the store buffer forwards, or still waits,
crosses no seam. -/
def State.seamLost (s : State) (c : Nat) (j : LoadJob) (line : Nat) (r : State × LoadJob) : State × LoadJob :=
  match j.elems.filter (fun x => x.waits line) with
  | [] => r
  | x :: xs =>
    if (youngest (s.core c) j.bundle (x :: xs)).isSome || r.2.elems.any (fun y => y.waits line) then r
    else (((r.1.raise 6 4 0).denied (bankOf x.addr) c x.addr (Config.freeBit r.1.fresh)).stir,
      { r.2 with elems := putElems ((x :: xs).map (fun y => y.got 0)) j.elems })

/-- OTHER_BENCH_RETURN (R314): the word of an other-bench load returns through the fabric; `seamUe`: with an uncorrectable
error of the seam. -/
def otherBenchReturn (c : CoreId) (seamUe : Bool) (s : State) : State :=
  let c := c.val
  if s.islandUp (c / 8) && s.islandUp 12 then
    s.onJob c (fun j => (otherLine c j).isSome) fun s j =>
      match otherLine c j with
      | some l =>
        let r := State.accessLine c true (s.perfStall c A.perfXb, j) l
        if seamUe then s.seamLost c j l r else r
      | none => (s, j)
  else s

/-! ## Drains (07 R263, R264, R267) -/

/-- STX is made at E1 (07 R267): it stores if the reservation is set and covers the line, bypassing the store buffer; the
status goes to SR at latency 4; the reservation is cleared. -/
def State.doStx (s : State) (c : Nat) (x : LArgs) (addr due : Nat) (data : Word) : State :=
  let k := s.core c
  let ok := k.res == some (addr / 64)
  let p : StPart := ⟨addr, 4, data.setWidth 64⟩
  let s1 := if ok then (s.modCore c fun k => digestEntry k ⟨[p], false, s.digGrain c, k.t⟩).putParts c [p] else s
  s1.modCore c fun k =>
    { k with res := none, drain := .none,
             pws := pwInsert ⟨due, k.t, x.slot.val, .s (x.ext.setWidth 6), BitVec.ofNat 512 (b2n ok)⟩ k.pws }

/-- A stall for the store buffer ends when it is empty (09 R309); an STX waits for the stores of its own bundle too. -/
def State.endDrain (s : State) (c : Nat) : State :=
  let k := s.core c
  match k.drain with
  | .none => s
  | .fence => if k.sb.isEmpty && k.sbWait.isEmpty then (s.perfStall c A.perfSb).modCore c fun k => { k with drain := .none } else s
  | .isync =>
    if k.sb.isEmpty && k.sbWait.isEmpty then
      (s.perfStall c A.perfSb).modCore c fun k => { k with drain := .none, fpath := [] }
    else s
  | .stx x a t v =>
    if !(k.sb ++ k.sbWait).isEmpty || k.ownStore || s.coreWaits c a then s
    else (s.perfStall c A.perfSb).doStx c x a t v

/-- A load of core c waits for a store that it overlaps only in part (R321): nothing else holds an access to its own bench. -/
def State.storeBlocked (s : State) (c : Nat) : Bool :=
  (s.core c).jobs.any fun j => (bankLines j).any fun l => regionOf c (l * 64) == .own && !s.coreWaits c (l * 64)

/-- After an entry has left the store buffer: waiting entries go in, waiting loads and drains go on, with their cycles in
`PERF_SB` (R325). -/
def State.drained (s : State) (c : Nat) : State :=
  let wasFull := !(s.core c).sbWait.isEmpty
  let s1 := s.modCore c fun k => fillSb k []
  let s2 := if wasFull && (s1.core c).sbWait.isEmpty then s1.perfStall c A.perfSb else s1
  let s3 := s2.retryLoads c
  let s4 := if s2.storeBlocked c && !s3.storeBlocked c then s3.perfStall c A.perfSb else s3
  (s4.endDrain c).settle c

/-- What waited for a stripe or a lock goes on: latched writes, and the cores of bench b (09 R312). -/
def State.wakeBench (s : State) (b : Nat) : State :=
  (List.range 8).foldl (init := s.flushStores) fun s i =>
    let c := 8 * b + i
    if (s.core c).jobs.isEmpty && (s.core c).drain == .none then s
    else (((s.perfStall c A.perfWait).retryLoads c).endDrain c).settle c

/-- LOCK_END (07 R265): the last bundle of core c's sequence has issued and every store it made to the bank has been written.
A core that waits with a LOCK tests the bank then. -/
def lockEnd (c : CoreId) (s : State) : State :=
  let c := c.val
  let k := s.core c
  let ended (l : LockSt) : Bool := l.last ≤ k.t &&
    !(k.sb ++ k.sbWait).any (fun e => l.first ≤ e.bundle && e.bundle ≤ l.last && e.touches l.bank)
  if k.locks.any (fun l => l.taken && ended l) && s.islandUp (c / 8) then
    let s1 := s.modCore c fun k => { k with locks := k.locks.filter (fun l => !ended l) }
    (s1.grantLocks.wakeBench (c / 8)).settle c
  else s

/-! ## The commands -/

/-- FAR_WINDOW_FILL (09 R316, R317). -/
def execFarWindowFill (c : CoreId) (s : State) : Host.Outcome State Fault Refusal := finish s (farWindowFill c s)
/-- OTHER_BENCH_RETURN (09 R314). -/
def execOtherBenchReturn (c : CoreId) (ue : Bool) (s : State) : Host.Outcome State Fault Refusal := finish s (otherBenchReturn c ue s)
/-- LOCK_END (07 R265). -/
def execLockEnd (c : CoreId) (s : State) : Host.Outcome State Fault Refusal := finish s (lockEnd c s)

end Sys2Proof.Machine
end

