-- ==== Sys2Proof/Machine/Scalar.lean ====
section
/-! DEFINITION. The scalar operations of the X and K slots (07 R235-R244, R251-R253, R269). -/

namespace Sys2Proof.Machine

/-! ## The frame of an operation -/

/-- An operation of the bundle at E1 of core c (06 R201, R222, R228): nothing where the bundle is squashed or has faulted;
its fault; nothing where its condition is false; else its effect. Operations read what stands at issue, since results are
written at later bundles. -/
def State.opRun (s : State) (c : Nat) (fault : Option FltRec) (go : Bool) (f : State → State) : State :=
  if (s.core c).squash then s
  else
    match fault with
    | some x => s.opFaulted c x
    | none => if go then f s else s

/-- A condition field whose encoding is reserved in the core's mode (R199, R200). -/
def State.badCond (s : State) (c : Nat) (cond : BitVec 4) : Bool := condIllegal (s.predMode c) cond.toNat

/-- The condition of a long operation, or of a short one, which has none. -/
def State.holds4 (s : State) (c : Nat) (short : Bool) (cond : BitVec 4) : Bool := short || s.condTrue c cond.toNat

/-- ILLEGAL where a check fails. -/
def illegalIf (b : Bool) (slot : Nat) : Option FltRec := if b then some (fltIllegal slot) else none

/-! ## X slots -/

def xSlot (n : Fin 2) : Nat := 4 + n.val

/-- Faults of a register form: R238 (division in X1), R190 (an odd pair), R243 (DZ). -/
def State.xFault (s : State) (c : Nat) (op : XOp) (x : XArgs) : Option FltRec :=
  if (!x.short && s.badCond c x.cond) || (op.isDiv && x.slot == 1) || (op == .mulw && oddPair x.rd.toNat) then
    some (fltIllegal (xSlot x.slot))
  else if op.isDiv && s.holds4 c x.short x.cond && s.sreg c x.rb.toNat == 0 && s.dzt c then
    some (fltOp cDZ (xSlot x.slot))
  else none

/-- The effect of a register form: the result to RD, or the pair RD of MULW; the flags unless short (R269). -/
def State.xEff (s : State) (c : Nat) (op : XOp) (x : XArgs) : State :=
  let r := op.eval (s.sreg c x.ra.toNat) (s.sreg c x.rb.toNat) (bitAt (s.core c).flg.toNat 2)
  let s1 := if op == .mulw then s.schedPair c (xSlot x.slot) op.latency x.rd.toNat r.1
    else s.schedS c (xSlot x.slot) op.latency x.rd.toNat (r.1.setWidth 32)
  if x.short then s1 else s1.schedFlg c (xSlot x.slot) op.latency r.2

/-- A register or unary operation. -/
def State.xRow (s : State) (c : Nat) (op : XOp) (x : XArgs) : State :=
  s.opRun c (s.xFault c op x) (s.holds4 c x.short x.cond) (fun s => s.xEff c op x)

/-- A predicate of a comparison: all ones or all zeros (R240). -/
def predAll (b : Bool) : DWord := if b then BitVec.allOnes 64 else 0

/-- CMP and CMPI: PD and the flags of the comparison (R240). -/
def State.cmpEff (s : State) (c slot pd cc : Nat) (a b : Word) : State :=
  (s.schedP c slot 1 pd (predAll (cmpHolds cc a b))).schedFlg c slot 1 (cmpFlags cc a b)

def State.cmpFault (s : State) (c slot : Nat) (cond : BitVec 4) (pd cc : BitVec 3) : Option FltRec :=
  illegalIf (s.badCond c cond || pd == 0 || cc == 7) slot

def State.cmpRow (s : State) (c : Nat) (x : CmpArgs) : State :=
  s.opRun c (s.cmpFault c (xSlot x.slot) x.cond x.pd x.cc) (s.condTrue c x.cond.toNat) fun s =>
    s.cmpEff c (xSlot x.slot) x.pd.toNat x.cc.toNat (s.sreg c x.ra.toNat) (s.sreg c x.rb.toNat)

def State.cmpiRow (s : State) (c : Nat) (x : CmpiArgs) : State :=
  s.opRun c (s.cmpFault c (xSlot x.slot) x.cond x.pd x.cc) (s.condTrue c x.cond.toNat) fun s =>
    s.cmpEff c (xSlot x.slot) x.pd.toNat x.cc.toNat (s.sreg c x.ra.toNat) (x.imm.signExtend 32)

/-- ADDI (R237): RD + IMM12; the short ADDI leaves FLG unchanged. -/
def State.addiRow (s : State) (c : Nat) (x : AddiArgs) : State :=
  s.opRun c (illegalIf (!x.short && s.badCond c x.cond) (xSlot x.slot)) (s.holds4 c x.short x.cond) fun s =>
    let r := addFlags (s.sreg c x.rd.toNat) (x.imm.signExtend 32) false
    let s1 := s.schedS c (xSlot x.slot) 1 x.rd.toNat r.1
    if x.short then s1 else s1.schedFlg c (xSlot x.slot) 1 r.2

/-- LOGI (R237): RD op IMM10, zero-extended; LF 0b11 is reserved. -/
def logiW (lf : BitVec 2) (a b : Word) : Word := if lf = 0 then a &&& b else if lf = 1 then a ||| b else a ^^^ b

def State.logiRow (s : State) (c : Nat) (x : LogiArgs) : State :=
  s.opRun c (illegalIf (s.badCond c x.cond || x.lf == 3) (xSlot x.slot)) (s.condTrue c x.cond.toNat) fun s =>
    let r := logiW x.lf (s.sreg c x.rd.toNat) (x.imm.setWidth 32)
    (s.schedS c (xSlot x.slot) 1 x.rd.toNat r).schedFlg c (xSlot x.slot) 1 (zn r)

/-- SHIFTI (R237, R244): RD shifted by AMT; SF 0b11 is reserved. -/
def shiftW (sf : BitVec 2) (a : Word) (n : Nat) : Word := if sf = 0 then shlW a n else if sf = 1 then shrW a n else sarW a n

def State.shiftiRow (s : State) (c : Nat) (x : ShiftiArgs) : State :=
  s.opRun c (illegalIf (s.badCond c x.cond || x.sf == 3) (xSlot x.slot)) (s.condTrue c x.cond.toNat) fun s =>
    let r := shiftW x.sf (s.sreg c x.rd.toNat) x.amt.toNat
    (s.schedS c (xSlot x.slot) 1 x.rd.toNat r).schedFlg c (xSlot x.slot) 1 (zn r)

/-- Short SHLI (R269). -/
def State.shliRow (s : State) (c : Nat) (x : ShliArgs) : State :=
  s.opRun c none true fun s =>
    s.schedS c (xSlot x.slot) 1 x.rd.toNat (shlW (s.sreg c x.rd.toNat) x.imm.toNat)

/-! ## K slot -/

/-- The constant operation (R251). -/
def State.constRow (s : State) (c : Nat) (x : ConstArgs) : State :=
  s.opRun c (illegalIf (s.badCond c x.cond) 7) (s.condTrue c x.cond.toNat) fun s =>
    s.schedS c 7 1 x.rd.toNat (if x.hi then x.imm ++ (s.sreg c x.rd.toNat).setWidth 16 else x.imm.signExtend 32)

/-- MOV (R252, R269). -/
def State.movFault (s : State) (c : Nat) (x : MovArgs) : Option FltRec :=
  illegalIf (!x.short && s.badCond c x.cond) x.slot.val

def State.movRow (s : State) (c : Nat) (x : MovArgs) : State :=
  s.opRun c (s.movFault c x) (s.holds4 c x.short x.cond) fun s => s.schedS c x.slot.val 1 x.rd.toNat (s.sreg c x.ra.toNat)

/-- Special register numbers: those that exist, and those that can be written (06 R195). -/
def srReads (n : Nat) : Bool := n ≤ 6 || (8 ≤ n && n ≤ 10) || (12 ≤ n && n ≤ 14) || (16 ≤ n && n ≤ 23)
def srWrites (n : Nat) : Bool := n == 0 || (4 ≤ n && n ≤ 6) || (8 ≤ n && n ≤ 10) || (12 ≤ n && n ≤ 14)

/-- A segment register as its selector: index and cached GEN (06 R213). -/
def selectorOf (g : Seg) : Word := BitVec.ofNat 32 (g.idx.toNat + dGen g.desc * 2 ^ 16)

/-- CID: core number and bench (06 R189). -/
def cidOf (c : Nat) : Word := BitVec.ofNat 32 (c + c / 8 * 2 ^ 7)

/-- The value of a special register (06 R195). -/
def State.srValue (s : State) (c n : Nat) : Word :=
  let k := s.core c
  if n = 0 then k.flg
  else if n = 1 then k.gsn
  else if n = 2 then cidOf c
  else if n = 3 then k.bpc
  else if n ≤ 6 then tget 0 k.lc (n - 4)
  else if n ≤ 10 then tget 0 k.ls (n - 8)
  else if n ≤ 14 then tget 0 k.le (n - 12)
  else selectorOf (s.segReg c (n - 16))

/-- What a write of a special register names. -/
def srTgt (n : Nat) : Tgt :=
  if n = 0 then .flg (BitVec.ofNat 32 flgAll)
  else if n ≤ 6 then .lc (BitVec.ofNat 2 (n - 4))
  else if n ≤ 10 then .ls (BitVec.ofNat 2 (n - 8))
  else .le (BitVec.ofNat 2 (n - 12))

def State.movsrFault (s : State) (c : Nat) (x : MovsrArgs) : Option FltRec :=
  let n := x.sr.toNat
  illegalIf (s.badCond c x.cond || (if x.dir then !srWrites n else !srReads n) ||
    (x.dir && n == 0 && (s.sreg c x.r.toNat &&& ~~~(BitVec.ofNat 32 flgAll)) != 0)) 7

/-- MOVSR (R252, 06 R195, R197). -/
def State.movsrRow (s : State) (c : Nat) (x : MovsrArgs) : State :=
  s.opRun c (s.movsrFault c x) (s.condTrue c x.cond.toNat) fun s =>
    if x.dir then s.sched c 7 1 (srTgt x.sr.toNat) ((s.sreg c x.r.toNat).setWidth 512)
    else s.schedS c 7 1 x.r.toNat (s.srValue c x.sr.toNat)

/-- MOVA (R252); AF 0b11 is undefined. -/
def State.movaRow (s : State) (c : Nat) (x : MovaArgs) : State :=
  s.opRun c (illegalIf (s.badCond c x.cond || x.af == 3) 7) (s.condTrue c x.cond.toNat) fun s =>
    if x.af = 0 then s.schedA c 7 x.a.toNat (s.sreg c x.r.toNat)
    else if x.af = 1 then s.schedS c 7 1 x.r.toNat (s.areg c x.a.toNat)
    else s.schedA c 7 x.a.toNat (s.areg c x.a.toNat + x.imm.signExtend 32)

/-- POP's functions (R253). -/
def popFn (pfn : Nat) (a b : DWord) : DWord :=
  match pfn with
  | 0 => a &&& b
  | 1 => a ||| b
  | 2 => a ^^^ b
  | 3 => a &&& ~~~b
  | 4 => ~~~a
  | 5 => a
  | 6 => BitVec.allOnes 64
  | _ => 0

/-- POP's faults: p0 as destination, a reserved field that is not 0 (R253). -/
def State.popFault (s : State) (c : Nat) (x : PopArgs) : Option FltRec :=
  let f := x.pfn.toNat
  illegalIf (s.badCond c x.cond || x.pd == 0 || (4 ≤ f && x.pb != 0) || (6 ≤ f && x.pa != 0)) 7

def State.popRow (s : State) (c : Nat) (x : PopArgs) : State :=
  s.opRun c (s.popFault c x) (s.condTrue c x.cond.toNat) fun s =>
    s.schedP c 7 1 x.pd.toNat (popFn x.pfn.toNat (s.preg c x.pa.toNat) (s.preg c x.pb.toNat))

/-- PMOV (R252): between a predicate and a pair. -/
def State.pmovFault (s : State) (c : Nat) (x : PmovArgs) : Option FltRec :=
  illegalIf (s.badCond c x.cond || oddPair x.rp.toNat || (x.dir && x.p == 0)) 7

def State.pmovRow (s : State) (c : Nat) (x : PmovArgs) : State :=
  s.opRun c (s.pmovFault c x) (s.condTrue c x.cond.toNat) fun s =>
    if x.dir then s.schedP c 7 1 x.p.toNat (s.spair c x.rp.toNat) else s.schedPair c 7 1 x.rp.toNat (s.preg c x.p.toNat)

/-- Short MOVI (R269). -/
def State.moviRow (s : State) (c : Nat) (x : MoviArgs) : State :=
  s.opRun c none true fun s => s.schedS c 7 1 x.rd.toNat (x.imm.signExtend 32)

/-- Short PNOT (R269): PD becomes NOT PA. -/
def State.pnotRow (s : State) (c : Nat) (x : PnotArgs) : State :=
  s.opRun c (illegalIf (x.pd == 0) 7) true fun s => s.schedP c 7 1 x.pd.toNat (~~~(s.preg c x.pa.toNat))

/-! ## The commands -/

/-- ADD (07 R237). -/
def execAdd (c : CoreId) (x : XArgs) (s : State) : Host.Outcome State Fault Refusal := finish s (s.xRow c.val .add x)
/-- ADDC (07 R237). -/
def execAddc (c : CoreId) (x : XArgs) (s : State) : Host.Outcome State Fault Refusal := finish s (s.xRow c.val .addc x)
/-- SUB (07 R237). -/
def execSub (c : CoreId) (x : XArgs) (s : State) : Host.Outcome State Fault Refusal := finish s (s.xRow c.val .sub x)
/-- SUBC (07 R237). -/
def execSubc (c : CoreId) (x : XArgs) (s : State) : Host.Outcome State Fault Refusal := finish s (s.xRow c.val .subc x)
/-- ADDS (07 R237). -/
def execAdds (c : CoreId) (x : XArgs) (s : State) : Host.Outcome State Fault Refusal := finish s (s.xRow c.val .adds x)
/-- SUBS (07 R237). -/
def execSubs (c : CoreId) (x : XArgs) (s : State) : Host.Outcome State Fault Refusal := finish s (s.xRow c.val .subs x)
/-- AND (07 R237). -/
def execAnd (c : CoreId) (x : XArgs) (s : State) : Host.Outcome State Fault Refusal := finish s (s.xRow c.val .and x)
/-- OR (07 R237). -/
def execOr (c : CoreId) (x : XArgs) (s : State) : Host.Outcome State Fault Refusal := finish s (s.xRow c.val .or x)
/-- XOR (07 R237). -/
def execXor (c : CoreId) (x : XArgs) (s : State) : Host.Outcome State Fault Refusal := finish s (s.xRow c.val .xor x)
/-- ANDN (07 R237). -/
def execAndn (c : CoreId) (x : XArgs) (s : State) : Host.Outcome State Fault Refusal := finish s (s.xRow c.val .andn x)
/-- SHL (07 R237). -/
def execShl (c : CoreId) (x : XArgs) (s : State) : Host.Outcome State Fault Refusal := finish s (s.xRow c.val .shl x)
/-- SHR (07 R237). -/
def execShr (c : CoreId) (x : XArgs) (s : State) : Host.Outcome State Fault Refusal := finish s (s.xRow c.val .shr x)
/-- SAR (07 R237). -/
def execSar (c : CoreId) (x : XArgs) (s : State) : Host.Outcome State Fault Refusal := finish s (s.xRow c.val .sar x)
/-- MIN (07 R237). -/
def execMin (c : CoreId) (x : XArgs) (s : State) : Host.Outcome State Fault Refusal := finish s (s.xRow c.val .min x)
/-- MAX (07 R237). -/
def execMax (c : CoreId) (x : XArgs) (s : State) : Host.Outcome State Fault Refusal := finish s (s.xRow c.val .max x)
/-- MINU (07 R237). -/
def execMinu (c : CoreId) (x : XArgs) (s : State) : Host.Outcome State Fault Refusal := finish s (s.xRow c.val .minu x)
/-- MAXU (07 R237). -/
def execMaxu (c : CoreId) (x : XArgs) (s : State) : Host.Outcome State Fault Refusal := finish s (s.xRow c.val .maxu x)
/-- MUL (07 R237). -/
def execMul (c : CoreId) (x : XArgs) (s : State) : Host.Outcome State Fault Refusal := finish s (s.xRow c.val .mul x)
/-- MULH (07 R237). -/
def execMulh (c : CoreId) (x : XArgs) (s : State) : Host.Outcome State Fault Refusal := finish s (s.xRow c.val .mulh x)
/-- MULQ (07 R237). -/
def execMulq (c : CoreId) (x : XArgs) (s : State) : Host.Outcome State Fault Refusal := finish s (s.xRow c.val .mulq x)
/-- MULW (07 R237). -/
def execMulw (c : CoreId) (x : XArgs) (s : State) : Host.Outcome State Fault Refusal := finish s (s.xRow c.val .mulw x)
/-- DIV (07 R237). -/
def execDiv (c : CoreId) (x : XArgs) (s : State) : Host.Outcome State Fault Refusal := finish s (s.xRow c.val .div x)
/-- DIVS (07 R237). -/
def execDivs (c : CoreId) (x : XArgs) (s : State) : Host.Outcome State Fault Refusal := finish s (s.xRow c.val .divs x)
/-- DIVU (07 R237). -/
def execDivu (c : CoreId) (x : XArgs) (s : State) : Host.Outcome State Fault Refusal := finish s (s.xRow c.val .divu x)
/-- REM (07 R237). -/
def execRem (c : CoreId) (x : XArgs) (s : State) : Host.Outcome State Fault Refusal := finish s (s.xRow c.val .rem x)
/-- REMU (07 R237). -/
def execRemu (c : CoreId) (x : XArgs) (s : State) : Host.Outcome State Fault Refusal := finish s (s.xRow c.val .remu x)
/-- NEG (07 R239). -/
def execNeg (c : CoreId) (x : XArgs) (s : State) : Host.Outcome State Fault Refusal := finish s (s.xRow c.val .neg x)
/-- NEGS (07 R239). -/
def execNegs (c : CoreId) (x : XArgs) (s : State) : Host.Outcome State Fault Refusal := finish s (s.xRow c.val .negs x)
/-- ABS (07 R239). -/
def execAbs (c : CoreId) (x : XArgs) (s : State) : Host.Outcome State Fault Refusal := finish s (s.xRow c.val .abs x)
/-- ABSS (07 R239). -/
def execAbss (c : CoreId) (x : XArgs) (s : State) : Host.Outcome State Fault Refusal := finish s (s.xRow c.val .abss x)
/-- NOT (07 R239). -/
def execNot (c : CoreId) (x : XArgs) (s : State) : Host.Outcome State Fault Refusal := finish s (s.xRow c.val .not x)
/-- CLZ (07 R239). -/
def execClz (c : CoreId) (x : XArgs) (s : State) : Host.Outcome State Fault Refusal := finish s (s.xRow c.val .clz x)
/-- SEXT8 (07 R239). -/
def execSext8 (c : CoreId) (x : XArgs) (s : State) : Host.Outcome State Fault Refusal := finish s (s.xRow c.val .sext8 x)
/-- SEXT16 (07 R239). -/
def execSext16 (c : CoreId) (x : XArgs) (s : State) : Host.Outcome State Fault Refusal := finish s (s.xRow c.val .sext16 x)
/-- SEXT24 (07 R239). -/
def execSext24 (c : CoreId) (x : XArgs) (s : State) : Host.Outcome State Fault Refusal := finish s (s.xRow c.val .sext24 x)
/-- RND24 (07 R239). -/
def execRnd24 (c : CoreId) (x : XArgs) (s : State) : Host.Outcome State Fault Refusal := finish s (s.xRow c.val .rnd24 x)
/-- POPC (07 R239). -/
def execPopc (c : CoreId) (x : XArgs) (s : State) : Host.Outcome State Fault Refusal := finish s (s.xRow c.val .popc x)
/-- CMP (07 R240). -/
def execCmp (c : CoreId) (x : CmpArgs) (s : State) : Host.Outcome State Fault Refusal := finish s (s.cmpRow c.val x)
/-- CMPI (07 R240). -/
def execCmpi (c : CoreId) (x : CmpiArgs) (s : State) : Host.Outcome State Fault Refusal := finish s (s.cmpiRow c.val x)
/-- ADDI (07 R237). -/
def execAddi (c : CoreId) (x : AddiArgs) (s : State) : Host.Outcome State Fault Refusal := finish s (s.addiRow c.val x)
/-- LOGI (07 R237). -/
def execLogi (c : CoreId) (x : LogiArgs) (s : State) : Host.Outcome State Fault Refusal := finish s (s.logiRow c.val x)
/-- SHIFTI (07 R237, R244). -/
def execShifti (c : CoreId) (x : ShiftiArgs) (s : State) : Host.Outcome State Fault Refusal := finish s (s.shiftiRow c.val x)
/-- SHLI (07 R269). -/
def execShli (c : CoreId) (x : ShliArgs) (s : State) : Host.Outcome State Fault Refusal := finish s (s.shliRow c.val x)
/-- CONSTANT (07 R251). -/
def execConstant (c : CoreId) (x : ConstArgs) (s : State) : Host.Outcome State Fault Refusal := finish s (s.constRow c.val x)
/-- MOV (07 R252). -/
def execMov (c : CoreId) (x : MovArgs) (s : State) : Host.Outcome State Fault Refusal := finish s (s.movRow c.val x)
/-- MOVSR (07 R252). -/
def execMovsr (c : CoreId) (x : MovsrArgs) (s : State) : Host.Outcome State Fault Refusal := finish s (s.movsrRow c.val x)
/-- MOVA (07 R252). -/
def execMova (c : CoreId) (x : MovaArgs) (s : State) : Host.Outcome State Fault Refusal := finish s (s.movaRow c.val x)
/-- POP (07 R252, R253). -/
def execPop (c : CoreId) (x : PopArgs) (s : State) : Host.Outcome State Fault Refusal := finish s (s.popRow c.val x)
/-- PMOV (07 R252). -/
def execPmov (c : CoreId) (x : PmovArgs) (s : State) : Host.Outcome State Fault Refusal := finish s (s.pmovRow c.val x)
/-- MOVI (07 R269). -/
def execMovi (c : CoreId) (x : MoviArgs) (s : State) : Host.Outcome State Fault Refusal := finish s (s.moviRow c.val x)
/-- PNOT (07 R269). -/
def execPnot (c : CoreId) (x : PnotArgs) (s : State) : Host.Outcome State Fault Refusal := finish s (s.pnotRow c.val x)

end Sys2Proof.Machine
end

