-- ==== Sys2Proof/Machine/CoreLoads.lean ====
section
/-! DEFINITION. The memory operations of the L slots: scalar loads and stores, SEGLD, LDX, STX, LOCK (07 R245-R250,
R265-R268), vector loads and stores (08 R293-R301). -/

namespace Sys2Proof.Machine

/-! ## Scalar loads and stores (07 R245-R249) -/

/-- How the offset of an access is formed (R246). -/
inductive LMode where
  | disp
  | post
  | idx
  deriving DecidableEq, Repr

/-- A scalar memory operation: access size, sign extension, direction, offset form. -/
structure LForm where
  size : Nat
  signed : Bool
  wr : Bool
  mode : LMode
  deriving DecidableEq, Repr

/-- DISP × size. -/
def dispOf (f : LForm) (x : LArgs) : Int := x.ext.toInt * f.size

/-- The segment offset of the access, a signed sum with no wrapping (R246). -/
def State.lOffset (s : State) (c : Nat) (f : LForm) (x : LArgs) : Int :=
  let a : Int := (s.areg c x.areg.toNat).toNat
  match f.mode with
  | .disp => a + dispOf f x
  | .post => a
  | .idx => a + 4 * (s.sreg c x.ext.toNat).toInt

/-- Faults: a reserved condition or an odd pair; where the condition holds, those of the access (R227). -/
def State.lFault (s : State) (c : Nat) (f : LForm) (x : LArgs) : Option FltRec :=
  if (!x.short && s.badCond c x.cond) || (f.size == 8 && oddPair x.rt.toNat) then some (fltIllegal x.slot.val)
  else if s.holds4 c x.short x.cond then s.accessFault c x.slot.val x.seg.toNat (s.lOffset c f x) f.size f.wr
  else none

/-- The data of a store. -/
def State.lData (s : State) (c : Nat) (f : LForm) (x : LArgs) : DWord :=
  if f.size = 8 then s.spair c x.rt.toNat else (s.sreg c x.rt.toNat).setWidth 64

/-- Where a load's element goes. -/
def lDest (f : LForm) (x : LArgs) : LdDest := if f.size = 8 then .pair x.rt else .s x.rt (8 * f.size) f.signed

/-- The access of an operation, and its post-modify. -/
def State.lEff (s : State) (c : Nat) (f : LForm) (x : LArgs) : State :=
  let a := s.addrOf c x.seg.toNat (s.lOffset c f x)
  let s1 := if f.wr then s.store c [⟨a, f.size, s.lData c f x⟩]
    else s.load c x.slot.val (regionOf c a).latency [⟨a, f.size, lDest f x, none⟩] false
  if f.mode = .post then
    s1.schedA c x.slot.val x.areg.toNat (s.areg c x.areg.toNat + BitVec.ofInt 32 (dispOf f x))
  else s1

def State.lRow (s : State) (c : Nat) (f : LForm) (x : LArgs) : State :=
  s.opRun c (s.lFault c f x) (s.holds4 c x.short x.cond) (fun s => s.lEff c f x)

/-! ## SEGLD (06 R213-R215, 07 R250) -/

/-- The bundle at E1 lies inside a LOCK sequence (R266). -/
def State.inSeq (s : State) (c : Nat) : Bool :=
  let k := s.core c
  k.locks.any (fun l => l.first ≤ k.t && k.t ≤ l.last)

/-- Faults of SEGLD: ILLEGAL by R250 and R266 whatever its condition; SEGCLASS (R214); SEGSTALE (R213). -/
def State.segldFault (s : State) (c : Nat) (x : LArgs) : Option FltRec :=
  let sel := (s.sreg c x.rt.toNat).toNat
  let d := s.descOf c (bitsAt sel 0 7)
  let acc : FltAcc := ⟨x.seg.toNat, none, false⟩
  if s.badCond c x.cond || x.ext != 0 || x.areg != 0 || s.inSeq c || bitsAt sel 7 9 != 0 then some (fltIllegal x.slot.val)
  else if !s.condTrue c x.cond.toNat then none
  else if dClass d == 2 && x.seg != 7 then some ⟨cSEGCLASS, some x.slot.val, some acc, none⟩
  else if bitsAt sel 16 16 != 0 && bitsAt sel 16 16 != dGen d then some ⟨cSEGSTALE, some x.slot.val, some acc, none⟩
  else none

/-- The segment register takes the descriptor, with an exposed latency of 4 (R250). -/
def State.segldRow (s : State) (c : Nat) (x : LArgs) : State :=
  s.opRun c (s.segldFault c x) (s.condTrue c x.cond.toNat) fun s =>
    let i : BitVec 7 := (s.sreg c x.rt.toNat).setWidth 7
    let d := s.descOf c i.toNat
    s.sched c x.slot.val 4 (.seg x.seg) (i.setWidth 512 ||| (d.setWidth 512 <<< 7))

/-! ## LDX and STX (07 R267, R268) -/

/-- The word at a[AREG] of the segment. -/
def plainForm (wr : Bool) : LForm := ⟨4, false, wr, .post⟩

def State.exclFault (s : State) (c : Nat) (wr : Bool) (resv : Bool) (x : LArgs) : Option FltRec :=
  if s.badCond c x.cond || x.slot == 1 || resv || s.inSeq c then some (fltIllegal x.slot.val)
  else if s.condTrue c x.cond.toNat then s.accessFault c x.slot.val x.seg.toNat (s.lOffset c (plainForm wr) x) 4 wr
  else none

def State.ldxFault (s : State) (c : Nat) (x : LArgs) : Option FltRec := s.exclFault c false (x.ext != 0) x
def State.stxFault (s : State) (c : Nat) (x : LArgs) : Option FltRec := s.exclFault c true false x

/-- LDX: the old reservation is cleared, the word loaded; the access sets the reservation on a line of an own-bench bank. -/
def State.ldxRow (s : State) (c : Nat) (x : LArgs) : State :=
  s.opRun c (s.ldxFault c x) (s.condTrue c x.cond.toNat) fun s =>
    let a := s.addrOf c x.seg.toNat (s.lOffset c (plainForm false) x)
    (s.modCore c fun k => { k with res := none }).load c x.slot.val (regionOf c a).latency [⟨a, 4, .s x.rt 32 false, none⟩] true

/-- STX: at once where no store is queued, those of its own bundle included, else when the store buffer is empty (09 R309). -/
def State.stxRow (s : State) (c : Nat) (x : LArgs) : State :=
  s.opRun c (s.stxFault c x) (s.condTrue c x.cond.toNat) fun s =>
    let a := s.addrOf c x.seg.toNat (s.lOffset c (plainForm true) x)
    let k := s.core c
    let v := s.sreg c x.rt.toNat
    if !(k.sb ++ k.sbWait).isEmpty || k.ownStore || s.coreWaits c a then
      s.modCore c fun k => { k with drain := .stx x a (k.t + 4) v }
    else s.doStx c x a (k.t + 4) v

/-! ## LOCK (07 R265, R266) -/

/-- Faults of LOCK: it makes no access, so its segment needs no permission (log entry 48). -/
def State.lockFault (s : State) (c : Nat) (x : LArgs) : Option FltRec :=
  let o := s.lOffset c (plainForm false) x
  let d := (s.segReg c x.seg.toNat).desc
  let f (k : Nat) : Option FltRec := some ⟨k, some x.slot.val, some ⟨x.seg.toNat, some (BitVec.ofInt 32 o), false⟩, none⟩
  if s.badCond c x.cond || x.slot == 1 || bitsAt x.ext.toNat 2 3 != 0 || s.inSeq c then some (fltIllegal x.slot.val)
  else if !s.condTrue c x.cond.toNat then none
  else if !dV d then f cSEGNULL
  else if (dLimit d : Int) < o + 3 then f cSEGLIMIT
  else if o % 4 != 0 then f cALIGN
  else none

/-- LOCK: taken or not at once, or a wait for another core's sequence. -/
def State.lockRow (s : State) (c : Nat) (x : LArgs) : State :=
  s.opRun c (s.lockFault c x) (s.condTrue c x.cond.toNat) fun s =>
    let a := s.addrOf c x.seg.toNat (s.lOffset c (plainForm false) x)
    let w : LockWait := ⟨x.rt, a, bitsAt x.ext.toNat 0 2 + 1, (s.core c).t, x.slot.val⟩
    if s.lockHeld c w then s.modCore c fun k => { k with lockWait := some w } else s.takeLock c w

/-! ## Vector memory operations (08 R293-R301) -/

/-- The kinds of vector memory operations. -/
inductive VKind where
  | whole
  | bcst
  | struct
  | gather
  deriving DecidableEq, Repr

/-- Number of fields of a structure operation. -/
def nfOf (x : VMemArgs) : Nat := x.nf.toNat + 1

/-- An element: its lane, its field, its segment offset (R295). -/
structure VEl where
  lane : Nat
  field : Nat
  off : Int
  deriving DecidableEq, Repr

/-- The base offset a[AREG]. -/
def State.vBase (s : State) (c : Nat) (x : VMemArgs) : Nat := (s.areg c x.areg.toNat).toNat

/-- The active elements in the order of their lanes, fields in order (R295, R298). -/
def State.vElems (s : State) (c : Nat) (k : VKind) (x : VMemArgs) : List VEl :=
  let m := s.active c x.pg.toNat
  let ls := (List.range 16).filter (fun i => m.getLsbD i)
  let o : Int := s.vBase c x
  match k with
  | .whole => ls.map (fun i => ⟨i, 0, o + 4 * (i : Nat)⟩)
  | .bcst => (ls.take 1).map (fun i => ⟨i, 0, o⟩)
  | .struct => ls.flatMap (fun i => (List.range (nfOf x)).map (fun j => ⟨i, j, o + 4 * ((nfOf x * i + j : Nat) : Int)⟩))
  | .gather => ls.map (fun i => ⟨i, 0, o + 4 * (lane (s.vreg c x.vi.toNat) i).toInt⟩)

/-- The first cause of an element (R227); a CONTROL segment raises ALIGN (R294). -/
def vCause (c : Nat) (d : BitVec 128) (wr : Bool) (e : VEl) : Option Nat :=
  match accessCause c d e.off 4 wr with
  | some k => some k
  | none => if dClass d = 1 then some cALIGN else none

/-- Causes that belong to the operation as a whole (R300). -/
def vWhole (d : BitVec 128) (wr any : Bool) (base : Nat) : Option Nat :=
  if any && !dV d then some cSEGNULL
  else if any && wr && dF d then some cSEGPERM
  else if base % 4 != 0 then some cALIGN
  else none

/-- ILLEGAL encodings: no or too many fields, a gather in L1 (R293, R295). -/
def vIllegal (k : VKind) (x : VMemArgs) : Bool :=
  (k == .struct && (x.nf == 0 || 31 < x.vt.toNat + x.nf.toNat)) || (k == .gather && x.slot == 1)

/-- Faults of a vector memory operation, checked before anything is loaded, stored or updated (R299, R300). -/
def State.vFault (s : State) (c : Nat) (k : VKind) (wr : Bool) (x : VMemArgs) : Option FltRec :=
  let b := s.vBase c x
  let d := (s.segReg c x.seg.toNat).desc
  let whole (q : Nat) : FltRec := ⟨q, some x.slot.val, some ⟨x.seg.toNat, some (BitVec.ofNat 32 b), wr⟩, none⟩
  if s.badCond c x.cond || vIllegal k x then some (whole cILLEGAL)
  else if !s.condTrue c x.cond.toNat then none
  else
    let es := s.vElems c k x
    let w := vWhole d wr (!es.isEmpty) b
    match es.find? (fun e => (vCause c d wr e).isSome) with
    | none => w.map whole
    | some e =>
      let q := (vCause c d wr e).getD 0
      match w with
      | some q' => if q' ≤ q then some (whole q') else
          some ⟨q, some x.slot.val, some ⟨x.seg.toNat, some (BitVec.ofInt 32 e.off), wr⟩, some e.lane⟩
      | none => some ⟨q, some x.slot.val, some ⟨x.seg.toNat, some (BitVec.ofInt 32 e.off), wr⟩, some e.lane⟩

/-- One bit of a lane mask. -/
def laneBit (i : Nat) : BitVec 16 := (1 : BitVec 16) <<< i

/-- Lanes that load one word into one register share one element. -/
def mergeElem (es : List Elem) (e : Elem) : List Elem :=
  match e.dst with
  | .lanes n m =>
    match es.find? (fun y => y.addr == e.addr && (match y.dst with | .lanes r _ => r == n | _ => false)) with
    | some y =>
      es.map (fun z => if z == y then
        { z with dst := match z.dst with | .lanes r b => .lanes r (b ||| m) | d => d } else z)
    | none => es ++ [e]
  | _ => es ++ [e]

/-- The elements of a vector load with their destinations. -/
def State.vLoads (s : State) (c : Nat) (k : VKind) (x : VMemArgs) : List Elem :=
  let mask (e : VEl) : BitVec 16 := if k = .bcst then s.active c x.pg.toNat else laneBit e.lane
  ((s.vElems c k x).map (fun e =>
    (⟨s.addrOf c x.seg.toNat e.off, 4, .lanes (x.vt + BitVec.ofNat 5 e.field) (mask e), none⟩ : Elem))).foldl mergeElem []

/-- The stores of a vector store: structure stores in increasing offset order, others in lane order (R298). -/
def State.vStores (s : State) (c : Nat) (k : VKind) (x : VMemArgs) : List StPart :=
  (s.vElems c k x).map fun e =>
    ⟨s.addrOf c x.seg.toNat e.off, 4, (lane (s.vreg c (x.vt.toNat + e.field)) e.lane).setWidth 64⟩

/-- The exposed latency of a vector load (R296). -/
def vLatency (c : Nat) (es : List Elem) : Nat :=
  if es.any (fun e => regionOf c e.addr == .other) then 9 else if es.any (fun e => inFar e.addr) then 6 else 4

/-- What post-modify adds (R294). -/
def State.vPost (s : State) (c : Nat) (k : VKind) : Nat := if k = .bcst then 4 else 4 * s.width c

/-- The effect of a vector memory operation. -/
def State.vEff (s : State) (c : Nat) (k : VKind) (wr : Bool) (x : VMemArgs) : State :=
  let s1 :=
    if (s.vElems c k x).isEmpty then s
    else if wr then s.store c (s.vStores c k x)
    else s.load c x.slot.val (vLatency c (s.vLoads c k x)) (s.vLoads c k x) false
  if x.pm then s1.schedA c x.slot.val x.areg.toNat (s.areg c x.areg.toNat + BitVec.ofNat 32 (s.vPost c k)) else s1

def State.vmRow (s : State) (c : Nat) (k : VKind) (wr : Bool) (x : VMemArgs) : State :=
  s.opRun c (s.vFault c k wr x) (s.condTrue c x.cond.toNat) (fun s => s.vEff c k wr x)

/-! ## The commands -/

/-- The form of LDB (07 R245). -/
def ldbForm : LForm := ⟨1, true, false, .disp⟩
/-- The form of LDBU (07 R245). -/
def ldbuForm : LForm := ⟨1, false, false, .disp⟩
/-- The form of LDH (07 R245). -/
def ldhForm : LForm := ⟨2, true, false, .disp⟩
/-- The form of LDHU (07 R245). -/
def ldhuForm : LForm := ⟨2, false, false, .disp⟩
/-- The form of LDW (07 R245). -/
def ldwForm : LForm := ⟨4, false, false, .disp⟩
/-- The form of LDD (07 R245). -/
def lddForm : LForm := ⟨8, false, false, .disp⟩
/-- The form of STB (07 R245). -/
def stbForm : LForm := ⟨1, false, true, .disp⟩
/-- The form of STH (07 R245). -/
def sthForm : LForm := ⟨2, false, true, .disp⟩
/-- The form of STW (07 R245). -/
def stwForm : LForm := ⟨4, false, true, .disp⟩
/-- The form of STD (07 R245). -/
def stdForm : LForm := ⟨8, false, true, .disp⟩
/-- The form of LDWP (07 R245). -/
def ldwpForm : LForm := ⟨4, false, false, .post⟩
/-- The form of STWP (07 R245). -/
def stwpForm : LForm := ⟨4, false, true, .post⟩
/-- The form of LDDP (07 R245). -/
def lddpForm : LForm := ⟨8, false, false, .post⟩
/-- The form of STDP (07 R245). -/
def stdpForm : LForm := ⟨8, false, true, .post⟩
/-- The form of LDWX (07 R245). -/
def ldwxForm : LForm := ⟨4, false, false, .idx⟩
/-- The form of STWX (07 R245). -/
def stwxForm : LForm := ⟨4, false, true, .idx⟩

/-- LDB (07 R245). -/
def execLdb (c : CoreId) (x : LArgs) (s : State) : Host.Outcome State Fault Refusal := finish s (s.lRow c.val ldbForm x)
/-- LDBU (07 R245). -/
def execLdbu (c : CoreId) (x : LArgs) (s : State) : Host.Outcome State Fault Refusal := finish s (s.lRow c.val ldbuForm x)
/-- LDH (07 R245). -/
def execLdh (c : CoreId) (x : LArgs) (s : State) : Host.Outcome State Fault Refusal := finish s (s.lRow c.val ldhForm x)
/-- LDHU (07 R245). -/
def execLdhu (c : CoreId) (x : LArgs) (s : State) : Host.Outcome State Fault Refusal := finish s (s.lRow c.val ldhuForm x)
/-- LDW (07 R245). -/
def execLdw (c : CoreId) (x : LArgs) (s : State) : Host.Outcome State Fault Refusal := finish s (s.lRow c.val ldwForm x)
/-- LDD (07 R245). -/
def execLdd (c : CoreId) (x : LArgs) (s : State) : Host.Outcome State Fault Refusal := finish s (s.lRow c.val lddForm x)
/-- STB (07 R245). -/
def execStb (c : CoreId) (x : LArgs) (s : State) : Host.Outcome State Fault Refusal := finish s (s.lRow c.val stbForm x)
/-- STH (07 R245). -/
def execSth (c : CoreId) (x : LArgs) (s : State) : Host.Outcome State Fault Refusal := finish s (s.lRow c.val sthForm x)
/-- STW (07 R245). -/
def execStw (c : CoreId) (x : LArgs) (s : State) : Host.Outcome State Fault Refusal := finish s (s.lRow c.val stwForm x)
/-- STD (07 R245). -/
def execStd (c : CoreId) (x : LArgs) (s : State) : Host.Outcome State Fault Refusal := finish s (s.lRow c.val stdForm x)
/-- LDWP (07 R245). -/
def execLdwp (c : CoreId) (x : LArgs) (s : State) : Host.Outcome State Fault Refusal := finish s (s.lRow c.val ldwpForm x)
/-- STWP (07 R245). -/
def execStwp (c : CoreId) (x : LArgs) (s : State) : Host.Outcome State Fault Refusal := finish s (s.lRow c.val stwpForm x)
/-- LDDP (07 R245). -/
def execLddp (c : CoreId) (x : LArgs) (s : State) : Host.Outcome State Fault Refusal := finish s (s.lRow c.val lddpForm x)
/-- STDP (07 R245). -/
def execStdp (c : CoreId) (x : LArgs) (s : State) : Host.Outcome State Fault Refusal := finish s (s.lRow c.val stdpForm x)
/-- LDWX (07 R245). -/
def execLdwx (c : CoreId) (x : LArgs) (s : State) : Host.Outcome State Fault Refusal := finish s (s.lRow c.val ldwxForm x)
/-- STWX (07 R245). -/
def execStwx (c : CoreId) (x : LArgs) (s : State) : Host.Outcome State Fault Refusal := finish s (s.lRow c.val stwxForm x)
/-- SEGLD (07 R250). -/
def execSegld (c : CoreId) (x : LArgs) (s : State) : Host.Outcome State Fault Refusal := finish s (s.segldRow c.val x)
/-- LDX (07 R267). -/
def execLdx (c : CoreId) (x : LArgs) (s : State) : Host.Outcome State Fault Refusal := finish s (s.ldxRow c.val x)
/-- STX (07 R267). -/
def execStx (c : CoreId) (x : LArgs) (s : State) : Host.Outcome State Fault Refusal := finish s (s.stxRow c.val x)
/-- LOCK (07 R265). -/
def execLock (c : CoreId) (x : LArgs) (s : State) : Host.Outcome State Fault Refusal := finish s (s.lockRow c.val x)
/-- VLD (08 R293). -/
def execVld (c : CoreId) (x : VMemArgs) (s : State) : Host.Outcome State Fault Refusal :=
  finish s (s.vmRow c.val .whole false x)
/-- VST (08 R293). -/
def execVst (c : CoreId) (x : VMemArgs) (s : State) : Host.Outcome State Fault Refusal :=
  finish s (s.vmRow c.val .whole true x)
/-- VLDS (08 R293). -/
def execVlds (c : CoreId) (x : VMemArgs) (s : State) : Host.Outcome State Fault Refusal :=
  finish s (s.vmRow c.val .struct false x)
/-- VSTS (08 R293). -/
def execVsts (c : CoreId) (x : VMemArgs) (s : State) : Host.Outcome State Fault Refusal :=
  finish s (s.vmRow c.val .struct true x)
/-- VGTH (08 R293). -/
def execVgth (c : CoreId) (x : VMemArgs) (s : State) : Host.Outcome State Fault Refusal :=
  finish s (s.vmRow c.val .gather false x)
/-- VSCT (08 R293). -/
def execVsct (c : CoreId) (x : VMemArgs) (s : State) : Host.Outcome State Fault Refusal :=
  finish s (s.vmRow c.val .gather true x)
/-- VLDBC (08 R293). -/
def execVldbc (c : CoreId) (x : VMemArgs) (s : State) : Host.Outcome State Fault Refusal :=
  finish s (s.vmRow c.val .bcst false x)

end Sys2Proof.Machine
end

