-- ==== Sys2Proof/Machine/Slots.lean ====
section
/-! DEFINITION. The encodings of bundles (06 R218-R220, 07 R235-R270, 08 R276-R293): a bundle's parcels cut into
operations, and the operation of each slot read into the command that names it. What no command can name is undefined or
has a reserved bit set; the conditions that depend on operands, modes and positions are checked at issue. -/

namespace Sys2Proof.Machine

/-- Bits [lo + n - 1 : lo] of an operation. -/
def fb (w lo n : Nat) : BitVec n := BitVec.ofNat n (bitsAt w lo n)

/-- Sign extension of a field. -/
def fbs (w lo n m : Nat) : BitVec m := BitVec.ofInt m (sgn (bitsAt w lo n) n)

/-- All of bits [lo + n - 1 : lo] are 0. -/
def zeroAt (w lo n : Nat) : Bool := bitsAt w lo n == 0

/-- An instruction where a check holds. -/
def ifOk (b : Bool) (i : Instr) : Option Instr := if b then some i else none

def slot2 (n : Nat) : Fin 2 := if n = 0 then 0 else 1

/-! ## Parcels (R219, R220) -/

/-- One operation as it stands in a bundle: P, whether it is long, its slot, its 16 or 32 bits. -/
structure RawOp where
  p : Bool
  long : Bool
  slot : Nat
  w : Nat
  deriving DecidableEq, Repr

/-- The parcels of at most n operations from offset o on, up to the first with P = 0. -/
def bundleParcels (rd : Nat → BitVec 16) : Nat → Nat → List (BitVec 16)
  | 0, _ => []
  | n + 1, o =>
    let p := rd o
    let long := p.getLsbD 1
    let own := if long then [p, rd (o + 2)] else [p]
    if p.getLsbD 0 then own ++ bundleParcels rd n (o + 2 * own.length) else own

/-- The operations of a list of parcels. -/
def rawOps : Nat → List (BitVec 16) → List RawOp
  | 0, _ => []
  | _, [] => []
  | n + 1, p :: ps =>
    if p.getLsbD 1 then
      match ps with
      | q :: qs => ⟨p.getLsbD 0, true, bitsAt p.toNat 2 3, p.toNat + 65536 * q.toNat⟩ :: rawOps n qs
      | [] => []
    else ⟨p.getLsbD 0, false, bitsAt p.toNat 2 3, p.toNat⟩ :: rawOps n ps

/-- Slot numbers strictly increase (R220). -/
def slotsRise : List RawOp → Bool
  | x :: y :: t => x.slot < y.slot && slotsRise (y :: t)
  | _ => true

/-- A bundle obeys R220: its slots rise, and its last operation has P = 0. -/
def bundleOk (ops : List RawOp) : Bool := slotsRise ops && ops.getLast?.any (fun x => !x.p)

/-! ## X slots (07 R235, R237, R239, R269) -/

/-- Register operations by OP. -/
def xReg (op : Nat) : Option (CoreId → XArgs → Instr) :=
  match op with
  | 0x00 => some .add
  | 0x01 => some .addc
  | 0x02 => some .sub
  | 0x03 => some .subc
  | 0x04 => some .adds
  | 0x05 => some .subs
  | 0x06 => some .and
  | 0x07 => some .or
  | 0x08 => some .xor
  | 0x09 => some .andn
  | 0x0A => some .shl
  | 0x0B => some .shr
  | 0x0C => some .sar
  | 0x0D => some .min
  | 0x0E => some .max
  | 0x0F => some .minu
  | 0x10 => some .maxu
  | 0x11 => some .mul
  | 0x12 => some .mulh
  | 0x13 => some .mulq
  | 0x14 => some .mulw
  | 0x15 => some .div
  | 0x16 => some .divs
  | 0x17 => some .divu
  | 0x18 => some .rem
  | 0x19 => some .remu
  | _ => none

/-- Functions of UNARY by UF. -/
def xUnary (uf : Nat) : Option (CoreId → XArgs → Instr) :=
  match uf with
  | 0x00 => some .neg
  | 0x01 => some .negs
  | 0x02 => some .abs
  | 0x03 => some .abss
  | 0x04 => some .not
  | 0x05 => some .clz
  | 0x06 => some .sext8
  | 0x07 => some .sext16
  | 0x08 => some .sext24
  | 0x09 => some .rnd24
  | 0x0A => some .popc
  | _ => none

def decX (c : CoreId) (sl : Fin 2) (w : Nat) : Option Instr :=
  let cond := fb w 5 4
  match bitsAt w 27 5 with
  | 0x1A => (xUnary (bitsAt w 21 6)).map fun k => k c ⟨sl, cond, false, fb w 9 6, fb w 15 6, 0⟩
  | 0x1B => some (.cmp c ⟨sl, cond, fb w 9 3, fb w 12 3, fb w 15 6, fb w 21 6⟩)
  | 0x1C => some (.addi c ⟨sl, cond, false, fb w 9 6, fb w 15 12⟩)
  | 0x1D => some (.logi c ⟨sl, cond, fb w 9 6, fb w 15 2, fb w 17 10⟩)
  | 0x1E => ifOk (zeroAt w 25 2) (.shifti c ⟨sl, cond, fb w 9 6, fb w 15 2, fb w 17 8⟩)
  | 0x1F => some (.cmpi c ⟨sl, cond, fb w 15 3, fb w 18 3, fb w 9 6, fb w 21 6⟩)
  | op => (xReg op).map fun k => k c ⟨sl, cond, false, fb w 9 6, fb w 15 6, fb w 21 6⟩

def decXShort (c : CoreId) (sl : Fin 2) (w : Nat) : Option Instr :=
  let rd : BitVec 6 := (fb w 8 4).setWidth 6
  let x : XArgs := ⟨sl, 0, true, rd, rd, (fb w 12 4).setWidth 6⟩
  match bitsAt w 5 3 with
  | 0 => some (.add c x)
  | 1 => some (.sub c x)
  | 2 => some (.and c x)
  | 3 => some (.or c x)
  | 4 => some (.xor c x)
  | 5 => some (.mov c ⟨if sl = 0 then 4 else 5, 0, true, rd, (fb w 12 4).setWidth 6⟩)
  | 6 => some (.addi c ⟨sl, 0, true, rd, fbs w 12 4 12⟩)
  | _ => some (.shli c ⟨sl, fb w 8 4, fb w 12 4⟩)

/-! ## L slots (07 R235, R245, R269, 08 R293) -/

/-- Scalar memory operations by OP. -/
def lOp (op : Nat) : Option (CoreId → LArgs → Instr) :=
  match op with
  | 0x00 => some .ldb
  | 0x01 => some .ldbu
  | 0x02 => some .ldh
  | 0x03 => some .ldhu
  | 0x04 => some .ldw
  | 0x05 => some .ldd
  | 0x06 => some .stb
  | 0x07 => some .sth
  | 0x08 => some .stw
  | 0x09 => some .std
  | 0x0A => some .ldwp
  | 0x0B => some .stwp
  | 0x0C => some .lddp
  | 0x0D => some .stdp
  | 0x0E => some .ldwx
  | 0x0F => some .stwx
  | 0x10 => some .segld
  | 0x11 => some .ldx
  | 0x12 => some .stx
  | 0x13 => some .lock
  | _ => none

def decL (c : CoreId) (sl : Fin 2) (w : Nat) : Option Instr :=
  let cond := fb w 5 4
  let seg := fb w 20 3
  let areg := fb w 23 4
  let vld : VMemArgs := ⟨sl, cond, fb w 14 5, fb w 27 3, seg, areg, bitAt w 30, 0, 0⟩
  let vlds : VMemArgs := ⟨sl, cond, fb w 14 5, fb w 27 3, seg, areg, false, fb w 30 2, 0⟩
  let vgth : VMemArgs := ⟨sl, cond, (fb w 14 4).setWidth 5, (fb w 18 2).setWidth 3, seg, areg, false, 0, fb w 27 5⟩
  let plain := zeroAt w 19 1 && zeroAt w 31 1
  match bitsAt w 9 5 with
  | 0x18 => ifOk plain (.vld c vld)
  | 0x19 => ifOk plain (.vst c vld)
  | 0x1A => ifOk (zeroAt w 19 1) (.vlds c vlds)
  | 0x1B => ifOk (zeroAt w 19 1) (.vsts c vlds)
  | 0x1C => some (.vgth c vgth)
  | 0x1D => some (.vsct c vgth)
  | 0x1E => ifOk plain (.vldbc c vld)
  | op => (lOp op).map fun k => k c ⟨sl, cond, false, fb w 14 6, seg, areg, fb w 27 5⟩

def decLShort (c : CoreId) (sl : Fin 2) (w : Nat) : Option Instr :=
  let x (d : BitVec 5) : LArgs :=
    ⟨sl, 0, true, (fb w 7 4).setWidth 6, (fb w 14 2).setWidth 3, (fb w 11 3).setWidth 4, d⟩
  match bitsAt w 5 2 with
  | 0 => some (.ldw c (x 0))
  | 1 => some (.stw c (x 0))
  | 2 => some (.ldwp c (x 1))
  | _ => some (.stwp c (x 1))

/-! ## B slot (07 R254, R263, R269) -/

/-- SYS functions by SFN; the cycle number of GEND is not part of the encoding. -/
def sysOp (c : CoreId) (sfn : Nat) (x : SysArgs) : Option Instr :=
  match sfn with
  | 0 => some (.nop c x)
  | 1 => some (.gend c x 0)
  | 2 => some (.wait c x)
  | 3 => some (.isync c x)
  | 4 => some (.fence c x)
  | 5 => some (.swev c x)
  | 6 => some (.brk c x)
  | _ => none

def decB (c : CoreId) (w : Nat) : Option Instr :=
  let cond := fb w 5 4
  match bitsAt w 9 3 with
  | 0 => if zeroAt w 24 8 then sysOp c (bitsAt w 12 4) ⟨cond, false, fb w 16 8⟩ else none
  | 1 => some (.br c ⟨cond, bitAt w 12, fb w 13 19⟩)
  | 2 => ifOk (zeroAt w 19 13) (.bri c ⟨cond, bitAt w 12, fb w 13 6⟩)
  | 3 => some (.call c ⟨cond, fb w 12 4, fb w 16 16⟩)
  | 4 => ifOk (zeroAt w 12 4) (.ret c ⟨cond, fb w 16 16⟩)
  | 5 => some (.loop c ⟨cond, fb w 12 2, bitAt w 14, fb w 15 8, fb w 23 9⟩)
  | _ => none

def decBShort (c : CoreId) (w : Nat) : Option Instr :=
  match bitsAt w 5 2 with
  | 0 => some (.brs c ⟨fb w 7 9⟩)
  | 1 => if zeroAt w 11 5 && bitsAt w 7 4 != 5 then sysOp c (bitsAt w 7 4) ⟨0, true, 0⟩ else none
  | _ => none

/-! ## K slot (07 R251, R252, R269) -/

def decK (c : CoreId) (w : Nat) : Option Instr :=
  let cond := fb w 5 4
  if !bitAt w 9 then some (.constant c ⟨cond, bitAt w 10, fb w 11 5, fb w 16 16⟩)
  else
    match bitsAt w 10 3 with
    | 0 => ifOk (zeroAt w 25 7) (.mov c ⟨7, cond, false, fb w 13 6, fb w 19 6⟩)
    | 1 => ifOk (zeroAt w 25 7) (.movsr c ⟨cond, bitAt w 13, fb w 14 6, fb w 20 5⟩)
    | 2 =>
      match bitsAt w 13 2 with
      | 2 => some (.mova c ⟨cond, 2, fb w 15 4, 0, fb w 19 13⟩)
      | af => ifOk (zeroAt w 25 7) (.mova c ⟨cond, BitVec.ofNat 2 af, fb w 15 4, fb w 19 6, 0⟩)
    | 3 => ifOk (zeroAt w 25 7) (.pop c ⟨cond, fb w 13 3, fb w 16 3, fb w 19 3, fb w 22 3⟩)
    | 4 => ifOk (zeroAt w 23 9) (.pmov c ⟨cond, bitAt w 13, fb w 14 3, fb w 17 6⟩)
    | _ => none

def decKShort (c : CoreId) (w : Nat) : Option Instr :=
  match bitsAt w 5 2 with
  | 0 => some (.movi c ⟨fb w 7 4, fb w 11 5⟩)
  | 1 => some (.mov c ⟨7, 0, true, (fb w 7 4).setWidth 6, (fb w 11 5).setWidth 6⟩)
  | 2 => ifOk (zeroAt w 13 3) (.pnot c ⟨fb w 7 3, fb w 10 3⟩)
  | _ => none

/-! ## M slots (08 R276-R292) -/

/-- Register forms by OP. -/
def mReg (op : Nat) : Option (CoreId → MArgs → Instr) :=
  match op with
  | 0x00 => some .vadd
  | 0x01 => some .vsub
  | 0x02 => some .vadds
  | 0x03 => some .vsubs
  | 0x04 => some .vand
  | 0x05 => some .vor
  | 0x06 => some .vxor
  | 0x07 => some .vshl
  | 0x08 => some .vshr
  | 0x09 => some .vsar
  | 0x0A => some .vmin
  | 0x0B => some .vmax
  | 0x0C => some .vmulq
  | 0x0D => some .vmul
  | 0x17 => some .vfadd
  | 0x18 => some .vfsub
  | 0x19 => some .vfmul
  | 0x1A => some .vfma
  | 0x1B => some .vfms
  | 0x1C => some .vfmin
  | 0x1D => some .vfmax
  | _ => none

/-- Functions of VUN by UF. -/
def mUnary (uf : Nat) : Option (CoreId → MArgs → Instr) :=
  match uf with
  | 0x00 => some .vneg
  | 0x01 => some .vnegs
  | 0x02 => some .vabs
  | 0x03 => some .vabss
  | 0x04 => some .vnot
  | 0x05 => some .vmov
  | 0x06 => some .vclz
  | 0x07 => some .vsext24
  | 0x08 => some .vrnd24
  | 0x09 => some .vcvtqf
  | 0x0A => some .vcvtfq
  | 0x0B => some .vcvtif
  | 0x0C => some .vcvtfi
  | 0x0D => some .vfneg
  | 0x0E => some .vfabs
  | _ => none

def decXfer (c : CoreId) (sl : Fin 2) (w : Nat) : Option Instr :=
  let x : XferArgs := ⟨sl, fb w 5 4, fb w 9 5, fb w 14 6, fb w 20 4⟩
  match bitsAt w 24 3 with
  | 0 => some (.vbcst c x)
  | 1 => some (.vins c x)
  | 2 => some (.vext c x)
  | 3 => some (.vlbc c x)
  | 4 => some (.vfsum c x)
  | _ => none

def decF (c : CoreId) (sl : Fin 2) (w : Nat) : Option Instr :=
  let x : FArgs := ⟨sl, fb w 5 4, fb w 9 5, fb w 14 5, fb w 19 5⟩
  match bitsAt w 24 3 with
  | 0 => some (.fadd c x)
  | 1 => some (.fsub c x)
  | 2 => some (.fmul c x)
  | 3 => some (.fma c x)
  | 4 => some (.fmin c x)
  | 5 => some (.fmax c x)
  | 6 => some (.fcmp c x)
  | _ => none

def decM (c : CoreId) (sl : Fin 2) (w : Nat) : Option Instr :=
  let cond := fb w 5 4
  let acc : AccArgs := ⟨sl, cond, false, fb w 9 2, fb w 14 5, fb w 19 5, fb w 24 3⟩
  let mv : AccMovArgs := ⟨sl, cond, fb w 9 5, fb w 14 2, fb w 16 7, fb w 24 3⟩
  let cmp : MCmpArgs := ⟨sl, cond, fb w 9 3, fb w 12 3, fb w 15 5, fb w 20 5⟩
  match bitsAt w 27 5 with
  | 0x0E => (mUnary (bitsAt w 19 5)).map fun k => k c ⟨sl, cond, false, fb w 9 5, fb w 14 5, 0, fb w 24 3⟩
  | 0x0F => ifOk (zeroAt w 25 2) (.vcmp c cmp)
  | 0x10 => ifOk (zeroAt w 11 3) (.vmacq c acc)
  | 0x11 => ifOk (zeroAt w 11 3) (.vmsuq c acc)
  | 0x12 => ifOk (zeroAt w 11 3) (.vmaci c acc)
  | 0x13 => ifOk (zeroAt w 23 1) (.vacx c mv)
  | 0x14 => ifOk (zeroAt w 23 1) (.vacr c mv)
  | 0x15 => ifOk (zeroAt w 11 3) (.vacz c acc)
  | 0x16 => decXfer c sl w
  | 0x1E => decF c sl w
  | 0x1F => ifOk (zeroAt w 25 2) (.vfcmp c cmp)
  | op => (mReg op).map fun k => k c ⟨sl, cond, false, fb w 9 5, fb w 14 5, fb w 19 5, fb w 24 3⟩

def decMShort (c : CoreId) (sl : Fin 2) (w : Nat) : Option Instr :=
  let vd : BitVec 5 := (fb w 8 4).setWidth 5
  let vb : BitVec 5 := (fb w 12 4).setWidth 5
  let x : MArgs := ⟨sl, 0, true, vd, vd, vb, 0⟩
  match bitsAt w 5 3 with
  | 0 => some (.vadd c x)
  | 1 => some (.vfadd c x)
  | 2 => some (.vfmul c x)
  | 3 => some (.vmov c ⟨sl, 0, true, vd, vb, 0, 0⟩)
  | 4 => some (.vmacq c ⟨sl, 0, true, 0, vd, vb, 0⟩)
  | 5 => some (.vmulq c x)
  | 6 => ifOk (zeroAt w 10 6) (.vacz c ⟨sl, 0, true, fb w 8 2, 0, 0, 0⟩)
  | _ => none

/-! ## A slot's operation -/

/-- The command of an operation of core c; none where its encoding is undefined or has a reserved bit set (07 R270). -/
def decodeOp (c : CoreId) (r : RawOp) : Option Instr :=
  match r.slot, r.long with
  | 0, true => decL c 0 r.w
  | 1, true => decL c 1 r.w
  | 2, true => decM c 0 r.w
  | 3, true => decM c 1 r.w
  | 4, true => decX c 0 r.w
  | 5, true => decX c 1 r.w
  | 6, true => decB c r.w
  | 0, false => decLShort c 0 r.w
  | 1, false => decLShort c 1 r.w
  | 2, false => decMShort c 0 r.w
  | 3, false => decMShort c 1 r.w
  | 4, false => decXShort c 0 r.w
  | 5, false => decXShort c 1 r.w
  | 6, false => decBShort c r.w
  | _, true => decK c r.w
  | _, false => decKShort c r.w

end Sys2Proof.Machine
end

