-- ==== Sys2Proof/Machine/Control.lean ====
section
/-! DEFINITION. The operations of the B slot (07 R254-R264): branches with their delay slots and prediction, calls and the
stack (06 R223-R226), loops, system operations. -/

namespace Sys2Proof.Machine

/-! ## The code segment (06 R217, 07 R264) -/

/-- The parcel at an offset of the code segment; a bank that is not ON returns 0 (05 R185). -/
def State.codeParcel (s : State) (c o : Nat) : BitVec 16 :=
  let a := dBase (s.core c).code.desc + o
  if s.awake (bankOf a) then BitVec.ofNat 16 (memNat s.mem a 2) else 0

/-- Bytes of a bundle. -/
def FBundle.size (b : FBundle) : Nat := 2 * b.parcels.length

/-- The bundle at an offset as it stands in memory. -/
def State.memBundle (s : State) (c o : Nat) : FBundle :=
  let ps := bundleParcels (s.codeParcel c) 8 o
  ⟨o, (wordsOf (dBase (s.core c).code.desc + o) (2 * ps.length)).any (fun w => s.ue.contains w), ps⟩

/-- The bundle at an offset as the fetch path holds it. -/
def State.heldBundle (s : State) (c o : Nat) : Option FBundle := (s.core c).fpath.find? (fun b => b.off == o)

/-- The bundle at an offset: from the fetch path, else from memory. -/
def State.bundleAt (s : State) (c o : Nat) : FBundle := (s.heldBundle c o).getD (s.memBundle c o)

/-- A bundle lies within the code segment, which is executable (R217). -/
def State.inCode (s : State) (c : Nat) (b : FBundle) : Bool :=
  let d := (s.core c).code.desc
  dV d && dX d && b.off + b.size ≤ dLimit d + 1

/-- The next bundles in sequence from an offset, at most n, as far as they can be fetched. -/
def State.fetchAhead (s : State) (c : Nat) : Nat → Nat → List FBundle
  | 0, _ => []
  | n + 1, o =>
    let b := s.bundleAt c o
    if s.inCode c b && !s.coreWaits c (dBase (s.core c).code.desc + o) then b :: s.fetchAhead c n (o + b.size) else []

/-! ## Lookups in D (06 R206, 09 R311, R316) -/

/-- The addresses that a load would reach with the registers as they stand. -/
def State.loadAddrs (s : State) (c : Nat) (i : Instr) : List Nat :=
  let scalar (f : LForm) (x : LArgs) : List Nat :=
    if s.holds4 c x.short x.cond && (s.lFault c f x).isNone then [s.addrOf c x.seg.toNat (s.lOffset c f x)] else []
  let vector (k : VKind) (x : VMemArgs) : List Nat :=
    if s.condTrue c x.cond.toNat && (s.vFault c k false x).isNone then (s.vLoads c k x).map (fun e => e.addr) else []
  match i with
  | .ldb _ x => scalar ldbForm x
  | .ldbu _ x => scalar ldbuForm x
  | .ldh _ x => scalar ldhForm x
  | .ldhu _ x => scalar ldhuForm x
  | .ldw _ x => scalar ldwForm x
  | .ldd _ x => scalar lddForm x
  | .ldwp _ x => scalar ldwpForm x
  | .lddp _ x => scalar lddpForm x
  | .ldwx _ x => scalar ldwxForm x
  | .ldx _ x => scalar (plainForm false) x
  | .vld _ x => vector .whole x
  | .vlds _ x => vector .struct x
  | .vgth _ x => vector .gather x
  | .vldbc _ x => vector .bcst x
  | _ => []

/-- The operation puts stores into the store buffer from a slot after L0 (09 R309). -/
def State.storesLate (s : State) (c : Nat) (i : Instr) : Bool :=
  let scalar (x : LArgs) : Bool := x.slot == 1 && s.holds4 c x.short x.cond
  let vector (k : VKind) (x : VMemArgs) : Bool := x.slot == 1 && s.condTrue c x.cond.toNat && !(s.vElems c k x).isEmpty
  match i with
  | .stb _ x => scalar x
  | .sth _ x => scalar x
  | .stw _ x => scalar x
  | .std _ x => scalar x
  | .stwp _ x => scalar x
  | .stdp _ x => scalar x
  | .stwx _ x => scalar x
  | .vst _ x => vector .whole x
  | .vsts _ x => vector .struct x
  | .call _ x => s.condTrue c x.cond.toNat
  | _ => false

/-- The far lines that the loads of bundles would look up and miss. -/
def State.earlyLines (s : State) (c : CoreId) (bs : List FBundle) : List Nat :=
  let as := bs.flatMap fun b => ((rawOps 8 b.parcels).filterMap (fun r => decodeOp c r)).flatMap (fun i => s.loadAddrs c.val i)
  (((as.filter (fun a => inFar a)).map (fun a => a / 64)).eraseDups).filter (fun l => (s.fwcFind (c.val / 8) l).isNone)

/-- With WCF = 1, loads of bundles in D may start lookups, and those that miss fills: which do is a free choice (log entry
120). -/
def State.lookupEarly (s : State) (c : CoreId) (bs : List FBundle) : State :=
  if s.wcf c.val then
    let ls := s.earlyLines c bs
    let pick := (ls.zipIdx.filter (fun l => Config.freeBit (s.fresh + l.2))).map (fun l => l.1)
    ({ s with fresh := s.fresh + ls.length }).modCore c.val fun k => { k with early := (k.early ++ pick).eraseDups }
  else s

/-! ## Branch prediction (R258, R259) -/

/-- The counter of a transfer at offset o. -/
def phtIndex (k : Core) : Nat := (bitsAt k.bpc.toNat 2 12) ^^^ k.ghr.toNat

/-- A conditional transfer is resolved: its counter and GHR. -/
def trainPht (k : Core) (taken : Bool) : Core :=
  let i := phtIndex k
  let n := (tget 1 k.pht i).toNat
  { k with pht := tset 1 k.pht i (BitVec.ofNat 2 (if taken then Nat.min 3 (n + 1) else n - 1)),
           ghr := (k.ghr <<< 1) ||| BitVec.ofNat 12 (b2n taken) }

/-- The prediction of a conditional transfer. -/
def predicted (k : Core) : Bool := 2 ≤ (tget 1 k.pht (phtIndex k)).toNat

/-- The offset of the bundle that follows the delay slot of the bundle at E1. -/
def State.returnPoint (s : State) (c : Nat) : Nat :=
  let n := (s.core c).npc.toNat
  n + (s.bundleAt c n).size

/-- A misprediction (R258; 09 R309, R311): counted, with at most 2 lines fetched on the wrong path, whose bundles may have
reached D: at most 6, the cycles of the penalty. -/
def State.mispredict (s : State) (c : Nat) (taken : Bool) (tgt : Word) : State :=
  let s1 := (s.perf c A.perfMisp 1).perfUpTo c A.perfWpf 2
  if h : c < 96 then s1.lookupEarly ⟨c, h⟩ (s1.fetchAhead c 6 (if taken then s1.returnPoint c else tgt.toNat)) else s1

/-- A transfer resolves (R256, R258, R259): prediction, the delay slot that follows, the target; `bub` its bubbles when
taken as predicted, `reg` a target from a register or memory. -/
def State.transfer (s : State) (c : Nat) (cond : Nat) (annul taken : Bool) (tgt : Word) (bub : Nat) (reg : Bool) : State :=
  let k := s.core c
  let miss := cond != 0 && predicted k != taken
  let s1 := if miss then s.mispredict c taken tgt else s.perf c A.perfBubble (if taken then bub else 0)
  s1.modCore c fun k =>
    let k1 := if cond = 0 then k else trainPht k taken
    { k1 with dslot := some (taken, tgt), annul := annul && !taken, regTgt := taken && reg }

/-! ## Positions (R257, R266) -/

/-- A B-slot operation in a delay slot or a LOCK sequence where it may not stand. -/
def State.posBad (s : State) (c : Nat) (dsOk lockOk : Bool) : Bool :=
  ((s.core c).ds.isSome && !dsOk) || (s.inSeq c && !lockOk)

/-! ## Branches (R255) -/

/-- B & 0xFFFF_FFFC + 4 × displacement. -/
def brTarget (bpc : Word) (disp : Int) : Word := (bpc &&& 0xFFFFFFFC) + BitVec.ofInt 32 (4 * disp)

def State.xferBad (s : State) (c : Nat) (cond : BitVec 4) : Option FltRec :=
  illegalIf (s.badCond c cond || s.posBad c false false) 6

def State.brRow (s : State) (c : Nat) (x : BrArgs) : State :=
  s.opRun c (s.xferBad c x.cond) true fun s =>
    s.transfer c x.cond.toNat x.annul (s.condTrue c x.cond.toNat) (brTarget (s.core c).bpc x.disp.toInt) 1 false

def State.briRow (s : State) (c : Nat) (x : BriArgs) : State :=
  s.opRun c (s.xferBad c x.cond) true fun s =>
    s.transfer c x.cond.toNat x.annul (s.condTrue c x.cond.toNat) (s.sreg c x.rs.toNat) 2 true

/-- Short BRS: always taken (R269). -/
def State.brsRow (s : State) (c : Nat) (x : BrsArgs) : State :=
  s.opRun c (illegalIf (s.posBad c false false) 6) true fun s =>
    s.transfer c 0 false true (brTarget (s.core c).bpc x.disp.toInt) 1 false

/-! ## Calls and returns (06 R223-R226) -/

/-- The registers that a mask names, in increasing number. -/
def maskRegs (m : BitVec 16) : List Nat := ((List.range 16).filter (fun i => m.getLsbD i)).map (fun i => 16 + i)

/-- Size of a frame. -/
def frameSize (m : BitVec 16) : Nat := 4 * ((maskRegs m).length + 1)

/-- The first cause for which a frame at an offset of seg7 faults (R214, R223, R226). -/
def State.frameFault (s : State) (c : Nat) (base : Int) (m : BitVec 16) (wr : Bool) : Option FltRec :=
  let d := (s.segReg c 7).desc
  let f (q : Nat) (o : Int) : FltRec := ⟨q, some 6, some ⟨7, some (BitVec.ofInt 32 o), wr⟩, none⟩
  let offs : List Int := (List.range ((maskRegs m).length + 1)).map (fun i => base + 4 * (i : Nat))
  if !dV d then some (f cSEGNULL base)
  else if dClass d != 2 then some (f cSEGCLASS base)
  else
    match offs.findSome? (fun o => match accessCause c d o 4 wr with | some q => if q = cALIGN then none else some (f q o) | none => none) with
    | some r => some r
    | none => if base % 4 != 0 then some (f cALIGN base) else none

def State.callFault (s : State) (c : Nat) (x : CallArgs) : Option FltRec :=
  if s.badCond c x.cond || s.posBad c false false then some (fltIllegal 6)
  else if !s.condTrue c x.cond.toNat then none
  else
    match s.frameFault c ((s.areg c 15).toNat - frameSize x.mask : Int) x.mask true with
    | some f => some f
    | none => if s.returnPoint c % 4 != 0 then some (fltOp cALIGN 6) else none

/-- CALL (R224): the frame through the store buffer, a15, the transfer. -/
def State.callRow (s : State) (c : Nat) (x : CallArgs) : State :=
  s.opRun c (s.callFault c x) true fun s =>
    if s.condTrue c x.cond.toNat then
      let o : Word := s.areg c 15 - BitVec.ofNat 32 (frameSize x.mask)
      let vs := BitVec.ofNat 32 (s.returnPoint c) :: (maskRegs x.mask).map (fun n => s.sreg c n)
      let ps : List StPart := vs.zipIdx.map fun v => ⟨s.addrOf c 7 ((o.toNat + 4 * v.2 : Nat) : Int), 4, v.1.setWidth 64⟩
      ((s.transfer c x.cond.toNat false true (s.areg c x.at_.toNat) 1 true).store c ps).schedA c 6 15 o
    else s.transfer c x.cond.toNat false false (s.areg c x.at_.toNat) 1 true

def State.retFault (s : State) (c : Nat) (x : RetArgs) : Option FltRec :=
  if s.badCond c x.cond || s.posBad c false false then some (fltIllegal 6)
  else if !s.condTrue c x.cond.toNat then none
  else s.frameFault c (s.areg c 15).toNat x.mask false

/-- The loads of a RET: the return offset, then the registers of its mask. -/
def State.retElems (s : State) (c : Nat) (x : RetArgs) : List Elem :=
  let a := (s.areg c 15).toNat
  let el (i : Nat) (d : LdDest) : Elem := ⟨s.addrOf c 7 ((a + 4 * i : Nat) : Int), 4, d, none⟩
  el 0 .ret :: (maskRegs x.mask).zipIdx.map (fun n => el (n.2 + 1) (.s (BitVec.ofNat 6 n.1) 32 false))

/-- RET (R225): the restored registers have latency 4. The target of a RET that is not taken is not loaded (free value). -/
def State.retRow (s : State) (c : Nat) (x : RetArgs) : State :=
  s.opRun c (s.retFault c x) true fun s =>
    if s.condTrue c x.cond.toNat then
      let s1 := (s.transfer c x.cond.toNat false true 0 4 true).load c 6 4 (s.retElems c x) false
      s1.schedA c 6 15 (s.areg c 15 + BitVec.ofNat 32 (frameSize x.mask))
    else (s.transfer c x.cond.toNat false false (Config.freeWord s.fresh) 4 true).stir

/-! ## Loops (R260-R262) -/

/-- The count of a LOOP. -/
def State.loopCount (s : State) (c : Nat) (x : LoopArgs) : Word :=
  if x.ci then x.cnt.setWidth 32 else s.sreg c (x.cnt.toNat % 64)

def State.loopFault (s : State) (c : Nat) (x : LoopArgs) : Option FltRec :=
  if s.badCond c x.cond || s.posBad c false false || x.lv == 3 || (!x.ci && bitsAt x.cnt.toNat 6 2 != 0) then some (fltIllegal 6)
  else if s.condTrue c x.cond.toNat && (s.core c).npc.toNat % 4 != 0 then some (fltOp cALIGN 6)
  else none

/-- The offset that follows the bundle at a loop's end. -/
def State.afterLoop (s : State) (c : Nat) (le : Word) : Word := le + BitVec.ofNat 32 (s.bundleAt c le.toNat).size

/-- LOOP: the three registers; a count of 0 goes to the bundle after the loop. -/
def State.loopRow (s : State) (c : Nat) (x : LoopArgs) : State :=
  s.opRun c (s.loopFault c x) (s.condTrue c x.cond.toNat) fun s =>
    let n := s.loopCount c x
    let ls := (s.core c).npc
    let le := ls + BitVec.ofNat 32 (2 * x.len.toNat)
    let s1 := ((s.sched c 6 1 (.lc x.lv) (n.setWidth 512)).sched c 6 1 (.ls x.lv) (ls.setWidth 512)).sched c 6 1
      (.le x.lv) (le.setWidth 512)
    if n = 0 then s1.modCore c fun k => { k with pc := s.afterLoop c le } else s1

/-- The new count of a loop level, a result at latency 1 (06 R222, R261). -/
def countLoop (k : Core) (lv : Nat) (n : Word) : Core :=
  { k with pws := pwInsert ⟨k.t + 1, k.t, 0, .lc (BitVec.ofNat 2 lv), n.setWidth 512⟩ k.pws }

/-- The loop-end check of levels 2, 1 and 0 at a bundle's offset (R261): the counts, and the start fetched next. -/
def loopEnd (k : Core) : List Nat → Core × Option Word
  | [] => (k, none)
  | lv :: rest =>
    let n := tget 0 k.lc lv
    if n != 0 && tget 0 k.le lv == k.bpc then
      if n = 1 then loopEnd (countLoop k lv 0) rest
      else (countLoop k lv (n - 1), some (tget 0 k.ls lv))
    else loopEnd k rest

/-! ## System operations (R263, R264) -/

/-- Faults of a SYS function: reserved fields and positions. -/
def State.sysFault (s : State) (c : Nat) (dsOk lockOk : Bool) (x : SysArgs) : Option FltRec :=
  illegalIf ((!x.short && s.badCond c x.cond) || x.imm != 0 || s.posBad c dsOk lockOk) 6

def State.sysRow (s : State) (c : Nat) (dsOk lockOk : Bool) (x : SysArgs) (f : State → State) : State :=
  s.opRun c (s.sysFault c dsOk lockOk x) (s.holds4 c x.short x.cond) f

/-- GEND (02 R55, R62, R65): it ends the program; its cycle is recorded (09 R326). A core that ran late starts the grain it
owes; a resumed program's core waits for the next grain start (19 R571). -/
def State.gendEff (s : State) (c cycle : Nat) : State :=
  let k := s.core c
  let s1 := (s.setFld (coreReg A.perfGend c) 0 16 cycle).maxFld (coreReg A.perfGendmax c) 0 16 cycle
  let s2 := s1.endProgram c
  if k.halted then s2.modCore c fun k => if 0 < k.steps then { k with steps := 0, haltPend := some 3 } else k
  else if k.prog == .grain && k.grain != (s.bench (c / 8)).grain && !k.noDl && bitAt k.gctl.toNat 0 then s2.startLate c
  else s2

/-- WAIT: issue stops until a source is deliverable; results in flight are written (09 R307). -/
def State.waitEff (s : State) (c : Nat) : State :=
  (s.flush c).modCore c fun k => { k with waiting := true, drain := k.drain.dueAt (k.t + 1), jobs := k.jobs.map (fun j => { j with due := k.t + 1 }) }

/-- FENCE and ISYNC: at once where no store is queued. -/
def State.drainEff (s : State) (c : Nat) (sync : Bool) : State :=
  s.modCore c fun k =>
    if k.sb.isEmpty && k.sbWait.isEmpty then (if sync then { k with fpath := [] } else k)
    else { k with drain := if sync then .isync else .fence }

/-- SWEV: IMM8 from 192 on is undefined, and the short form does not exist. -/
def State.swevFault (s : State) (c : Nat) (x : SysArgs) : Option FltRec :=
  illegalIf (x.short || s.badCond c x.cond || 192 ≤ x.imm.toNat || s.posBad c true false) 6

def State.swevRow (s : State) (c : Nat) (x : SysArgs) : State :=
  s.opRun c (s.swevFault c x) (s.condTrue c x.cond.toNat) fun s => s.raise (768 + x.imm.toNat) c 0

/-- BRK: NOP with debug closed, and in the first bundle after its halt; else the core halts with pc at this bundle and none
of its operations executed (19 R569, R570). -/
def State.brkEff (s : State) (c : Nat) : State :=
  if !s.debugOpen || (s.core c).brkNop then s
  else s.modCore c fun k => { k with haltPend := some 1, pc := k.bpc, squash := true }

def State.gendRow (s : State) (c : Nat) (x : SysArgs) (cycle : Nat) : State := s.sysRow c false false x (fun s => s.gendEff c cycle)
def State.waitRow (s : State) (c : Nat) (x : SysArgs) : State := s.sysRow c false false x (fun s => s.waitEff c)
def State.isyncRow (s : State) (c : Nat) (x : SysArgs) : State := s.sysRow c true false x (fun s => s.drainEff c true)
def State.fenceRow (s : State) (c : Nat) (x : SysArgs) : State := s.sysRow c true false x (fun s => s.drainEff c false)
def State.brkRow (s : State) (c : Nat) (x : SysArgs) : State := s.sysRow c false false x (fun s => s.brkEff c)
def State.nopRow (s : State) (c : Nat) (x : SysArgs) : State := s.sysRow c true true x (fun s => s)

/-! ## The commands -/

/-- NOP (07 R263). -/
def execNop (c : CoreId) (x : SysArgs) (s : State) : Host.Outcome State Fault Refusal := finish s (s.nopRow c.val x)
/-- GEND (07 R263). -/
def execGend (c : CoreId) (x : SysArgs) (cycle : BitVec 16) (s : State) : Host.Outcome State Fault Refusal :=
  finish s (s.gendRow c.val x cycle.toNat)
/-- WAIT (07 R263). -/
def execWait (c : CoreId) (x : SysArgs) (s : State) : Host.Outcome State Fault Refusal := finish s (s.waitRow c.val x)
/-- ISYNC (07 R264). -/
def execIsync (c : CoreId) (x : SysArgs) (s : State) : Host.Outcome State Fault Refusal := finish s (s.isyncRow c.val x)
/-- FENCE (07 R263). -/
def execFence (c : CoreId) (x : SysArgs) (s : State) : Host.Outcome State Fault Refusal := finish s (s.fenceRow c.val x)
/-- SWEV (07 R263). -/
def execSwev (c : CoreId) (x : SysArgs) (s : State) : Host.Outcome State Fault Refusal := finish s (s.swevRow c.val x)
/-- BRK (07 R263). -/
def execBrk (c : CoreId) (x : SysArgs) (s : State) : Host.Outcome State Fault Refusal := finish s (s.brkRow c.val x)
/-- BR (07 R254-R256). -/
def execBr (c : CoreId) (x : BrArgs) (s : State) : Host.Outcome State Fault Refusal := finish s (s.brRow c.val x)
/-- BRI (07 R254-R256). -/
def execBri (c : CoreId) (x : BriArgs) (s : State) : Host.Outcome State Fault Refusal := finish s (s.briRow c.val x)
/-- BRS (07 R269). -/
def execBrs (c : CoreId) (x : BrsArgs) (s : State) : Host.Outcome State Fault Refusal := finish s (s.brsRow c.val x)
/-- CALL (06 R224, 07 R254). -/
def execCall (c : CoreId) (x : CallArgs) (s : State) : Host.Outcome State Fault Refusal := finish s (s.callRow c.val x)
/-- RET (06 R225, 07 R254). -/
def execRet (c : CoreId) (x : RetArgs) (s : State) : Host.Outcome State Fault Refusal := finish s (s.retRow c.val x)
/-- LOOP (07 R260). -/
def execLoop (c : CoreId) (x : LoopArgs) (s : State) : Host.Outcome State Fault Refusal := finish s (s.loopRow c.val x)

end Sys2Proof.Machine
end

