-- ==== Sys2Proof/Machine/CommitFx.lean ====
section
/-! DEFINITION. What an accepted command does at its commit grain (14 R464-R481). -/

namespace Sys2Proof.Machine

/-- An accepted command whose condition still holds takes effect; otherwise it is dropped (R465). -/
def State.ifStill (s : State) (c : Commit) (ok : Bool) (t : State) : State := if ok then t else s.dropCommit c

/-! ## At the fabric grain start -/

/-- LOAD_IMAGE (R470): the banks pass to NEXT, where the copy is complete and the foreman still holds every one. -/
def State.imageApply (s : State) (c : Commit) : State :=
  let next := pk c.pkt 44 1
  let ns := imageBanks c.pkt
  let good := s.cmds.images.any (fun i => i.pkt == c.pkt && i.done)
  let s1 := s.imageGone c.pkt
  s1.ifStill c (good && ns.all (fun n => s.owner n == 141) && s.allEligible ns next)
    (ns.foldl (fun s n => s.assignBank n next) s1)

/-- BANK_ASSIGN (R469, 05 R183). -/
def State.bankAssignApply (s : State) (c : Commit) : State :=
  let next := pk c.pkt 27 1
  let ns := bankRun (pk c.pkt 24 2) (pk c.pkt 26 1)
  s.ifStill c (s.allEligible ns next) (ns.foldl (fun s n => s.assignBank n next) s)

/-- PARAM_WRITE (R473): one access on port B, whatever the bank's owner; a bank not ON, or no longer eligible for the foreman,
refuses it (05 R172, R173), and the command is skipped. It waits for a borrowed stripe or a locked bank (07 R265, 09 R322). -/
def State.paramApply (s : State) (c : Commit) : State :=
  let a := pk c.pkt 24 6
  let n := 4 * pk c.pkt 30 1
  let may := s.awake (bankOf a) && s.paramMay (bankOf a)
  if may && s.borrowed a then
    let ps : List StPart := (List.range (n / 4)).map fun i => ⟨a + 4 * i, 4, BitVec.ofNat 64 (pk c.pkt (32 + 4 * i) 4)⟩
    s.latchStore 141 ⟨ps, false, 0, 0⟩
  else
    let t := s.paramPut a (bytesOf (pk c.pkt 32 28) n)
    if may then t else t.dropCommit c

/-- ROUTE_COMMIT (04 R132, R133): the shadow page becomes active. -/
def State.routeApply (s : State) : State :=
  let p := 1 - s.rtPage
  ((s.setFld A.fabCtl 0 1 p).setFld A.fabStat 2 1 0).raise 716 p 0

/-- A state change of the pair by a command: JOIN starts its count with the first whole grain (12 R407). -/
def State.enterJoin (s : State) : State :=
  ((s.setFld A.twStat 3 1 0).toTwState twJoin).modTwin fun t => { t with agree := 0, clean := true, compared := false }

/-- PAIR (R481, 12 R407). Heartbeats are counted from C on (log entry 40). -/
def State.pairApply (s : State) (c : Commit) : State :=
  let active := (pk c.pkt 24 1 == 0) == (s.role == 1)
  let s1 := s.modTwin fun t =>
    { t with hbFrom := c.grain, hbSeen := false, silentTold := false, h := none, drill := false }
  let s2 := (s1.setFld A.twStat 8 3 0).setFld A.twStat 4 1 0
  s.ifStill c (s.twState == twSolo)
    (if active then ((s2.setEpoch 1).setFld A.twStat 3 1 1).toTwState twActive else s2.enterJoin)

/-- UNPAIR (R481, 12 R407): SOLO, DRV as it is; a unit in LEAVING goes on to its erase (19 R566). -/
def State.unpairApply (s : State) (c : Commit) : State :=
  s.ifStill c (s.twState != twSolo) ((s.toTwState twSolo).leaveStep)

/-- TAKEOVER_DRILL (R481, 12 R417): the ACTIVE member is silenced. -/
def State.drillApply (s : State) (c : Commit) : State :=
  s.ifStill c (s.twState == twActive || s.twState == twStandby) (s.silence true)

/-- One commit at the fabric grain start. -/
def State.fabricApply (s : State) (c : Commit) : State :=
  match c.opcode.toNat with
  | 0x0100 => s.imageApply c
  | 0x0103 => s.bankAssignApply c
  | 0x0200 => s.paramApply c
  | 0x0300 => s.routeApply
  | 0x0400 => s.slotmapApply (pk c.pkt 24 1)
  | 0x0401 => s.netstreamApply c
  | 0x0402 => s.chainstreamApply
  | 0x0403 =>
    let k := pk c.pkt 24 1
    let e := pk c.pkt 25 1
    s.ifStill c (s.dmaState k == 0 || s.dmaState k == 3) ((s.setFld (A.dmaCtl k) 8 8 e).dmaStart k e)
  | 0x0404 => s.dmaStopReq (pk c.pkt 24 1)
  | 0x0405 => s.ifStill c (s.domRuns (pk c.pkt 24 1)) (s.requestResync (pk c.pkt 24 1))
  | 0x0406 => s.timeConfig (pk c.pkt 24 1) (BitVec.ofNat 64 (pk c.pkt 25 8))
  | 0x0600 => s.applyProposal c
  | 0x0700 => s.pairApply c
  | 0x0701 => s.unpairApply c
  | 0x0702 => s.drillApply c
  | _ => s.dropCommit c

/-! ## At a bench's grain start -/

/-- The bench that START_CORE, STOP_CORE and TAPLIST_COMMIT act in; none for every other command. -/
def benchOfCommit (c : Commit) : Option Nat :=
  match c.opcode.toNat with
  | 0x0101 => some (pk c.pkt 24 1 / 8)
  | 0x0102 => some (pk c.pkt 24 1 / 8)
  | 0x0301 => some (pk c.pkt 24 1)
  | _ => none

/-- START_CORE (R471): the registers, FACT kept where CFG holds 0b11 there (06 R203); with RST the core is reset, and its first program runs in grain C + 1. -/
def State.startCoreApply (s : State) (c : Commit) : State :=
  let k := pk c.pkt 24 1
  let rst := pkBit c.pkt 25 2
  let r := fun (f : Nat → Nat → Nat) => coreReg f k
  let gctl := 1 + b2n (pkBit c.pkt 25 0) * 2 + b2n (pkBit c.pkt 25 1) * 4 + pk c.pkt 26 1 * 16
  let s1 := ((s.setReg (r A.coreGctl) (BitVec.ofNat 32 gctl)).setReg (r A.coreGentry) (BitVec.ofNat 32 (pk c.pkt 28 4 * 4))).setReg
    (r A.grainDl) (BitVec.ofNat 32 (pk c.pkt 32 2))
  let cfg := BitVec.ofNat 32 (pk c.pkt 40 4)
  let cfg1 := if fget cfg 5 2 = 3 then fput cfg 5 2 (s.fld (r A.coreCfg) 5 2) else cfg
  let s2 := ((s1.setReg (r A.coreTrigLatest) (BitVec.ofNat 32 (pk c.pkt 34 2))).setReg (r A.coreTrig)
    (BitVec.ofNat 32 (pk c.pkt 36 4 * 4))).setReg (r A.coreCfg) cfg1
  s.ifStill c (rst || pk c.pkt 40 1 % 8 == s.fld (coreReg A.coreCfgact k) 0 3) (if rst then s2.beginReset k else s2)

/-- STOP_CORE (R469): GEN is 0; a grain program that still runs takes ABANDON; with RST the core is reset. -/
def State.stopCoreApply (s : State) (c : Commit) : State :=
  let k := pk c.pkt 24 1
  let s1 := s.stopGen k
  let s2 := if (s1.core k).prog == .grain then s1.abandonSoon k else s1
  if pkBit c.pkt 25 0 then s2.beginReset k else s2

/-- One commit at its bench's grain start. -/
def State.benchApply (s : State) (c : Commit) : State :=
  match c.opcode.toNat with
  | 0x0101 => s.startCoreApply c
  | 0x0102 => s.stopCoreApply c
  | 0x0301 => s.taplistApply (pk c.pkt 24 1)
  | _ => s.dropCommit c

/-! ## Commits due -/

/-- The commits of domain d with a grain no later than its current one are taken, those that satisfy p, and applied in order
of acceptance (02 R54, R75); those that a step has just passed over wait for the boundary after it (R46). -/
def State.applyDue (s : State) (d : Nat) (p : Commit → Bool) (f : State → Commit → State) : State :=
  let x := s.dom d
  let due := fun (c : Commit) => c.dom == d && (if x.stepped then c.grain == x.cnt else c.grain.toNat ≤ x.cnt.toNat) && p c
  (s.cmds.commits.filter due).foldl f (s.modCmds fun m => { m with commits := m.commits.filter (fun c => !due c) })

/-- The commit is one of a bench that will take no grain start of domain d: its bench left the domain or is not up. -/
def State.orphan (s : State) (d : Nat) (c : Commit) : Bool :=
  match benchOfCommit c with
  | some b => s.benchDom b != d || !s.benchUp b
  | none => false

end Sys2Proof.Machine
end

