-- ==== Sys2Proof/Machine/Grains.lean ====
section
/-! DEFINITION. The order of a grain (02 R52-R65): boundaries, fabric grain starts, bench grain starts, arrival triggers,
deadlines; event program starts and wakes (15 R491-R495); raises at the controller (15 R486); tally digests (12 R412). -/

namespace Sys2Proof.Machine

/-! ## Boundaries -/

/-- What comes with every boundary of domain d: the limit of the twin's answer (12 R415), doubt (R416), concur windows (16
R519), coverage periods (20 R579). -/
def State.afterBoundary (s : State) (d : Nat) : State :=
  (((s.pairLimit d).doubt d).lapseAtBoundary d).spallTick d

/-- GRAIN_BOUNDARY (R45): the domain's next boundary; slips are counted (03 R119). -/
def grainBoundary (d : DomId) (v : SourceView) (ns : SubNs) (s : State) : State :=
  if s.domRuns d.val && !s.sys.fatal && !s.sys.refLost then ((s.boundary d.val v ns.val).slipCheck d.val).afterBoundary d.val else s

/-- GRAIN_STEP (R46): the step of a kept request, at the source's boundary. -/
def stepDomain (d : DomId) (ns : SubNs) (s : State) : State :=
  if s.domRuns d.val && s.rsPend d.val && !s.sys.fatal && !s.sys.refLost then (grainStep d ns s).afterBoundary d.val else s

/-! ## Fabric grain starts -/

/-- Blocks other than benches that resume at a fabric grain start once no core is halted (19 R576). A thawed sequencer goes
on with what waited. -/
def State.thawFabric (s : State) : State :=
  if s.anyHalted then s
  else
    let seqs := s.sys.thaw.filter (fun x => 29 ≤ x && x < 61)
    let s1 := { s with sys := { s.sys with thaw := s.sys.thaw.filter (fun x => 17 ≤ x && x < 29) } }
    seqs.foldl (fun s x => s.dmaSettle (x - 29)) s1

/-- Commits due in the domain that act in a bench which takes no grain start of it are dropped (14 R465). -/
def State.dropOrphans (s : State) (d : Nat) : State :=
  s.applyDue d (fun c => s.orphan d c) (fun t c => t.dropCommit c)

/-- The grain start goes to every bench of the domain that is up (R52). -/
def State.sendGrainStart (s : State) (d : Nat) : State :=
  (List.range 12).foldl (init := s) fun s b =>
    if s.benchDom b = d ∧ s.benchUp b then s.setBench b { s.bench b with due := true } else s

/-- An island that has relocked resumes at its next grain start (17 R528). -/
def State.resume (s : State) (i : Nat) : State :=
  { s with sys := { s.sys with stopped := s.sys.stopped.filter (fun x => x != 100 + i) } }

/-- FABRIC_GRAIN_START (R52): the pair's decisions (12 R409, R410), commits (R54, R75), SCHED pages (04 R133), stream
releases (11 R373, 12 R404), the MARK, `resNs` after the boundary and before frames of higher rank (12 R400, R388), and the grain
start to every bench of the domain. -/
def fabricGrainStart (d : DomId) (resNs : Word) (s : State) : State :=
  let s := s.resume 12
  if s.domRuns d.val && s.islandUp 12 && (s.dom d.val).fabDue then
    let g := (s.dom d.val).cnt
    let s1 := s.thawFabric.sendMark d.val resNs
    let s2 := if s1.pairDom = d.val then s1.pairStart g else s1
    let s3 := (s2.dropOrphans d.val).applyDue d.val (fun c => (benchOfCommit c).isNone) (fun t c => t.fabricApply c)
    let s4 := { s3 with fab := { s3.fab with schedPage := tset 0 s3.fab.schedPage d.val s3.rtPage } }
    let s5 := (s4.within 29 (s4.netRelease d.val g.toNat))
    let s6 := (s5.within 30 (s5.chRelease d.val g.toNat)).modDom d.val fun x =>
      { x with fab := g, fabOn := true, fabDue := false }
    (s6.sendGrainStart d.val).leaveStep
  else s

/-! ## Bench grain starts -/

/-- A known-answer chunk on core c is cancelled: its results are discarded and it runs again later (20 R581). -/
def State.katCut (s : State) (c : Nat) : State :=
  if s.spall.katCore = some c then { s with spall := { s.spall with katCore := none } } else s

/-- The grain registers and DZT, FTZ and FACT of a core come into effect (02 R61, 06 R204). -/
def State.takeRegs (s : State) (c : Nat) : State :=
  let cfg := s.rawReg (coreReg A.coreCfg c)
  let s1 := s.setFld (coreReg A.coreCfgact c) 3 4 (fget cfg 3 4)
  s1.modCore c fun k =>
    { k with gctl := s.rawReg (coreReg A.coreGctl c), gentry := s.rawReg (coreReg A.coreGentry c),
             gdl := s.rawReg (coreReg A.grainDl c), trig := s.rawReg (coreReg A.coreTrig c),
             tlatest := s.rawReg (coreReg A.coreTrigLatest c) }

/-- Core c takes part in its bench's grain start: it is neither halted, nor on its way into a halt that a fault ordered (19
R569, 06 R231), nor in reset (18 R547). -/
def State.takesGrain (s : State) (c : Nat) : Bool :=
  !(s.core c).halted && (s.core c).haltPend != some 2 && !(s.core c).resetting

/-- A grain program that has not executed GEND by the grain start misses its deadline, whatever `GRAIN_DL` holds (R62). That
of an older grain, which FINISH carried over, is the further fault of R65 (log entry 131). -/
def State.missAtStart (s : State) (old : DWord) (c : Nat) : State :=
  let k := s.core c
  if s.takesGrain c && !k.missed && ((k.prog == .grain && !k.noDl && k.grain == old) || k.trigWait) then
    (s.missDeadline c old).modCore c fun k => { k with missed := true }
  else s

/-- An event program still running at the grain start is cut (15 R494): never a stall delays it. -/
def State.cutEvent (s : State) (c : Nat) : State :=
  let info := match s.holds c with | some n => n + 2 ^ 10 | none => 0
  ((s.abandonCut c).setFld (A.evtCstat c) 12 1 1).raise 34 c info

/-- A FINISH core still in grain g at the grain start of g + 2: ABANDON, a second fault of its grain g, and source 17 (R65;
log entry 131). -/
def State.forceAbandon (s : State) (c : Nat) : State :=
  let s1 := (s.count (coreReg A.coreDlcnt c) 0 32).setReg (coreReg A.coreDllast c) ((s.core c).grain.setWidth 32)
  (s1.raise 17 c (s.benchDom (c / 8))).abandonSoon c

/-- A core that still waits for its trigger when its grain's time is over: under ABANDON the program it owes ends like a
running one (R64). -/
def State.dropTrigger (s : State) (c : Nat) : State :=
  let t := if (s.core c).trigWait && !bitAt (s.core c).gctl.toNat 1 then s.abandon c else s
  t.modCore c fun k => { k with trigWait := false }

/-- What still runs on core c at the grain start, `old` the bench's grain until now. A resumed program becomes this grain's
program (19 R571). No deadline of the new grain has been missed. -/
def State.endOldWork (s : State) (old g : DWord) (c : Nat) : State :=
  let k := s.core c
  let s := s.modCore c fun k => { k with missed := false }
  match k.prog with
  | .event => s.cutEvent c
  | .grain =>
    if k.noDl then s.modCore c fun k => { k with grain := g, noDl := false }
    else if !bitAt k.gctl.toNat 1 then s.abandonSoon c
    else if k.grain = old then s.modCore c fun k => { k with trigHit := false, trigPast := false }
    else s.forceAbandon c
  | .none => s.dropTrigger c

/-- Core c at its bench's grain start (R54, R61, 06 R215). A halted core takes none, and its wait for a trigger is over. -/
def State.coreGrain (s : State) (old g : DWord) (c : Nat) : State :=
  if !s.takesGrain c then s.modCore c fun k => { k with trigWait := false }
  else
    let s1 := (((s.perfGrain c).katCut c).endOldWork old g c).takeRegs c
    if (s1.core c).prog != .none then s1
    else
      let s2 := s1.reloadSegs c
      if bitAt (s2.core c).gctl.toNat 0 then s2.startGrainWork c else s2

/-- A new report interval of bench b's banks (05 R614): source 28 once per bank and source 30 once per word again. -/
def State.newReports (s : State) (b : Nat) : State :=
  (List.range 32).foldl (init := s) fun s i =>
    s.setBank (32 * b + i) { s.bank (32 * b + i) with denied := false, ueWords := [] }

/-- A clock change that waited for the grain start is made (18 R556). -/
def State.clockChange (s : State) (b : Nat) : State :=
  if (s.bench b).pllLocked then
    ((s.setFld (A.benchClkstat b) 0 11 (s.fld (A.benchClk b) 0 11)).setFld (A.benchClkstat b) 12 1 0).setBench b
      { s.bench b with pllLocked := false }
  else s

/-- Digests of grains whose TDIG will not be sent any more are dropped. -/
def State.trimDigs (s : State) (b n : Nat) : State :=
  (List.range 8).foldl (init := s) fun s i =>
    s.modCore (8 * b + i) fun k => { k with digs := k.digs.filter (fun e => n ≤ e.1) }

/-- A bench reset runs: grain starts are not taken (18 R548). -/
def State.benchResets (s : State) (b : Nat) : Bool := s.bit (A.benchRst b) 1

/-- An ingress word stands ahead of the bench's grain start in its channel and has not been written (R53). -/
def State.wordsAhead (s : State) (b : Nat) : Bool :=
  (s.bench b).ahead.any fun e => ((s.wq e.1).take e.2).any (fun x => benchOfBank (bankOf x.dst) == b)

/-- BENCH_GRAIN_START (R53, R54): once the ingress words ahead of it are in their inboxes, commits first, then the cores and the
Fathom engine begin the grain's work. -/
def benchGrainStart (b : BenchId) (s : State) : State :=
  let b := b.val
  let s := if (s.bench b).due && !s.wordsAhead b then s.resume b else s
  if !(s.bench b).due || s.wordsAhead b || !s.islandUp b then s
  else if s.benchResets b then s.setBench b { s.bench b with due := false }
  else
    let d := s.benchDom b
    let g := (s.dom d).fab
    let old := (s.bench b).grain
    let next := if (s.bench b).tdigNext + 1 = g.toNat then (s.bench b).tdigNext else g.toNat
    let cs := (List.range 8).map (fun i => 8 * b + i)
    let s1 := cs.foldl (fun s c => s.missAtStart old c) s
    let s2 := s1.setBench b { s1.bench b with grain := g, started := true, due := false, timerInt := false, period := s1.timer / 25, tdigNext := next }
    let s3 := ((s2.newReports b).clockChange b).trimDigs b next
    let s4 := s3.applyDue d (fun c => benchOfCommit c == some b) (fun t c => t.benchApply c)
    let s5 := if s4.anyHalted then s4 else
      { s4 with sys := { s4.sys with thaw := s4.sys.thaw.filter (fun x => x != 17 + b) } }
    (cs.foldl (fun s c => s.coreGrain old g c) s5).fthGrain b g

/-- REPORT_INTERVAL_END (05 R614): a period of 25 µs of the always-on timer ends where the bench takes no grain starts. -/
def reportIntervalEnd (b : BenchId) (s : State) : State :=
  let b := b.val
  let takes := s.domRuns (s.benchDom b) && s.benchUp b && (s.bench b).started && !s.benchResets b
  if takes && !(s.bench b).timerInt || s.timer / 25 = (s.bench b).period then s
  else (s.newReports b).setBench b { s.bench b with timerInt := true, period := s.timer / 25 }

/-! ## Triggers and deadlines -/

/-- TRIGGER_FIRE (R57): the trigger word has been written in the window, and the core starts. -/
def triggerFire (c : CoreId) (s : State) : State :=
  let k := s.core c.val
  if k.trigWait && k.trigHit && !k.halted && s.islandUp (c.val / 8) then s.beginGrain c.val else s

/-- TRIGGER_LATEST (R58, R65): the window ends. A core that waits starts, with TMISS where nothing came; one that runs late
learns at its GEND that the latest start has passed. -/
def triggerLatest (c : CoreId) (s : State) : State :=
  let k := s.core c.val
  if !s.islandUp (c.val / 8) || k.halted then s
  else if k.trigWait then
    if k.trigHit then s.beginGrain c.val else (s.setFld (coreReg A.coreGstat c.val) 2 1 1).beginGrain c.val
  else if s.owes c.val && !k.trigHit then s.modCore c.val fun k => { k with trigPast := true }
  else s

/-- CORE_DEADLINE (R62-R65): `GRAIN_DL` cycles after the grain start the program of the bench's grain has not executed GEND, be it
running, waiting for its trigger, or still to come after the older one that FINISH carries on. Under ABANDON nothing of either
grain goes on. A halted core's deadline is not counted, and a resumed program has none (19 R571). -/
def coreDeadline (c : CoreId) (s : State) : State :=
  let c := c.val
  let k := s.core c
  let g := (s.bench (c / 8)).grain
  if s.islandUp (c / 8) && s.takesGrain c && !k.noDl && !k.missed && (k.prog == .grain || k.trigWait) then
    let s1 := (s.missDeadline c g).modCore c fun k => { k with missed := true }
    if bitAt k.gctl.toNat 1 then s1
    else if k.trigWait then s1.dropTrigger c
    else (s1.modCore c fun k => { k with grain := g }).abandonSoon c
  else s

/-! ## Event programs and wakes -/

/-- An event program begins (15 R493): its entry bundle is fetched, gsn stays. -/
def State.beginEvent (s : State) (c : Nat) : State :=
  let s1 := ((s.katCut c).loadCode c (s.fld (A.evtCentry c) 1 7)).setFld (A.evtCstat c) 13 1 1
  s1.modCore c fun k =>
    { k with prog := .event, pc := s.rawReg (A.evtCofs c), waiting := false, fpath := [], dslot := none, annul := false,
             regTgt := false, squash := false, dlPend := false }

/-- EVENT_PROGRAM_START (15 R492): a start reaches its core, which checks its mask and that it is still idle. -/
def eventProgramStart (c : CoreId) (s : State) : State :=
  if s.evt.starts.contains c.val then
    let s1 := { s with evt := { s.evt with starts := s.evt.starts.filter (fun x => x != c.val) } }
    if !s1.bit (A.evtCmask c.val) 0 && s1.coreIdle c.val && s1.islandUp (c.val / 8) then s1.beginEvent c.val else s1
  else s

/-- WAIT_WAKE (15 R495): a source deliverable to a core in WAIT; the wake counts for the lowest one (R500). -/
def waitWake (c : CoreId) (s : State) : State :=
  match s.firstDeliver c.val with
  | some n =>
    if (s.core c.val).waiting && (!(s.core c.val).halted || 0 < (s.core c.val).steps) && !(s.core c.val).locks.any (fun l => l.taken) && s.islandUp (c.val / 8) then
      (s.modCore c.val fun k => { k with waiting := false }).beginCHold n
    else s
  | none => s

/-! ## Raises -/

/-- A raise that silences an ACTIVE member (12 R417): a spall failure, or a unit fault named in `TW_SILMASK`. -/
def State.silencing (s : State) (src : Nat) : Bool :=
  src == 9 || (src < 64 && (if src < 32 then s.bit A.twSilmaskLo src else s.bit A.twSilmaskHi (src - 32)))

/-- EVENT_RAISE (15 R486): the oldest raise on its way reaches the controller. -/
def eventRaise (s : State) : State :=
  match s.raises with
  | [] => s
  | r :: rest =>
    let s1 := { s with raises := rest }
    let s2 := if s1.silencing r.src then s1.silence false else s1
    ((s2.coalesce r).pmeCheck 0).pmeCheck 1

/-! ## Tally digests -/

/-- Core c has ended grain g, and every store that its digest covers has left the store buffer (12 R412). -/
def State.endedGrain (s : State) (c g : Nat) : Bool :=
  let k := s.core c
  !(bitAt k.gctl.toNat 0 && ((k.prog == .grain && k.grain.toNat ≤ g) || (k.trigWait && (s.bench (c / 8)).grain.toNat ≤ g))) &&
  (k.sb ++ k.sbWait).all (fun e => e.digGrain != g)

/-- TDIG_SEND (12 R412): the digests of the bench's oldest grain not yet sent, once every core has ended it. -/
def tdigSend (b : BenchId) (s : State) : State :=
  let b := b.val
  let x := s.bench b
  let g := x.tdigNext
  let cs := (List.range 8).map (fun i => 8 * b + i)
  if s.paired && x.started && g ≤ x.grain.toNat && s.islandUp 30 && cs.all (fun c => s.endedGrain c g) then
    let ds := cs.map (fun c => tget 0 (s.core c).digs g)
    let s1 := (s.setBench b { x with tdigNext := g + 1 }).sendTally (.tdig b (BitVec.ofNat 64 g) ds)
    (s1.modTwin fun t => { t with own := tput t.own (g * 16 + b) ds }).compareDigests (g * 16 + b)
  else s

/-! ## The commands -/

/-- GRAIN_BOUNDARY (02 R45). -/
def execGrainBoundary (d : DomId) (v : SourceView) (ns : SubNs) (s : State) : Host.Outcome State Fault Refusal :=
  finish s (grainBoundary d v ns s)
/-- GRAIN_STEP (02 R46). -/
def execGrainStep (d : DomId) (ns : SubNs) (s : State) : Host.Outcome State Fault Refusal := finish s (stepDomain d ns s)
/-- FABRIC_GRAIN_START (02 R52). -/
def execFabricGrainStart (d : DomId) (r : Word) (s : State) : Host.Outcome State Fault Refusal :=
  finish s (fabricGrainStart d r s)
/-- BENCH_GRAIN_START (02 R53). -/
def execBenchGrainStart (b : BenchId) (s : State) : Host.Outcome State Fault Refusal := finish s (benchGrainStart b s)
/-- TRIGGER_FIRE (02 R57). -/
def execTriggerFire (c : CoreId) (s : State) : Host.Outcome State Fault Refusal := finish s (triggerFire c s)
/-- TRIGGER_LATEST (02 R58). -/
def execTriggerLatest (c : CoreId) (s : State) : Host.Outcome State Fault Refusal := finish s (triggerLatest c s)
/-- CORE_DEADLINE (02 R63). -/
def execCoreDeadline (c : CoreId) (s : State) : Host.Outcome State Fault Refusal := finish s (coreDeadline c s)
/-- EVENT_RAISE (15 R486). -/
def execEventRaise (s : State) : Host.Outcome State Fault Refusal := finish s (eventRaise s)
/-- EVENT_PROGRAM_START (15 R492). -/
def execEventProgramStart (c : CoreId) (s : State) : Host.Outcome State Fault Refusal := finish s (eventProgramStart c s)
/-- WAIT_WAKE (15 R495). -/
def execWaitWake (c : CoreId) (s : State) : Host.Outcome State Fault Refusal := finish s (waitWake c s)
/-- TDIG_SEND (12 R412). -/
def execTdigSend (b : BenchId) (s : State) : Host.Outcome State Fault Refusal := finish s (tdigSend b s)
/-- REPORT_INTERVAL_END (05 R614). -/
def execReportIntervalEnd (b : BenchId) (s : State) : Host.Outcome State Fault Refusal := finish s (reportIntervalEnd b s)

end Sys2Proof.Machine
end

