-- ==== Sys2Proof/Machine/MonBase.lean ====
section
/-! DEFINITION. The channels of the resident monitor (19 R559-R565): requests, replies, the mailbox. -/

namespace Sys2Proof.Machine

/-- MSTAT codes (R565). -/
def mOK : Nat := 0
def mSEALED : Nat := 1
def mNOSESSION : Nat := 2
def mBADARG : Nat := 3
def mNOTHALTED : Nat := 4
def mFAULT : Nat := 5
def mUNKNOWN : Nat := 6

/-- A session is open on the channel (R559, R577). -/
def State.sessionOn (s : State) (ch : MonChan) : Bool :=
  s.bit A.dbgStat 2 && s.bit A.dbgStat 3 == (match ch with | .mailbox => false | .serial => true)

/-- The words of a reply in the mailbox's reply buffer. -/
def State.putReply (s : State) (ws : List Word) : State :=
  ws.zipIdx.foldl (fun s x => s.setReg (A.mbxRpl x.2) x.1) s

/-- A reply (R562, R563): on the serial port a frame; in the mailbox the reply buffer, its length, BUSY and DONE, and the
vector. In D3hot PF1 sends no message (13 R454). -/
def State.monSay (s : State) (ch : MonChan) (op tag : Byte) (mstat : Nat) (busy : Bool) (data : List Word) : State :=
  match ch with
  | .serial =>
    let head : List Byte := [op, tag, BitVec.ofNat 8 mstat, BitVec.ofNat 8 (b2n busy)]
    s.emit (.serial (serialFrame 4 (head ++ data.flatMap (fun w => bytesOf w.toNat 4))))
  | .mailbox =>
    let w : Word := BitVec.ofNat 32 (op.toNat + tag.toNat * 2 ^ 8 + mstat * 2 ^ 16 + b2n busy * 2 ^ 24)
    let s1 := (s.putReply (w :: data)).setReg A.mbxRpllen (BitVec.ofNat 32 (4 + 4 * data.length))
    let s2 := (s1.setFld A.mbxStat 0 1 0).setFld A.mbxStat 1 1 1
    if s2.bit A.mbxIrq 8 && !(s2.fn 1).d3 then s2.msix 1 (s2.fld A.mbxIrq 0 8) else s2

/-- What a request needs before its arguments are looked at (R563): debug open, a session on its channel. An operation that
R563 does not define needs nothing. -/
def State.monNeeds (s : State) (ch : MonChan) (op : Nat) : Option Nat :=
  if 9 < op then some mUNKNOWN
  else if op = 0 then none
  else if op < 9 ∧ !s.debugOpen then some mSEALED
  else if !s.sessionOn ch then some mNOSESSION
  else none

/-- Bytes of a register of a class (R564). -/
def classBytes (cls : Nat) : Nat := match cls with | 2 => 64 | 3 => 8 | 4 => 144 | _ => 4

/-- The bytes that the arguments of a request end at, and the bytes that are reserved (R563). -/
def monShape (op : Nat) (r : List Byte) : Nat × List Nat :=
  let b (i : Nat) : Nat := (r.getD i 0).toNat
  match op with
  | 0 => (4, [])
  | 1 => (13, [])
  | 2 => (16 + 4 * (b 10 + 256 * b 11), [12, 13, 14, 15])
  | 5 => (8, [5])
  | 6 => (40, [5, 6, 7])
  | 7 => (7, [])
  | 8 => (8 + classBytes (b 5), [7])
  | _ => (5, [])

/-- A request whose bytes are in order: long enough for its arguments (log entry 50), reserved bytes 0 (R565). -/
def monFormed (r : List Byte) : Bool :=
  let op := (r.getD 0 0).toNat
  let sh := monShape op r
  4 ≤ r.length && sh.1 ≤ r.length && r.getD 2 0 == 0 && r.getD 3 0 == 0 && sh.2.all (fun i => r.getD i 0 == 0) &&
  (op != 1 || (r.getD 12 0).toNat < 2)

/-- A request that a command from INFO to BAUD answers; one that no operation of R563 names, or whose bytes are not in order, is
answered without one. -/
def monRowed (r : List Byte) : Bool := (r.getD 0 0).toNat ≤ 9 && monFormed r

/-- A request whose answer waits for a core is before any later one on its channel (R563: in order of arrival); without its clock
the foreman answers none (17 R528). -/
def State.monBusy (s : State) (ch : MonChan) : Bool :=
  !s.islandUp 33 || s.cores.any (fun e => match e.2.mon with | some m => m.ch == ch | none => false)

/-- The answer to a request that no command answers. -/
def State.monRefuse (s : State) (ch : MonChan) (r : List Byte) : State :=
  let op := r.getD 0 0
  s.monSay ch op (r.getD 1 0) ((s.monNeeds ch op.toNat).getD mBADARG) false []

/-- The oldest request of the serial port is taken. -/
def State.monPop (s : State) : State := { s with sys := { s.sys with monQ := s.sys.monQ.drop 1 } }

/-- The oldest requests of the serial port are answered, up to one that a command answers. -/
def State.monAuto (s : State) : State :=
  s |> upTo s.sys.monQ.length fun s _ =>
    match s.sys.monQ with
    | r :: _ => if s.monBusy .serial || monRowed r then s else s.monPop.monRefuse .serial r
    | [] => s

/-- A reply, and the answers that waited for it. -/
def State.monReply (s : State) (ch : MonChan) (op tag : Byte) (mstat : Nat) (busy : Bool) (data : List Word) : State :=
  match ch with
  | .serial => (s.monSay .serial op tag mstat busy data).monAuto
  | .mailbox => s.monSay .mailbox op tag mstat busy data

/-- The request in the mailbox's buffer. -/
def State.mbxRequest (s : State) : List Byte :=
  let n := s.fld A.mbxReqlen 0 13
  ((List.range ((n + 3) / 4)).flatMap (fun i => bytesOf (s.rawReg (A.mbxReq i)).toNat 4)).take (if 4112 < n then 0 else n)

/-- MBX_GO (R562): no effect while BUSY is 1. -/
def mbxGo (v : Word) (s : State) : State :=
  if fget v 0 1 = 1 ∧ !s.bit A.mbxStat 0 then
    let t := s.setFld A.mbxStat 0 1 1
    if monRowed s.mbxRequest then t else t.monRefuse .mailbox s.mbxRequest
  else s

/-- The request to answer next on a channel: the oldest of the serial port, or the one that the mailbox holds while BUSY is 1. -/
def State.monNext (s : State) (ch : MonChan) : Option (List Byte) :=
  match ch with
  | .serial => s.sys.monQ.head?
  | .mailbox => if s.bit A.mbxStat 0 then some s.mbxRequest else none

/-- It is the turn of a request: the next one begins with its bytes. -/
def State.monTurn (s : State) (ch : MonChan) (req : List Byte) : Bool :=
  !s.monBusy ch && (match s.monNext ch with | some r => monRowed r && r.take req.length == req | none => false)

/-- A request is taken from its channel. -/
def State.monTake (s : State) (ch : MonChan) : State := match ch with | .serial => s.monPop | .mailbox => s

/-- MSP_FRAME_RECEIVE (R561): a frame that is not whole is counted; a packet goes to the command engine, a request to the
monitor. Frames that only the unit sends, and a packet that is not of 64 bytes, do nothing (log entry 51). -/
def mspFrameReceive (line : SerialFrame) (s : State) : State :=
  match frameOf line with
  | none => s.count A.mspCfg 16 16
  | some f =>
    let body := (f.drop 3).take (f.length - 7)
    if f.getD 0 0 = 1 ∧ body.length = 64 then s.receive .serial (BitVec.ofNat 512 (natOf body))
    else if f.getD 0 0 = 3 then State.monAuto { s with sys := { s.sys with monQ := s.sys.monQ ++ [body] } }
    else s

/-! ## The commands -/

/-- MSP_FRAME_RECEIVE (19 R561). -/
def execMspFrameReceive (f : SerialFrame) (s : State) : Host.Outcome State Fault Refusal := finish s (mspFrameReceive f s)
/-- MBX_GO (19 R562). -/
def execMbxGo (v : Word) (s : State) : Host.Outcome State Fault Refusal := finish s (mbxGo v s)

end Sys2Proof.Machine
end

