-- ==== Sys2Proof/Machine/Faults.lean ====
section
/-! DEFINITION. Unit power states and bench power (18 R551-R558), bench reset (R548), unit resets and boot (R542-R546), unit
faults (17 R528). -/

namespace Sys2Proof.Machine

/-! ## Benches: power, clock, reset -/

/-- A bench is in IDLE rather than RUN (R554): every core STOPPED with no event entry, the engine not enabled. -/
def State.benchIdle (s : State) (b : Nat) : Bool :=
  s.benchUp b && (List.range 8).all (fun i => s.coreState (8 * b + i) == 0 && !s.bit (A.evtCentry (8 * b + i)) 0) &&
  !s.fthEn b (s.fthPage b)

/-- `BENCH_PWR.STATE` as it reads: 0 RUN, 1 IDLE, 2 RETAIN, 3 OFF, 4 CHANGING. -/
def State.benchState (s : State) (b : Nat) : Nat :=
  let x := s.fld (A.benchPwr b) 4 3
  if x < 2 then (if s.benchIdle b then 1 else 0) else x

/-- The benches' state for a REQ code: RUN, RETAIN, OFF. -/
def reqState (r : Nat) : Nat := match r with | 0 => 1 | 1 => 2 | _ => 3

/-- The stores to banks that a core still has queued when its bench goes down are written (05 R181), where a stripe holds one
as soon as it is free. Those to control registers stay queued, and the core's reset waits for them (R547). -/
def State.emptySb (s : State) (c : Nat) : State :=
  let es := (s.core c).sb ++ (s.core c).sbWait
  let kept := s.modCore c fun k => fillSb { k with sb := [], sbWait := [] } (es.filter (fun e => e.ctl))
  (es.filter (fun e => !e.ctl)).foldl (init := kept) fun s e =>
    let s1 := s.modCore c fun k => digestEntry k e
    if e.parts.any (fun p => s1.coreWaits c p.addr) then s1.latchStore c e
    else s1.storeOut c e

/-- Everything of the tap list ends, a list that waits and outputs not yet written too. -/
def State.fthReset (s : State) (b : Nat) : State :=
  (s.fthStop b).modFth b fun x => { x with later := none, laterMissed := false, outs := [] }

/-- A bench begins to leave RUN for RETAIN or OFF: its cores end under reset, the tap list stops, grain starts on their way
are lost, the PLL goes off, and its banks are not ON (R553, R555). -/
def State.benchDown (s : State) (b goal : Nat) : State :=
  let s1 := (List.range 8).foldl (fun s i => ((s.katCut (8 * b + i)).beginReset (8 * b + i)).emptySb (8 * b + i)) s
  let s2 := (List.range 32).foldl (init := s1.fthReset b) fun s j =>
    (s.setFld (bankReg A.bankPwr (32 * b + j)) 4 2 3).setBank (32 * b + j) { s.bank (32 * b + j) with pwrTo := none }
  let s3 := (s2.setFld (A.benchPwr b) 4 3 4).setFld (A.benchClkstat b) 11 1 0
  s3.setBench b { s3.bench b with pwrTo := some (BitVec.ofNat 2 goal), due := false, pllLocked := false, timerInt := true }

/-- A bench begins to return to RUN (R555). -/
def State.benchReturn (s : State) (b : Nat) : State :=
  (s.setFld (A.benchPwr b) 4 3 4).setBench b { s.bench b with pwrTo := some 1 }

/-- A request for a bench's power state (R555): RETAIN and OFF only from IDLE. -/
def State.benchRequest (s : State) (b r : Nat) : State :=
  if r = 0 then
    let s1 := s.setFld (A.benchPwr b) 0 2 0
    if s.benchUp b || s.fld A.sysPwr 2 2 != 2 then s1 else s1.benchReturn b
  else if s.benchIdle b then (s.setFld (A.benchPwr b) 0 2 r).benchDown b (reqState r)
  else s.setFld (A.benchPwr b) 2 1 1

/-- BENCH_PWR_WRITE (R555, R558): REQ 0b11 leaves the field unchanged; a write during a change takes effect at its end. -/
def benchPwrWrite (b : BenchId) (v : Word) (s : State) : State :=
  let b := b.val
  let s1 := if fget v 2 1 = 1 then s.setFld (A.benchPwr b) 2 1 0 else s
  let r := fget v 0 2
  if r = 3 then s1
  else if s1.fld (A.benchPwr b) 4 3 = 4 then s1.setBench b { s1.bench b with pwrNext := some (BitVec.ofNat 2 r) }
  else s1.benchRequest b r

/-- Every bank of a bench takes the state that the bench and its own REQ ask for; OFF loses the contents (R553, 05 R185). -/
def State.banksFollow (s : State) (b : Nat) : State :=
  (List.range 32).foldl (init := s) fun s j =>
    let n := 32 * b + j
    let x := s.bankWants n
    let s1 := s.setFld (bankReg A.bankPwr n) 4 2 x
    if x = 2 then s1.wipe (n * 0x80000) 0x80000 else s1

/-- BENCH_POWER_CHANGE_DONE (R555): the state is reached. A bench back in RUN has reset its cores and runs at the frequency
requested. OFF loses the far-window cache. A request that came meanwhile follows. -/
def benchPowerChangeDone (b : BenchId) (s : State) : State :=
  let b' := b.val
  match (s.bench b').pwrTo with
  | none => s
  | some goal =>
    let s1 := (s.setFld (A.benchPwr b') 4 3 goal.toNat).setBench b' { s.bench b' with pwrTo := none, pwrNext := none }
    let s2 := s1.banksFollow b'
    let s3 :=
      if goal = 1 then
        let t := ((s2.setFld (A.benchClkstat b') 0 11 (s2.fld (A.benchClk b') 0 11)).setFld (A.benchClkstat b') 11 2 1)
        (List.finRange 8).foldl (fun s i => coreResetDone ⟨8 * b' + i.val, by omega⟩ s) t
      else if goal = 3 then s2.fwcInvalidate b' (fun _ => true)
      else s2
    match (s.bench b').pwrNext with
    | some r => s3.benchRequest b' r.toNat
    | none => s3

/-- BENCH_CLK_WRITE (R556, R558): 400 to 2,000 MHz in steps of 25; any other value leaves the field unchanged. -/
def benchClkWrite (b : BenchId) (v : Word) (s : State) : State :=
  let f := fget v 0 11
  if 400 ≤ f ∧ f ≤ 2000 ∧ f % 25 = 0 then
    let s1 := s.setFld (A.benchClk b.val) 0 11 f
    if s.benchUp b.val then
      (s1.setFld (A.benchClkstat b.val) 12 1 (b2n (f != s.fld (A.benchClkstat b.val) 0 11))).setBench b.val
        { s.bench b.val with pllLocked := false }
    else s1
  else s

/-- BENCH_PLL_LOCK (R556): the changeover comes at once in IDLE, and at the first grain start after lock in RUN. -/
def benchPllLock (b : BenchId) (s : State) : State :=
  if s.bit (A.benchClkstat b.val) 12 && s.benchUp b.val then
    let s1 := s.setBench b.val { s.bench b.val with pllLocked := true }
    if s.benchIdle b.val then s1.clockChange b.val else s1
  else s

/-- BENCH_RST (R548): no effect while BUSY is 1, nor in a bench that is not up (log entry 42). -/
def benchRst (b : BenchId) (s : State) : State :=
  let b' := b.val
  if s.benchResets b' || !s.benchUp b' then s
  else
    let s1 := (List.range 8).foldl (fun s i => (s.katCut (8 * b' + i)).beginReset (8 * b' + i)) s
    fwcInv b ((s1.fthReset b').setFld (A.benchRst b') 1 1 1)

/-- BENCH_RESET_DONE (R548): every core has left its reset, and the cache is invalid. -/
def benchResetDone (b : BenchId) (s : State) : State :=
  let b' := b.val
  if s.benchResets b' && (List.range 8).all (fun i => !(s.core (8 * b' + i)).resetting) then
    let s1 := s.setFld (A.benchRst b') 1 1 0
    if s1.fwcBusy b' then fwcInvalidateDone b s1 else s1
  else s

/-! ## The unit's power state (R551, R552) -/

/-- The islands that STANDBY takes down lose their links; every bench goes to RETAIN, or OFF where requested. -/
def State.standbyDown (s : State) : State :=
  let s1 := (List.finRange 4).foldl (fun s p => chainPortDown p s) s
  let s2 := (List.finRange 8).foldl (fun s e => linkChange e false s) s1
  (List.range 12).foldl (init := s2) fun s b =>
    let goal := if s.fld (A.benchPwr b) 0 2 = 2 then 3 else 2
    if s.benchUp b then s.benchDown b goal
    else if s.fld (A.benchPwr b) 4 3 = 4 then
      s.setBench b { s.bench b with pwrTo := some (BitVec.ofNat 2 goal), pwrNext := none }
    else s

/-- A change of the unit's power state begins. -/
def State.pwrBegin (s : State) (standby : Bool) : State :=
  let s1 := { s.setFld A.sysPwr 2 2 3 with sys := { s.sys with pwrTo := some standby } }
  if standby then s1.standbyDown else s1

/-- STANDBY may be entered (R552): every `RD_CTL[d].EN` 0, and SOLO or FENCED. -/
def State.standbyOk (s : State) : Bool :=
  (List.range 4).all (fun d => !s.domEn d) && (s.twState == twSolo || s.twState == twFenced)

/-- What REQ asks for begins, where no change is in progress and it differs from STATE (1 STANDBY, 2 RUN); a unit stopped
by a fault waits for its reset. -/
def State.pwrFollow (s : State) : State :=
  let st := s.fld A.sysPwr 2 2
  if s.sys.fatal then s
  else if s.bit A.sysPwr 0 && st == 2 then s.pwrBegin true
  else if !s.bit A.sysPwr 0 && st == 1 then s.pwrBegin false
  else s

/-- SYS_PWR_WRITE (R552, R557): a write of STANDBY where it may not be entered has no effect and sets REF. -/
def sysPwrWrite (v : Word) (s : State) : State :=
  let s1 := if fget v 1 1 = 1 then s.setFld A.sysPwr 1 1 0 else s
  if fget v 0 1 = 1 ∧ !s1.standbyOk then s1.setFld A.sysPwr 1 1 1
  else (s1.setFld A.sysPwr 0 1 (fget v 0 1)).pwrFollow

/-- The DRAM of every stack that has not failed is in self-refresh in STANDBY, and in RUN no longer (01 R17, 10 R334). -/
def State.selfRefresh (s : State) (on : Bool) : State :=
  s |> upTo 4 fun s q => if s.stackFailed q then s else s.setFld (A.fmStat q) 2 1 (b2n on)

/-- The benches' changes that STANDBY forced are at their end. -/
def State.benchesSettle (s : State) : State :=
  (List.finRange 12).foldl (fun s b => if (s.bench b.val).pwrTo.isSome then benchPowerChangeDone b s else s) s

/-- POWER_STATE_CHANGE_DONE (R552): STANDBY or RUN is reached; back in RUN, each bench returns to its requested state. -/
def powerStateChangeDone (s : State) : State :=
  match s.sys.pwrTo with
  | none => s
  | some standby =>
    let s1 := { (s.setFld A.sysPwr 2 2 (if standby then 1 else 2)).selfRefresh standby with sys := { s.sys with pwrTo := none } }
    let s2 := if standby then s1.benchesSettle else
      (List.range 12).foldl (init := s1) fun s b =>
        if s.fld (A.benchPwr b) 0 2 = 0 ∧ !s.benchUp b then s.benchReturn b else s
    s2.pwrFollow

/-! ## Resets and boot (R542-R546) -/

/-- `SYS_STRAP` from the pins (R543, 21 R603): HEAD, ROLE by the voltage of STRAP_TWINROLE, AUTHB, STRAPERR. -/
def strapWord (p : StrapPins) : Word :=
  let v := p.twinroleMv
  let role := if v < 300 then 1 else if 1500 < v then 2 else 0
  let err := !(v < 300 || (700 ≤ v && v ≤ 1100) || 1500 < v)
  BitVec.ofNat 32 (b2n p.head + role * 2 + b2n p.authb * 8 + b2n err * 16)

/-- POWER_ON_RESET (R542). -/
def powerOnReset (p : StrapPins) (s : State) : State := s.powerOn (strapWord p)

/-- RESET_N_ASSERT (R545): RESET_N low for a time in ns. A pulse of 0.5 µs to 1 µs may do either (free value). -/
def resetNAssert (lowNs : Nat) (s : State) : State :=
  if lowNs < 500 then s
  else if 1000 ≤ lowNs then s.unitReset 1 0
  else if Config.freeBit s.fresh then s.stir.unitReset 1 0
  else s.stir

/-- The head's index (12 R394, R396): 0, unless its role is ODD; alone on the ring its COUNT is 1. -/
def State.headIndex (s : State) : State :=
  if !s.isHead then s
  else if s.role = 2 then s.enumError 10
  else
    let s1 := s.takeIndex 0
    if s.fld (A.chPstat 0) 0 2 = 0 ∧ s.fld (A.chPstat 1) 0 2 = 0 then s1.setFld A.chStat 16 7 1 else s1

/-- BOOT_READY (R544, R546): PHASE reaches READY; the unit is in RUN, every stack is trained, every PLL locked. A reset that a
fault or the temperature holds does not end (17 R528). -/
def bootReady (s : State) : State :=
  if s.sys.booting && !s.sys.fatal && !s.sys.thermalHold && !s.sys.refLost then
    let s1 := (List.range 4).foldl (fun s q => if s.stackFailed q then s else s.setFld (A.fmStat q) 0 2 2) s
    ({ s1.setFld A.sysStat 0 2 3 with sys := { s1.sys with booting := false, stopped := [] } }).headIndex
  else s

/-! ## Faults (17 R528) -/

/-- `UF_TEMP`: the hottest sensor as it reads. -/
def State.setTemp (s : State) (sensor temp : Nat) : State := s.setReg A.ufTemp (BitVec.ofNat 32 (temp + sensor * 2 ^ 16))

/-- THERMAL_WARN: the hottest sensor reads `temp` sixteenths of a degree; raised at or above WARN, at most once in 100 ms. -/
def thermalWarn (sensor : Fin 32) (temp : BitVec 16) (s : State) : State :=
  let s1 := s.setTemp sensor.val temp.toNat
  let again := match s.sys.lastWarn with | some t => t + 100000 ≤ s.timer | none => true
  if (s.fld A.ufTwarn 0 8 : Int) * 16 ≤ temp.toInt ∧ again = true then
    { s1.raise 0 sensor.val temp.toNat with sys := { s1.sys with lastWarn := some s.timer } }
  else s1

/-- A trip and a rail fault within one µs: the latch names the lower source first (21 R599). -/
def State.latchOrder (s : State) : State :=
  if s.rawReg A.ufFirst = 0x42 ∧ s.rawReg A.ufFirstt = BitVec.ofNat 32 s.timer ∧ s.bit A.ufLatchLo 1 then s.setReg A.ufFirst 0x41
  else s

/-- THERMAL_TRIP: a sensor at 105 °C. The unit stops and enters STANDBY until a unit reset, which is held while a sensor reads
above 95 °C. -/
def thermalTrip (sensor : Fin 32) (temp : BitVec 16) (s : State) : State :=
  if 105 * 16 ≤ temp.toInt then
    let s1 := (((s.setTemp sensor.val temp.toNat).raise 1 sensor.val temp.toNat).latchOrder).standbyDown
    { (s1.setFld A.sysPwr 2 2 1).selfRefresh true with sys := { s1.sys with fatal := true, thermalHold := true, pwrTo := none } }.benchesSettle
  else s

/-- THERMAL_RESET_HOLD_END: every sensor reads 95 °C or less. -/
def thermalResetHoldEnd (s : State) : State := { s with sys := { s.sys with thermalHold := false } }

/-- RAIL_FAULT (R599): a unit reset begins at once. Without VDD_AON (rail 0) or VDDIO_18 (1) the unit waits for the power-on
reset. -/
def railFault (rail : Fin 9) (s : State) : State :=
  let s1 := ((s.raise 2 rail.val 0).latchOrder).unitReset 3 0
  if rail.val < 2 then { s1 with sys := { s1.sys with fatal := true } } else s1

/-- Every command that the foreman holds ends with INTERNAL_FAULT, source 8 for each; a pair command under way is aborted. A
monitor session is closed (R528, R535). -/
def State.foremanLost (s : State) : State :=
  let v : Verdict := .plain stInternal
  let told := fun (s : State) (p : Packet) => s.raise 8 (pkOpcode p) (pkSeq p).toNat
  let s1 := (s.twin.out.filter (fun x => !x.relayed)).foldl (init := s) fun s x =>
    told ((s.modTwin fun t => { t with out := t.out.filter (fun y => y.tag != x.tag) }).pairAbort x v 0) x.pkt
  let s2 := (s1.twin.out.filter (fun x => x.relayed)).foldl (fun s x => told (s.endRelayed x.pkt v 0 0) x.pkt) s1
  let s3 := (s2.cmds.inprog.filter (fun x => x.stage == .ready)).foldl (fun s x => told (s.answer x.origin x.pkt v 0) x.pkt) s2
  s3.setFld A.dbgStat 2 1 0

/-- FOREMAN_RESTART: the watchdog expires. -/
def foremanRestart (code : Word) (s : State) : State := (s.raise 5 0 code.toNat).foremanLost

/-- CLOCK_UNLOCK: an island's PLL loses lock, and the island stops. -/
def clockUnlock (i : IslandId) (s : State) : State :=
  if s.sys.stopped.contains i.val then s
  else
    let s1 := (s.raise 3 i.val 0).resume i.val
    let s2 := { s1 with sys := { s1.sys with stopped := s1.sys.stopped ++ [i.val] } }
    if i.val < 12 then s2.setFld (A.benchClkstat i.val) 11 1 0 else s2

/-- An island that grain starts drive waits for its next one after a relock: a bench, or the fabric, with a domain that
runs. -/
def State.grainDriven (s : State) (i : Nat) : Bool :=
  if i < 12 then s.domRuns (s.benchDom i) && s.benchUp i
  else i == 12 && (List.range 4).any (fun d => s.domRuns d)

/-- CLOCK_RELOCK: the island resumes, at its next grain start where it has one; the foreman restarts. -/
def clockRelock (i : IslandId) (s : State) : State :=
  if s.sys.stopped.contains i.val then
    let rest := s.sys.stopped.filter (fun x => x != i.val)
    let s1 := { s with sys := { s.sys with stopped := if s.grainDriven i.val then rest ++ [100 + i.val] else rest } }
    if i.val < 12 then (if s1.benchUp i.val then s1.setFld (A.benchClkstat i.val) 11 1 1 else s1)
    else if i.val = 33 then s1.foremanLost.monAuto
    else s1
  else s

/-- REF_LOSS: no edge of the reference for 1 µs. -/
def refLoss (s : State) : State :=
  let s1 := s.raise 4 0 0
  { s1 with sys := { s1.sys with refLost := true } }

/-- REFERENCE_RETURN: the reference has run for 1 ms, and a unit reset follows. -/
def referenceReturn (s : State) : State :=
  if s.sys.refLost then { s with sys := { s.sys with refLost := false } }.unitReset 4 0 else s

/-- CONFIG_UE: an entry of a configuration store reads an uncorrectable error and acts as the catalogue says until it is
written again. `BANK_ELIG` takes its reset value, with 05 R176. -/
def configUe (store : BitVec 3) (entry : BitVec 16) (s : State) : State :=
  let n := entry.toNat
  let k := store.toNat
  let s1 := s.raise 10 k n
  match k with
  | 4 =>
    if n < 384 then
      let s2 := (List.range 8).foldl (fun s j => s.setReg (A.bankElig n j) (resetOf (A.bankElig n j))) s1
      (s2.setReg (A.bankEligF n) 0).evict n
    else s1
  | 7 => ({ s1 with cfgUe := s1.cfgUe ++ [(7, n)] }).setQErr n 4
  | _ => if s1.bad k n then s1 else { s1 with cfgUe := s1.cfgUe ++ [(k, n)] }

/-! ## The commands -/

/-- POWER_ON_RESET (18 R542). -/
def execPowerOnReset (p : StrapPins) (s : State) : Host.Outcome State Fault Refusal := finish s (powerOnReset p s)
/-- RESET_N_ASSERT (18 R545). -/
def execResetNAssert (n : Nat) (s : State) : Host.Outcome State Fault Refusal := finish s (resetNAssert n s)
/-- BOOT_READY (18 R544). -/
def execBootReady (s : State) : Host.Outcome State Fault Refusal := finish s (bootReady s)
/-- BENCH_RST (18 R548). -/
def execBenchRst (b : BenchId) (s : State) : Host.Outcome State Fault Refusal := finish s (benchRst b s)
/-- BENCH_RESET_DONE (18 R548). -/
def execBenchResetDone (b : BenchId) (s : State) : Host.Outcome State Fault Refusal := finish s (benchResetDone b s)
/-- SYS_PWR_WRITE (18 R552). -/
def execSysPwrWrite (v : Word) (s : State) : Host.Outcome State Fault Refusal := finish s (sysPwrWrite v s)
/-- POWER_STATE_CHANGE_DONE (18 R552). -/
def execPowerStateChangeDone (s : State) : Host.Outcome State Fault Refusal := finish s (powerStateChangeDone s)
/-- BENCH_PWR_WRITE (18 R555). -/
def execBenchPwrWrite (b : BenchId) (v : Word) (s : State) : Host.Outcome State Fault Refusal := finish s (benchPwrWrite b v s)
/-- BENCH_POWER_CHANGE_DONE (18 R555). -/
def execBenchPowerChangeDone (b : BenchId) (s : State) : Host.Outcome State Fault Refusal :=
  finish s (benchPowerChangeDone b s)
/-- BENCH_CLK_WRITE (18 R556). -/
def execBenchClkWrite (b : BenchId) (v : Word) (s : State) : Host.Outcome State Fault Refusal := finish s (benchClkWrite b v s)
/-- BENCH_PLL_LOCK (18 R556). -/
def execBenchPllLock (b : BenchId) (s : State) : Host.Outcome State Fault Refusal := finish s (benchPllLock b s)
/-- THERMAL_WARN (17 R528). -/
def execThermalWarn (n : Fin 32) (t : BitVec 16) (s : State) : Host.Outcome State Fault Refusal := finish s (thermalWarn n t s)
/-- THERMAL_TRIP (17 R528). -/
def execThermalTrip (n : Fin 32) (t : BitVec 16) (s : State) : Host.Outcome State Fault Refusal := finish s (thermalTrip n t s)
/-- RAIL_FAULT (17 R528). -/
def execRailFault (r : Fin 9) (s : State) : Host.Outcome State Fault Refusal := finish s (railFault r s)
/-- CLOCK_UNLOCK (17 R528). -/
def execClockUnlock (i : IslandId) (s : State) : Host.Outcome State Fault Refusal := finish s (clockUnlock i s)
/-- CLOCK_RELOCK (17 R528). -/
def execClockRelock (i : IslandId) (s : State) : Host.Outcome State Fault Refusal := finish s (clockRelock i s)
/-- REF_LOSS (17 R528). -/
def execRefLoss (s : State) : Host.Outcome State Fault Refusal := finish s (refLoss s)
/-- FOREMAN_RESTART (17 R528). -/
def execForemanRestart (code : Word) (s : State) : Host.Outcome State Fault Refusal := finish s (foremanRestart code s)
/-- CONFIG_UE (17 R528). -/
def execConfigUe (st : BitVec 3) (e : BitVec 16) (s : State) : Host.Outcome State Fault Refusal := finish s (configUe st e s)
/-- REFERENCE_RETURN (17 R528). -/
def execReferenceReturn (s : State) : Host.Outcome State Fault Refusal := finish s (referenceReturn s)
/-- THERMAL_RESET_HOLD_END (17 R528). -/
def execThermalResetHoldEnd (s : State) : Host.Outcome State Fault Refusal := finish s (thermalResetHoldEnd s)

end Sys2Proof.Machine
end

