-- ==== Sys2Proof/Machine/HostWin.lean ====
section
/-! DEFINITION. PF0's BAR2 (13 R431): the window onto the banks and the far-memory aperture. -/

namespace Sys2Proof.Machine

/-- PF0 and its host window. -/
def hostWho : Nat := 140

/-- An access cut at 64-byte lines: first address and length of each part. -/
def lineParts (a n : Nat) : List (Nat × Nat) :=
  if n = 0 then []
  else (List.range ((a + n - 1) / 64 - a / 64 + 1)).map fun i =>
    let lo := Nat.max a ((a / 64 + i) * 64)
    (lo, Nat.min (a + n) ((a / 64 + i + 1) * 64) - lo)

/-- The global address of a BAR2 offset; none in its reserved range. -/
def State.winAddr (s : State) (off : Nat) : Option Nat :=
  if off < bankEnd then some off
  else if off < 0x20000000 || (pciFn 0).bar2 ≤ off then none
  else some (farBase + s.fld A.hostFmap 0 8 * 0x20000000 + (off - 0x20000000))

/-- A part of an access waits: for a borrowed stripe or a locked bank, or because the far-memory island has no clock. -/
def State.winWaits (s : State) (off : Nat) : Bool :=
  match s.winAddr off with
  | some a => if inBanks a then s.borrowed a else !s.islandUp 32
  | none => false

/-- One part of a read; `busy`: port A writes to its words in the same cycle (05 R167, R170). -/
def State.winRead (s : State) (off n : Nat) (busy : Bool) : State × List Byte :=
  match s.winAddr off with
  | none => (s.addressMap hostWho off, bytesOf 0 n)
  | some a =>
    if inBanks a then
      let r := s.portReadMet hostWho a n busy
      (r.1, bytesOf (r.2.getD 0) n)
    else
      let r := s.farRead hostWho a n
      (r.1, bytesOf r.2 n)

/-- One part of a write; `busy`: it meets port A accesses to its words. -/
def State.winWrite (s : State) (off : Nat) (bs : List Byte) (busy : Bool) : State :=
  match s.winAddr off with
  | none => s.addressMap hostWho off
  | some a =>
    if inBanks a then (s.portWriteMet hostWho a bs busy).1
    else s.farWrite hostWho a bs

/-- A part lies in the banks, behind the seam. -/
def State.winBank (s : State) (off : Nat) : Bool := match s.winAddr off with | some a => inBanks a | none => false

/-- One part of a read with an uncorrectable error of the seam (17 R528; path 4, fabric to bench): it returns 0. -/
def State.winReadSeam (s : State) (off n : Nat) (busy seam : Bool) : State × List Byte :=
  let r := s.winRead off n busy
  if seam && s.winBank off then (r.1.raise 6 4 0, bytesOf 0 n) else r

/-- One part of a write with one: it is not made. -/
def State.winWriteSeam (s : State) (off : Nat) (bs : List Byte) (busy seam : Bool) : State :=
  if seam && s.winBank off then s.raise 6 4 0 else s.winWrite off bs busy

/-- HOST_WINDOW_ACCESS (R431): `busy` lists the parts, by number, that meet BUSY, of which the host has no indication; `seam`
those that the seam loses. -/
def hostWindowAccess (off : BitVec 30) (a : HostAcc) (busy seam : List Nat) (s : State) : State :=
  let off := off.toNat
  match a with
  | .rd n =>
    let ps := lineParts off n.val
    if ps.any (fun p => s.winWaits p.1) then s
    else
      let r := ps.zipIdx.foldl (init := (s, ([] : List Byte))) fun x p =>
        let r := x.1.winReadSeam p.1.1 p.1.2 (busy.contains p.2) (seam.contains p.2)
        (r.1, x.2 ++ r.2)
      r.1.emit (.bytes hostWho r.2)
  | .wr bs =>
    let ps := lineParts off bs.length
    if ps.any (fun p => s.winWaits p.1) then s
    else ps.zipIdx.foldl (fun s p => s.winWriteSeam p.1.1 ((bs.drop (p.1.1 - off)).take p.1.2)
      (busy.contains p.2) (seam.contains p.2)) s

/-- HOST_WINDOW_ACCESS (13 R431). -/
def execHostWindowAccess (off : BitVec 30) (a : HostAcc) (busy seam : List Nat) (s : State) : Host.Outcome State Fault Refusal :=
  finish s (hostWindowAccess off a busy seam s)

end Sys2Proof.Machine
end

