-- ==== Sys2Proof/Machine/Vector.lean ====
section
/-! DEFINITION. The operations of the M slots (08 R271-R292): vector arithmetic, compares, accumulators, scalar fp32,
transfers. -/

namespace Sys2Proof.Machine

def mSlot (n : Fin 2) : Nat := 2 + n.val

/-- The rounding mode and FTZ as they stand at issue (R287). -/
def State.fpEnv (s : State) (c : Nat) : FpEnv := ⟨fget (s.core c).flg 16 2, s.ftz c⟩

/-! ## Lane functions (R278, R279, R286) -/

/-- The register-form operations. -/
inductive MOp where
  | vadd | vsub | vadds | vsubs | vand | vor | vxor | vshl | vshr | vsar | vmin | vmax | vmulq
  | vmul | vneg | vnegs | vabs | vabss | vnot | vmov | vclz | vsext24 | vrnd24 | vcvtqf | vcvtfq
  | vcvtif | vcvtfi | vfneg | vfabs | vfadd | vfsub | vfmul | vfma | vfms | vfmin | vfmax
  deriving DecidableEq, Repr

/-- Latency in bundles. -/
def MOp.latency : MOp → Nat
  | .vmulq | .vmul => 4
  | .vcvtqf | .vcvtfq | .vcvtif | .vcvtfi | .vfadd | .vfsub | .vfmul | .vfma | .vfms => 5
  | _ => 2

/-- A saturated lane: S where it saturates. -/
def satS (x : Int) : Word × Nat := (BitVec.ofInt 32 (satI x 32), if satI x 32 = x then 0 else fS)
def sFlag (r : Word × Bool) : Word × Nat := (r.1, if r.2 then fS else 0)

/-- One lane: the result and the sticky flags it sets, from the lanes of VD, VA and VB. -/
def MOp.lane (op : MOp) (v : FpEnv) (d a b : Word) : Word × Nat :=
  match op with
  | .vadd => (a + b, 0)
  | .vsub => (a - b, 0)
  | .vadds => satS (a.toInt + b.toInt)
  | .vsubs => satS (a.toInt - b.toInt)
  | .vand => (a &&& b, 0)
  | .vor => (a ||| b, 0)
  | .vxor => (a ^^^ b, 0)
  | .vshl => (shlW a b.toNat, 0)
  | .vshr => (shrW a b.toNat, 0)
  | .vsar => (sarW a b.toNat, 0)
  | .vmin => (if a.toInt ≤ b.toInt then a else b, 0)
  | .vmax => (if a.toInt ≤ b.toInt then b else a, 0)
  | .vmulq => sFlag (mulqW a b)
  | .vmul => (a * b, 0)
  | .vneg => (-a, 0)
  | .vnegs => satS (-a.toInt)
  | .vabs => (if a.msb then -a else a, 0)
  | .vabss => satS (if a.msb then -a.toInt else a.toInt)
  | .vnot => (~~~a, 0)
  | .vmov => (a, 0)
  | .vclz => (BitVec.ofNat 32 (clzW a), 0)
  | .vsext24 => (sextW a 24, 0)
  | .vrnd24 => sFlag (rnd24W a)
  | .vcvtqf => fpOfInt v a 31
  | .vcvtfq => let r := fpToInt v a 31; (r.1, cvtFlags fS r.2)
  | .vcvtif => fpOfInt v a 0
  | .vcvtfi => let r := fpToInt v a 0; (r.1, cvtFlags fIV r.2)
  | .vfneg => (fpNeg v a, 0)
  | .vfabs => (fpAbs v a, 0)
  | .vfadd => fpAdd v a b
  | .vfsub => fpSub v a b
  | .vfmul => fpMul v a b
  | .vfma => fpFma v d a b
  | .vfms => fpFms v d a b
  | .vfmin => fpMinMax v false a b
  | .vfmax => fpMinMax v true a b

/-- The sticky flags of the active lanes together (R275). -/
def laneFlags (m : BitVec 16) (f : Nat → Nat) : Nat :=
  (List.range 16).foldl (fun x i => if m.getLsbD i then x ||| f i else x) 0

/-- The active lanes: those of PG within the width; a short operation has no PG (R273, R274). -/
def State.mLanes (s : State) (c : Nat) (short : Bool) (pg : BitVec 3) : BitVec 16 :=
  if short then s.widthMask c else s.active c pg.toNat

/-- A register-form operation: the active lanes of VD, and the sticky flags with them. -/
def State.mEff (s : State) (c : Nat) (op : MOp) (x : MArgs) : State :=
  let v := s.fpEnv c
  let r (i : Nat) : Word × Nat :=
    op.lane v (lane (s.vreg c x.vd.toNat) i) (lane (s.vreg c x.va.toNat) i) (lane (s.vreg c x.vb.toNat) i)
  let m := s.mLanes c x.short x.pg
  (s.schedV c (mSlot x.slot) op.latency x.vd.toNat m (vecOf (fun i => (r i).1))).schedFlg c (mSlot x.slot) op.latency
    (sticky (laneFlags m (fun i => (r i).2)))

def State.mFault (s : State) (c : Nat) (x : MArgs) : Option FltRec :=
  illegalIf (!x.short && s.badCond c x.cond) (mSlot x.slot)

def State.mRow (s : State) (c : Nat) (op : MOp) (x : MArgs) : State :=
  s.opRun c (s.mFault c x) (s.holds4 c x.short x.cond) (fun s => s.mEff c op x)

/-! ## Compares (R280, R281) -/

/-- A predicate of lane results: bits 4i to 4i + 3 (R272). -/
def predOf (f : Nat → Bool) : DWord :=
  BitVec.ofNat 64 ((List.range 16).foldr (fun i x => (if f i then 15 else 0) + 16 * x) 0)

def State.mCmpFault (s : State) (c maxCc : Nat) (x : MCmpArgs) : Option FltRec :=
  illegalIf (s.badCond c x.cond || x.pd == 0 || maxCc < x.cc.toNat) (mSlot x.slot)

/-- A compare: every lane within the width; no governing predicate. -/
def State.mCmpRow (s : State) (c maxCc : Nat) (f : FpEnv → Nat → Word → Word → Bool × Nat) (x : MCmpArgs) : State :=
  s.opRun c (s.mCmpFault c maxCc x) (s.condTrue c x.cond.toNat) fun s =>
    let v := s.fpEnv c
    let r (i : Nat) : Bool × Nat := f v x.cc.toNat (lane (s.vreg c x.va.toNat) i) (lane (s.vreg c x.vb.toNat) i)
    (s.schedP c (mSlot x.slot) 2 x.pd.toNat (predOf (fun i => i < s.width c && (r i).1))).schedFlg c (mSlot x.slot) 2
      (sticky (laneFlags (s.widthMask c) (fun i => (r i).2)))

/-- VCMP's lane: CC as 07 R240. -/
def vcmpLane (_ : FpEnv) (cc : Nat) (a b : Word) : Bool × Nat := (cmpHolds cc a b, 0)

/-! ## Accumulators (R282-R285) -/

/-- The lanes an accumulate form acts on. -/
def State.accRow (s : State) (c : Nat) (fault : Option FltRec) (go : Bool) (slot : Fin 2) (n : BitVec 2) (fn : AccFn)
    (va vb : Nat) (m : BitVec 16) : State :=
  s.opRun c fault go fun s =>
    s.modCore c fun k =>
      { k with accs := k.accs ++ [⟨k.t + 4, k.t, mSlot slot, n, fn, s.vreg c va, s.vreg c vb, m⟩] }

/-- Faults of VMACQ, VMSUQ, VMACI; VACZ has VA and VB reserved (R282). -/
def State.macFault (s : State) (c : Nat) (z : Bool) (x : AccArgs) : Option FltRec :=
  illegalIf ((!x.short && s.badCond c x.cond) || (z && (x.va != 0 || x.vb != 0))) (mSlot x.slot)

def State.macRow (s : State) (c : Nat) (fn : AccFn) (x : AccArgs) : State :=
  s.accRow c (s.macFault c (fn == .clear) x) (s.holds4 c x.short x.cond) x.slot x.vac fn x.va.toNat x.vb.toNat
    (s.mLanes c x.short x.pg)

/-- SH of VACX runs to 63, of VACR to 40 (R284). -/
def State.accMovFault (s : State) (c maxSh : Nat) (x : AccMovArgs) : Option FltRec :=
  illegalIf (s.badCond c x.cond || maxSh < x.sh.toNat) (mSlot x.slot)

/-- VACR (R282). -/
def State.vacrRow (s : State) (c : Nat) (x : AccMovArgs) : State :=
  s.accRow c (s.accMovFault c 40 x) (s.condTrue c x.cond.toNat) x.slot x.vac (.load x.sh) x.vr.toNat 0 (s.active c x.pg.toNat)

/-- VACX's lane: rounded half upwards, shifted, saturated (R284). -/
def vacxLane (x : Int) (sh : Nat) : Word × Nat :=
  satS (if sh = 0 then x else (x + 2 ^ (sh - 1)) / 2 ^ sh)

/-- Lane i of an accumulator as it reads: 0 beyond half width (R285). -/
def State.accRead (s : State) (c n i : Nat) : Int := if i < s.width c then accLane (tget 0 (s.core c).va n) i else 0

/-- VACX (R282-R284): it sees the changes made by bundles 4 or more before its own. -/
def State.vacxRow (s : State) (c : Nat) (x : AccMovArgs) : State :=
  s.opRun c (s.accMovFault c 63 x) (s.condTrue c x.cond.toNat) fun s =>
    let r (i : Nat) : Word × Nat := vacxLane (s.accRead c x.vac.toNat i) x.sh.toNat
    let m := s.active c x.pg.toNat
    (s.schedV c (mSlot x.slot) 2 x.vr.toNat m (vecOf (fun i => (r i).1))).schedFlg c (mSlot x.slot) 2
      (sticky (laneFlags m (fun i => (r i).2)))

/-! ## Scalar fp32 (R288) -/

/-- A write of f[n]: lane 0 of v[n] (06 R191). -/
def State.schedF (s : State) (c slot lat n : Nat) (r : Word × Nat) : State :=
  (s.schedV c slot lat n 1 (r.1.setWidth 512)).schedFlg c slot lat (sticky r.2)

def State.fRow (s : State) (c lat : Nat) (f : FpEnv → Word → Word → Word → Word × Nat) (x : FArgs) : State :=
  s.opRun c (illegalIf (s.badCond c x.cond) (mSlot x.slot)) (s.condTrue c x.cond.toNat) fun s =>
    s.schedF c (mSlot x.slot) lat x.fd.toNat
      (f (s.fpEnv c) (s.freg c x.fd.toNat) (s.freg c x.fa.toNat) (s.freg c x.fb.toNat))

/-- FCMP: FD is reserved (R288). -/
def State.fcmpFault (s : State) (c : Nat) (x : FArgs) : Option FltRec :=
  illegalIf (s.badCond c x.cond || x.fd != 0) (mSlot x.slot)

def State.fcmpRow (s : State) (c : Nat) (x : FArgs) : State :=
  s.opRun c (s.fcmpFault c x) (s.condTrue c x.cond.toNat) fun s =>
    s.schedFlg c (mSlot x.slot) 2 (fcmpFlags (s.fpEnv c) (s.freg c x.fa.toNat) (s.freg c x.fb.toNat))

/-! ## Transfers (R290, R291) -/

/-- The transfer functions. -/
inductive Xf where
  | vbcst | vins | vext | vlbc | vfsum
  deriving DecidableEq, Repr

/-- Reserved fields that are not 0; VFSUM exists in M0 only (R277). -/
def xfIllegal (f : Xf) (x : XferArgs) : Bool :=
  match f with
  | .vbcst => x.lane != 0
  | .vins | .vext => false
  | .vlbc => x.rs.getLsbD 5
  | .vfsum => x.rs.getLsbD 5 || x.lane != 0 || x.slot == 1

def State.xferFault (s : State) (c : Nat) (f : Xf) (x : XferArgs) : Option FltRec :=
  illegalIf (s.badCond c x.cond || xfIllegal f x) (mSlot x.slot)

/-- Adjacent sums of a list, each rounded (R291), with the flags so far. -/
def pairSums (v : FpEnv) : List Word → List Word × Nat
  | a :: b :: t =>
    let r := fpAdd v a b
    let u := pairSums v t
    (r.1 :: u.1, r.2 ||| u.2)
  | l => (l, 0)

/-- The tree of n levels over 2^n lanes. -/
def sumTree (v : FpEnv) : Nat → List Word × Nat → Word × Nat
  | 0, x => (x.1.headD 0, x.2)
  | n + 1, x =>
    let r := pairSums v x.1
    sumTree v n (r.1, x.2 ||| r.2)

/-- VFSUM over the lanes within the width (R291). -/
def State.vfsumOf (s : State) (c n : Nat) : Word × Nat :=
  let ls := (List.range (s.width c)).map (fun i => lane (s.vreg c n) i)
  sumTree (s.fpEnv c) (if s.halfWidth c then 3 else 4) (ls, 0)

def State.xferEff (s : State) (c : Nat) (f : Xf) (x : XferArgs) : State :=
  let sl := mSlot x.slot
  match f with
  | .vbcst => s.schedV c sl 2 x.vd.toNat (s.widthMask c) (vecOf (fun _ => s.sreg c x.rs.toNat))
  | .vins => s.schedV c sl 2 x.vd.toNat (((1 : BitVec 16) <<< x.lane.toNat) &&& s.widthMask c) (vecOf (fun _ => s.sreg c x.rs.toNat))
  | .vext => s.schedS c sl 2 x.rs.toNat (lane (s.vreg c x.vd.toNat) x.lane.toNat)
  | .vlbc => s.schedV c sl 2 x.vd.toNat (s.widthMask c)
      (vecOf (fun _ => lane (s.vreg c (x.rs.toNat % 32)) x.lane.toNat))
  | .vfsum => s.schedF c sl 10 (x.rs.toNat % 32) (s.vfsumOf c x.vd.toNat)

def State.xferRow (s : State) (c : Nat) (f : Xf) (x : XferArgs) : State :=
  s.opRun c (s.xferFault c f x) (s.condTrue c x.cond.toNat) (fun s => s.xferEff c f x)

/-! ## The commands -/

/-- VADD (08 R278, R279, R286). -/
def execVadd (c : CoreId) (x : MArgs) (s : State) : Host.Outcome State Fault Refusal := finish s (s.mRow c.val .vadd x)
/-- VSUB (08 R278, R279, R286). -/
def execVsub (c : CoreId) (x : MArgs) (s : State) : Host.Outcome State Fault Refusal := finish s (s.mRow c.val .vsub x)
/-- VADDS (08 R278, R279, R286). -/
def execVadds (c : CoreId) (x : MArgs) (s : State) : Host.Outcome State Fault Refusal := finish s (s.mRow c.val .vadds x)
/-- VSUBS (08 R278, R279, R286). -/
def execVsubs (c : CoreId) (x : MArgs) (s : State) : Host.Outcome State Fault Refusal := finish s (s.mRow c.val .vsubs x)
/-- VAND (08 R278, R279, R286). -/
def execVand (c : CoreId) (x : MArgs) (s : State) : Host.Outcome State Fault Refusal := finish s (s.mRow c.val .vand x)
/-- VOR (08 R278, R279, R286). -/
def execVor (c : CoreId) (x : MArgs) (s : State) : Host.Outcome State Fault Refusal := finish s (s.mRow c.val .vor x)
/-- VXOR (08 R278, R279, R286). -/
def execVxor (c : CoreId) (x : MArgs) (s : State) : Host.Outcome State Fault Refusal := finish s (s.mRow c.val .vxor x)
/-- VSHL (08 R278, R279, R286). -/
def execVshl (c : CoreId) (x : MArgs) (s : State) : Host.Outcome State Fault Refusal := finish s (s.mRow c.val .vshl x)
/-- VSHR (08 R278, R279, R286). -/
def execVshr (c : CoreId) (x : MArgs) (s : State) : Host.Outcome State Fault Refusal := finish s (s.mRow c.val .vshr x)
/-- VSAR (08 R278, R279, R286). -/
def execVsar (c : CoreId) (x : MArgs) (s : State) : Host.Outcome State Fault Refusal := finish s (s.mRow c.val .vsar x)
/-- VMIN (08 R278, R279, R286). -/
def execVmin (c : CoreId) (x : MArgs) (s : State) : Host.Outcome State Fault Refusal := finish s (s.mRow c.val .vmin x)
/-- VMAX (08 R278, R279, R286). -/
def execVmax (c : CoreId) (x : MArgs) (s : State) : Host.Outcome State Fault Refusal := finish s (s.mRow c.val .vmax x)
/-- VMULQ (08 R278, R279, R286). -/
def execVmulq (c : CoreId) (x : MArgs) (s : State) : Host.Outcome State Fault Refusal := finish s (s.mRow c.val .vmulq x)
/-- VMUL (08 R278, R279, R286). -/
def execVmul (c : CoreId) (x : MArgs) (s : State) : Host.Outcome State Fault Refusal := finish s (s.mRow c.val .vmul x)
/-- VNEG (08 R278, R279, R286). -/
def execVneg (c : CoreId) (x : MArgs) (s : State) : Host.Outcome State Fault Refusal := finish s (s.mRow c.val .vneg x)
/-- VNEGS (08 R278, R279, R286). -/
def execVnegs (c : CoreId) (x : MArgs) (s : State) : Host.Outcome State Fault Refusal := finish s (s.mRow c.val .vnegs x)
/-- VABS (08 R278, R279, R286). -/
def execVabs (c : CoreId) (x : MArgs) (s : State) : Host.Outcome State Fault Refusal := finish s (s.mRow c.val .vabs x)
/-- VABSS (08 R278, R279, R286). -/
def execVabss (c : CoreId) (x : MArgs) (s : State) : Host.Outcome State Fault Refusal := finish s (s.mRow c.val .vabss x)
/-- VNOT (08 R278, R279, R286). -/
def execVnot (c : CoreId) (x : MArgs) (s : State) : Host.Outcome State Fault Refusal := finish s (s.mRow c.val .vnot x)
/-- VMOV (08 R278, R279, R286). -/
def execVmov (c : CoreId) (x : MArgs) (s : State) : Host.Outcome State Fault Refusal := finish s (s.mRow c.val .vmov x)
/-- VCLZ (08 R278, R279, R286). -/
def execVclz (c : CoreId) (x : MArgs) (s : State) : Host.Outcome State Fault Refusal := finish s (s.mRow c.val .vclz x)
/-- VSEXT24 (08 R278, R279, R286). -/
def execVsext24 (c : CoreId) (x : MArgs) (s : State) : Host.Outcome State Fault Refusal := finish s (s.mRow c.val .vsext24 x)
/-- VRND24 (08 R278, R279, R286). -/
def execVrnd24 (c : CoreId) (x : MArgs) (s : State) : Host.Outcome State Fault Refusal := finish s (s.mRow c.val .vrnd24 x)
/-- VCVTQF (08 R278, R279, R286). -/
def execVcvtqf (c : CoreId) (x : MArgs) (s : State) : Host.Outcome State Fault Refusal := finish s (s.mRow c.val .vcvtqf x)
/-- VCVTFQ (08 R278, R279, R286). -/
def execVcvtfq (c : CoreId) (x : MArgs) (s : State) : Host.Outcome State Fault Refusal := finish s (s.mRow c.val .vcvtfq x)
/-- VCVTIF (08 R278, R279, R286). -/
def execVcvtif (c : CoreId) (x : MArgs) (s : State) : Host.Outcome State Fault Refusal := finish s (s.mRow c.val .vcvtif x)
/-- VCVTFI (08 R278, R279, R286). -/
def execVcvtfi (c : CoreId) (x : MArgs) (s : State) : Host.Outcome State Fault Refusal := finish s (s.mRow c.val .vcvtfi x)
/-- VFNEG (08 R278, R279, R286). -/
def execVfneg (c : CoreId) (x : MArgs) (s : State) : Host.Outcome State Fault Refusal := finish s (s.mRow c.val .vfneg x)
/-- VFABS (08 R278, R279, R286). -/
def execVfabs (c : CoreId) (x : MArgs) (s : State) : Host.Outcome State Fault Refusal := finish s (s.mRow c.val .vfabs x)
/-- VFADD (08 R278, R279, R286). -/
def execVfadd (c : CoreId) (x : MArgs) (s : State) : Host.Outcome State Fault Refusal := finish s (s.mRow c.val .vfadd x)
/-- VFSUB (08 R278, R279, R286). -/
def execVfsub (c : CoreId) (x : MArgs) (s : State) : Host.Outcome State Fault Refusal := finish s (s.mRow c.val .vfsub x)
/-- VFMUL (08 R278, R279, R286). -/
def execVfmul (c : CoreId) (x : MArgs) (s : State) : Host.Outcome State Fault Refusal := finish s (s.mRow c.val .vfmul x)
/-- VFMA (08 R278, R279, R286). -/
def execVfma (c : CoreId) (x : MArgs) (s : State) : Host.Outcome State Fault Refusal := finish s (s.mRow c.val .vfma x)
/-- VFMS (08 R278, R279, R286). -/
def execVfms (c : CoreId) (x : MArgs) (s : State) : Host.Outcome State Fault Refusal := finish s (s.mRow c.val .vfms x)
/-- VFMIN (08 R278, R279, R286). -/
def execVfmin (c : CoreId) (x : MArgs) (s : State) : Host.Outcome State Fault Refusal := finish s (s.mRow c.val .vfmin x)
/-- VFMAX (08 R278, R279, R286). -/
def execVfmax (c : CoreId) (x : MArgs) (s : State) : Host.Outcome State Fault Refusal := finish s (s.mRow c.val .vfmax x)
/-- VCMP (08 R280). -/
def execVcmp (c : CoreId) (x : MCmpArgs) (s : State) : Host.Outcome State Fault Refusal := finish s (s.mCmpRow c.val 6 vcmpLane x)
/-- VFCMP (08 R280). -/
def execVfcmp (c : CoreId) (x : MCmpArgs) (s : State) : Host.Outcome State Fault Refusal := finish s (s.mCmpRow c.val 4 fpCmp x)
/-- VMACQ (08 R282, R283). -/
def execVmacq (c : CoreId) (x : AccArgs) (s : State) : Host.Outcome State Fault Refusal := finish s (s.macRow c.val .mac x)
/-- VMSUQ (08 R282, R283). -/
def execVmsuq (c : CoreId) (x : AccArgs) (s : State) : Host.Outcome State Fault Refusal := finish s (s.macRow c.val .msu x)
/-- VMACI (08 R282, R283). -/
def execVmaci (c : CoreId) (x : AccArgs) (s : State) : Host.Outcome State Fault Refusal := finish s (s.macRow c.val .maci x)
/-- VACZ (08 R282, R283). -/
def execVacz (c : CoreId) (x : AccArgs) (s : State) : Host.Outcome State Fault Refusal := finish s (s.macRow c.val .clear x)
/-- VACX (08 R282-R284). -/
def execVacx (c : CoreId) (x : AccMovArgs) (s : State) : Host.Outcome State Fault Refusal := finish s (s.vacxRow c.val x)
/-- VACR (08 R282-R284). -/
def execVacr (c : CoreId) (x : AccMovArgs) (s : State) : Host.Outcome State Fault Refusal := finish s (s.vacrRow c.val x)
/-- FADD (08 R288). -/
def execFadd (c : CoreId) (x : FArgs) (s : State) : Host.Outcome State Fault Refusal :=
  finish s (s.fRow c.val 5 (fun v _ a b => fpAdd v a b) x)
/-- FSUB (08 R288). -/
def execFsub (c : CoreId) (x : FArgs) (s : State) : Host.Outcome State Fault Refusal :=
  finish s (s.fRow c.val 5 (fun v _ a b => fpSub v a b) x)
/-- FMUL (08 R288). -/
def execFmul (c : CoreId) (x : FArgs) (s : State) : Host.Outcome State Fault Refusal :=
  finish s (s.fRow c.val 5 (fun v _ a b => fpMul v a b) x)
/-- FMA (08 R288). -/
def execFma (c : CoreId) (x : FArgs) (s : State) : Host.Outcome State Fault Refusal :=
  finish s (s.fRow c.val 5 (fun v d a b => fpFma v d a b) x)
/-- FMIN (08 R288). -/
def execFmin (c : CoreId) (x : FArgs) (s : State) : Host.Outcome State Fault Refusal :=
  finish s (s.fRow c.val 2 (fun v _ a b => fpMinMax v false a b) x)
/-- FMAX (08 R288). -/
def execFmax (c : CoreId) (x : FArgs) (s : State) : Host.Outcome State Fault Refusal :=
  finish s (s.fRow c.val 2 (fun v _ a b => fpMinMax v true a b) x)
/-- FCMP (08 R288). -/
def execFcmp (c : CoreId) (x : FArgs) (s : State) : Host.Outcome State Fault Refusal := finish s (s.fcmpRow c.val x)
/-- VBCST (08 R290). -/
def execVbcst (c : CoreId) (x : XferArgs) (s : State) : Host.Outcome State Fault Refusal := finish s (s.xferRow c.val .vbcst x)
/-- VINS (08 R290). -/
def execVins (c : CoreId) (x : XferArgs) (s : State) : Host.Outcome State Fault Refusal := finish s (s.xferRow c.val .vins x)
/-- VEXT (08 R290). -/
def execVext (c : CoreId) (x : XferArgs) (s : State) : Host.Outcome State Fault Refusal := finish s (s.xferRow c.val .vext x)
/-- VLBC (08 R290). -/
def execVlbc (c : CoreId) (x : XferArgs) (s : State) : Host.Outcome State Fault Refusal := finish s (s.xferRow c.val .vlbc x)
/-- VFSUM (08 R290). -/
def execVfsum (c : CoreId) (x : XferArgs) (s : State) : Host.Outcome State Fault Refusal := finish s (s.xferRow c.val .vfsum x)

end Sys2Proof.Machine
end

