-- ==== Sys2Proof/Machine/Issue.lean ====
section
/-! DEFINITION. How a bundle issues (06 R218-R222, R227-R230, 07 R257, R261, R264, R270, 09 R302-R311): fetch, the checks of
its slots before any effect, counting, results that reach their registers, the next pc. -/

namespace Sys2Proof.Machine

/-- The fault an operation of core c would take if its bundle issued now. -/
def State.opFault (s : State) (c : Nat) (i : Instr) : Option FltRec :=
  match i with
  | .add _ x => s.xFault c .add x
  | .addc _ x => s.xFault c .addc x
  | .sub _ x => s.xFault c .sub x
  | .subc _ x => s.xFault c .subc x
  | .adds _ x => s.xFault c .adds x
  | .subs _ x => s.xFault c .subs x
  | .and _ x => s.xFault c .and x
  | .or _ x => s.xFault c .or x
  | .xor _ x => s.xFault c .xor x
  | .andn _ x => s.xFault c .andn x
  | .shl _ x => s.xFault c .shl x
  | .shr _ x => s.xFault c .shr x
  | .sar _ x => s.xFault c .sar x
  | .min _ x => s.xFault c .min x
  | .max _ x => s.xFault c .max x
  | .minu _ x => s.xFault c .minu x
  | .maxu _ x => s.xFault c .maxu x
  | .mul _ x => s.xFault c .mul x
  | .mulh _ x => s.xFault c .mulh x
  | .mulq _ x => s.xFault c .mulq x
  | .mulw _ x => s.xFault c .mulw x
  | .div _ x => s.xFault c .div x
  | .divs _ x => s.xFault c .divs x
  | .divu _ x => s.xFault c .divu x
  | .rem _ x => s.xFault c .rem x
  | .remu _ x => s.xFault c .remu x
  | .neg _ x => s.xFault c .neg x
  | .negs _ x => s.xFault c .negs x
  | .abs _ x => s.xFault c .abs x
  | .abss _ x => s.xFault c .abss x
  | .not _ x => s.xFault c .not x
  | .clz _ x => s.xFault c .clz x
  | .sext8 _ x => s.xFault c .sext8 x
  | .sext16 _ x => s.xFault c .sext16 x
  | .sext24 _ x => s.xFault c .sext24 x
  | .rnd24 _ x => s.xFault c .rnd24 x
  | .popc _ x => s.xFault c .popc x
  | .cmp _ x => s.cmpFault c (xSlot x.slot) x.cond x.pd x.cc
  | .cmpi _ x => s.cmpFault c (xSlot x.slot) x.cond x.pd x.cc
  | .addi _ x => illegalIf (!x.short && s.badCond c x.cond) (xSlot x.slot)
  | .logi _ x => illegalIf (s.badCond c x.cond || x.lf == 3) (xSlot x.slot)
  | .shifti _ x => illegalIf (s.badCond c x.cond || x.sf == 3) (xSlot x.slot)
  | .ldb _ x => s.lFault c ldbForm x
  | .ldbu _ x => s.lFault c ldbuForm x
  | .ldh _ x => s.lFault c ldhForm x
  | .ldhu _ x => s.lFault c ldhuForm x
  | .ldw _ x => s.lFault c ldwForm x
  | .ldd _ x => s.lFault c lddForm x
  | .stb _ x => s.lFault c stbForm x
  | .sth _ x => s.lFault c sthForm x
  | .stw _ x => s.lFault c stwForm x
  | .std _ x => s.lFault c stdForm x
  | .ldwp _ x => s.lFault c ldwpForm x
  | .stwp _ x => s.lFault c stwpForm x
  | .lddp _ x => s.lFault c lddpForm x
  | .stdp _ x => s.lFault c stdpForm x
  | .ldwx _ x => s.lFault c ldwxForm x
  | .stwx _ x => s.lFault c stwxForm x
  | .segld _ x => s.segldFault c x
  | .ldx _ x => s.ldxFault c x
  | .stx _ x => s.stxFault c x
  | .lock _ x => s.lockFault c x
  | .constant _ x => illegalIf (s.badCond c x.cond) 7
  | .mov _ x => s.movFault c x
  | .movsr _ x => s.movsrFault c x
  | .mova _ x => illegalIf (s.badCond c x.cond || x.af == 3) 7
  | .pop _ x => s.popFault c x
  | .pmov _ x => s.pmovFault c x
  | .pnot _ x => illegalIf (x.pd == 0) 7
  | .nop _ x => s.sysFault c true true x
  | .gend _ x _ => s.sysFault c false false x
  | .wait _ x => s.sysFault c false false x
  | .isync _ x => s.sysFault c true false x
  | .fence _ x => s.sysFault c true false x
  | .swev _ x => s.swevFault c x
  | .brk _ x => s.sysFault c false false x
  | .br _ x => s.xferBad c x.cond
  | .bri _ x => s.xferBad c x.cond
  | .brs _ _ => illegalIf (s.posBad c false false) 6
  | .call _ x => s.callFault c x
  | .ret _ x => s.retFault c x
  | .loop _ x => s.loopFault c x
  | .vadd _ x => s.mFault c x
  | .vsub _ x => s.mFault c x
  | .vadds _ x => s.mFault c x
  | .vsubs _ x => s.mFault c x
  | .vand _ x => s.mFault c x
  | .vor _ x => s.mFault c x
  | .vxor _ x => s.mFault c x
  | .vshl _ x => s.mFault c x
  | .vshr _ x => s.mFault c x
  | .vsar _ x => s.mFault c x
  | .vmin _ x => s.mFault c x
  | .vmax _ x => s.mFault c x
  | .vmulq _ x => s.mFault c x
  | .vmul _ x => s.mFault c x
  | .vneg _ x => s.mFault c x
  | .vnegs _ x => s.mFault c x
  | .vabs _ x => s.mFault c x
  | .vabss _ x => s.mFault c x
  | .vnot _ x => s.mFault c x
  | .vmov _ x => s.mFault c x
  | .vclz _ x => s.mFault c x
  | .vsext24 _ x => s.mFault c x
  | .vrnd24 _ x => s.mFault c x
  | .vcvtqf _ x => s.mFault c x
  | .vcvtfq _ x => s.mFault c x
  | .vcvtif _ x => s.mFault c x
  | .vcvtfi _ x => s.mFault c x
  | .vfneg _ x => s.mFault c x
  | .vfabs _ x => s.mFault c x
  | .vfadd _ x => s.mFault c x
  | .vfsub _ x => s.mFault c x
  | .vfmul _ x => s.mFault c x
  | .vfma _ x => s.mFault c x
  | .vfms _ x => s.mFault c x
  | .vfmin _ x => s.mFault c x
  | .vfmax _ x => s.mFault c x
  | .vcmp _ x => s.mCmpFault c 6 x
  | .vfcmp _ x => s.mCmpFault c 4 x
  | .vmacq _ x => s.macFault c false x
  | .vmsuq _ x => s.macFault c false x
  | .vmaci _ x => s.macFault c false x
  | .vacz _ x => s.macFault c true x
  | .vacx _ x => s.accMovFault c 63 x
  | .vacr _ x => s.accMovFault c 40 x
  | .fadd _ x => illegalIf (s.badCond c x.cond) (mSlot x.slot)
  | .fsub _ x => illegalIf (s.badCond c x.cond) (mSlot x.slot)
  | .fmul _ x => illegalIf (s.badCond c x.cond) (mSlot x.slot)
  | .fma _ x => illegalIf (s.badCond c x.cond) (mSlot x.slot)
  | .fmin _ x => illegalIf (s.badCond c x.cond) (mSlot x.slot)
  | .fmax _ x => illegalIf (s.badCond c x.cond) (mSlot x.slot)
  | .fcmp _ x => s.fcmpFault c x
  | .vbcst _ x => s.xferFault c .vbcst x
  | .vins _ x => s.xferFault c .vins x
  | .vext _ x => s.xferFault c .vext x
  | .vlbc _ x => s.xferFault c .vlbc x
  | .vfsum _ x => s.xferFault c .vfsum x
  | .vld _ x => s.vFault c .whole false x
  | .vst _ x => s.vFault c .whole true x
  | .vlds _ x => s.vFault c .struct false x
  | .vsts _ x => s.vFault c .struct true x
  | .vgth _ x => s.vFault c .gather false x
  | .vsct _ x => s.vFault c .gather true x
  | .vldbc _ x => s.vFault c .bcst false x
  | _ => none

/-- The effect of an operation of a fed bundle (19 R572): of the B slot, NOP alone can be fed. -/
def State.runOp (s : State) (c : Nat) (i : Instr) : State :=
  match i with
  | .add _ x => s.xRow c .add x
  | .addc _ x => s.xRow c .addc x
  | .sub _ x => s.xRow c .sub x
  | .subc _ x => s.xRow c .subc x
  | .adds _ x => s.xRow c .adds x
  | .subs _ x => s.xRow c .subs x
  | .and _ x => s.xRow c .and x
  | .or _ x => s.xRow c .or x
  | .xor _ x => s.xRow c .xor x
  | .andn _ x => s.xRow c .andn x
  | .shl _ x => s.xRow c .shl x
  | .shr _ x => s.xRow c .shr x
  | .sar _ x => s.xRow c .sar x
  | .min _ x => s.xRow c .min x
  | .max _ x => s.xRow c .max x
  | .minu _ x => s.xRow c .minu x
  | .maxu _ x => s.xRow c .maxu x
  | .mul _ x => s.xRow c .mul x
  | .mulh _ x => s.xRow c .mulh x
  | .mulq _ x => s.xRow c .mulq x
  | .mulw _ x => s.xRow c .mulw x
  | .div _ x => s.xRow c .div x
  | .divs _ x => s.xRow c .divs x
  | .divu _ x => s.xRow c .divu x
  | .rem _ x => s.xRow c .rem x
  | .remu _ x => s.xRow c .remu x
  | .neg _ x => s.xRow c .neg x
  | .negs _ x => s.xRow c .negs x
  | .abs _ x => s.xRow c .abs x
  | .abss _ x => s.xRow c .abss x
  | .not _ x => s.xRow c .not x
  | .clz _ x => s.xRow c .clz x
  | .sext8 _ x => s.xRow c .sext8 x
  | .sext16 _ x => s.xRow c .sext16 x
  | .sext24 _ x => s.xRow c .sext24 x
  | .rnd24 _ x => s.xRow c .rnd24 x
  | .popc _ x => s.xRow c .popc x
  | .cmp _ x => s.cmpRow c x
  | .cmpi _ x => s.cmpiRow c x
  | .addi _ x => s.addiRow c x
  | .logi _ x => s.logiRow c x
  | .shifti _ x => s.shiftiRow c x
  | .shli _ x => s.shliRow c x
  | .ldb _ x => s.lRow c ldbForm x
  | .ldbu _ x => s.lRow c ldbuForm x
  | .ldh _ x => s.lRow c ldhForm x
  | .ldhu _ x => s.lRow c ldhuForm x
  | .ldw _ x => s.lRow c ldwForm x
  | .ldd _ x => s.lRow c lddForm x
  | .stb _ x => s.lRow c stbForm x
  | .sth _ x => s.lRow c sthForm x
  | .stw _ x => s.lRow c stwForm x
  | .std _ x => s.lRow c stdForm x
  | .ldwp _ x => s.lRow c ldwpForm x
  | .stwp _ x => s.lRow c stwpForm x
  | .lddp _ x => s.lRow c lddpForm x
  | .stdp _ x => s.lRow c stdpForm x
  | .ldwx _ x => s.lRow c ldwxForm x
  | .stwx _ x => s.lRow c stwxForm x
  | .segld _ x => s.segldRow c x
  | .ldx _ x => s.ldxRow c x
  | .stx _ x => s.stxRow c x
  | .lock _ x => s.lockRow c x
  | .constant _ x => s.constRow c x
  | .mov _ x => s.movRow c x
  | .movsr _ x => s.movsrRow c x
  | .mova _ x => s.movaRow c x
  | .pop _ x => s.popRow c x
  | .pmov _ x => s.pmovRow c x
  | .movi _ x => s.moviRow c x
  | .pnot _ x => s.pnotRow c x
  | .nop _ x => s.nopRow c x
  | .vadd _ x => s.mRow c .vadd x
  | .vsub _ x => s.mRow c .vsub x
  | .vadds _ x => s.mRow c .vadds x
  | .vsubs _ x => s.mRow c .vsubs x
  | .vand _ x => s.mRow c .vand x
  | .vor _ x => s.mRow c .vor x
  | .vxor _ x => s.mRow c .vxor x
  | .vshl _ x => s.mRow c .vshl x
  | .vshr _ x => s.mRow c .vshr x
  | .vsar _ x => s.mRow c .vsar x
  | .vmin _ x => s.mRow c .vmin x
  | .vmax _ x => s.mRow c .vmax x
  | .vmulq _ x => s.mRow c .vmulq x
  | .vmul _ x => s.mRow c .vmul x
  | .vneg _ x => s.mRow c .vneg x
  | .vnegs _ x => s.mRow c .vnegs x
  | .vabs _ x => s.mRow c .vabs x
  | .vabss _ x => s.mRow c .vabss x
  | .vnot _ x => s.mRow c .vnot x
  | .vmov _ x => s.mRow c .vmov x
  | .vclz _ x => s.mRow c .vclz x
  | .vsext24 _ x => s.mRow c .vsext24 x
  | .vrnd24 _ x => s.mRow c .vrnd24 x
  | .vcvtqf _ x => s.mRow c .vcvtqf x
  | .vcvtfq _ x => s.mRow c .vcvtfq x
  | .vcvtif _ x => s.mRow c .vcvtif x
  | .vcvtfi _ x => s.mRow c .vcvtfi x
  | .vfneg _ x => s.mRow c .vfneg x
  | .vfabs _ x => s.mRow c .vfabs x
  | .vfadd _ x => s.mRow c .vfadd x
  | .vfsub _ x => s.mRow c .vfsub x
  | .vfmul _ x => s.mRow c .vfmul x
  | .vfma _ x => s.mRow c .vfma x
  | .vfms _ x => s.mRow c .vfms x
  | .vfmin _ x => s.mRow c .vfmin x
  | .vfmax _ x => s.mRow c .vfmax x
  | .vcmp _ x => s.mCmpRow c 6 vcmpLane x
  | .vfcmp _ x => s.mCmpRow c 4 fpCmp x
  | .vmacq _ x => s.macRow c .mac x
  | .vmsuq _ x => s.macRow c .msu x
  | .vmaci _ x => s.macRow c .maci x
  | .vacz _ x => s.macRow c .clear x
  | .vacx _ x => s.vacxRow c x
  | .vacr _ x => s.vacrRow c x
  | .fadd _ x => s.fRow c 5 (fun v _ a b => fpAdd v a b) x
  | .fsub _ x => s.fRow c 5 (fun v _ a b => fpSub v a b) x
  | .fmul _ x => s.fRow c 5 (fun v _ a b => fpMul v a b) x
  | .fma _ x => s.fRow c 5 (fun v d a b => fpFma v d a b) x
  | .fmin _ x => s.fRow c 2 (fun v _ a b => fpMinMax v false a b) x
  | .fmax _ x => s.fRow c 2 (fun v _ a b => fpMinMax v true a b) x
  | .fcmp _ x => s.fcmpRow c x
  | .vbcst _ x => s.xferRow c .vbcst x
  | .vins _ x => s.xferRow c .vins x
  | .vext _ x => s.xferRow c .vext x
  | .vlbc _ x => s.xferRow c .vlbc x
  | .vfsum _ x => s.xferRow c .vfsum x
  | .vld _ x => s.vmRow c .whole false x
  | .vst _ x => s.vmRow c .whole true x
  | .vlds _ x => s.vmRow c .struct false x
  | .vsts _ x => s.vmRow c .struct true x
  | .vgth _ x => s.vmRow c .gather false x
  | .vsct _ x => s.vmRow c .gather true x
  | .vldbc _ x => s.vmRow c .bcst false x
  | _ => s

/-! ## The checks of a bundle (R220, R229) -/

/-- ILLEGAL of an encoding that no command names; that of a vector memory operation records its base offset (08 R300). -/
def State.rawIllegal (s : State) (c : Nat) (r : RawOp) : FltRec :=
  let op := bitsAt r.w 9 5
  if r.slot < 2 && r.long && 0x18 ≤ op && op ≤ 0x1E then
    ⟨cILLEGAL, some r.slot, some ⟨bitsAt r.w 20 3, some (s.areg c (bitsAt r.w 23 4)), op == 0x19 || op == 0x1B || op == 0x1D⟩, none⟩
  else fltIllegal r.slot

/-- The fault of one operation as it stands in a bundle. -/
def State.rawFault (s : State) (c : CoreId) (r : RawOp) : Option FltRec :=
  match decodeOp c r with
  | none => some (s.rawIllegal c.val r)
  | some i => s.opFault c.val i

/-- The fault of a bundle: a broken one names no operation; else that of the lowest slot. -/
def State.bundleFault (s : State) (c : CoreId) (ops : List RawOp) : Option FltRec :=
  if !bundleOk ops then some ⟨cILLEGAL, none, none, none⟩ else ops.findSome? (fun r => s.rawFault c r)

/-- Operations after which no loop end is checked: a taken transfer (R261), a LOOP with a count of 0 (R262). -/
def State.redirects (s : State) (c : Nat) (i : Instr) : Bool :=
  match i with
  | .br _ x => s.condTrue c x.cond.toNat
  | .bri _ x => s.condTrue c x.cond.toNat
  | .brs _ _ => true
  | .call _ x => s.condTrue c x.cond.toNat
  | .ret _ x => s.condTrue c x.cond.toNat
  | .loop _ x => s.condTrue c x.cond.toNat && s.loopCount c x == 0
  | _ => false

/-- A BRK that halts the core at its bundle (19 R570); one that is ILLEGAL where it stands faults like any other (R229, R257). -/
def State.breaks (s : State) (c : Nat) (i : Instr) : Bool :=
  match i with
  | .brk _ x => s.debugOpen && s.holds4 c x.short x.cond && !(s.core c).brkNop && (s.sysFault c false false x).isNone
  | _ => false

/-! ## The fetch path (07 R264, 09 R310; log entry 49) -/

/-- A bundle at offset o belongs to the body of a loop that is active in the next bundle, and the body lies in at most 4
lines. -/
def State.inLoop (s : State) (c o : Nat) : Bool :=
  let k := takeDue (s.halfWidth c) (s.core c) ((s.core c).t + 1)
  let base := dBase k.code.desc
  (List.range 3).any fun lv =>
    let ls := (tget 0 k.ls lv).toNat
    let le := (tget 0 k.le lv).toNat
    tget 0 k.lc lv != 0 && ls ≤ o && o ≤ le && (base + le + (s.bundleAt c le).size - 1) / 64 < (base + ls) / 64 + 4

/-- A bundle is read from memory ahead of its issue; a bank that is not ON refuses the read (05 R185). -/
def State.readAhead (s : State) (c : Nat) (b : FBundle) : State :=
  let a := dBase (s.core c).code.desc + b.off
  if s.awake (bankOf a) then s.eccRead a b.size else s.denied (bankOf a) c a true

/-- The fetch path after a bundle has issued: the bundles ahead, and a loop body of at most 8 bundles. After a taken
transfer nothing fetched before stays. -/
def State.refillPath (s : State) (c : Nat) (b : FBundle) (n : Nat) (jumped : Bool) : State :=
  let k := s.core c
  let old := if jumped then [] else b :: k.fpath.filter (fun x => x.off != b.off)
  let s1 := s.modCore c fun k => { k with fpath := old }
  let fresh := (s1.fetchAhead c n k.pc.toNat)
  let body := old.filter (fun x => s1.inLoop c x.off && !fresh.any (fun y => y.off == x.off))
  let read := fresh.filter (fun x => !old.any (fun y => y.off == x.off))
  let whole := body.length + (fresh.filter (fun x => s1.inLoop c x.off)).length
  (read.foldl (fun s x => s.readAhead c x) s1).modCore c fun k =>
    { k with fpath := fresh ++ (if whole ≤ 8 then body else []) }

/-! ## Issue -/

/-- Core c can issue its next bundle: it runs a program, or steps (19 R572), and nothing holds it. A halt on its way waits
for a delay slot and for the end of a LOCK sequence alone (19 R569). -/
def canIssue (k : Core) : Bool :=
  !k.resetting && !k.waiting && !stalled k &&
  (match k.haltPend with
   | none => if k.halted then 0 < k.steps else k.prog != .none
   | some q => (q == 0 || q == 3) && (inLock k || (match k.dslot with | some (true, _) => true | _ => false)))

/-- Counted bundle t begins (09 R303, R304): results whose write point has come are in their registers. -/
def State.beginBundle (s : State) (c : Nat) (b : FBundle) : State :=
  let half := s.halfWidth c
  s.modCore c fun k =>
    let t := k.t + 1
    let k1 := takeDue half k t
    { k1 with t := t, reads := [], ownStore := false, bpc := k.pc, npc := k.pc + BitVec.ofNat 32 b.size, ds := k.dslot, dslot := none, annul := false,
              squash := k.annul, brkNop := k.brkSkip, brkSkip := false, steps := k.steps - 1,
              locks := k.locks.filter (fun l => l.taken || t ≤ l.last),
              regTgt := match k.dslot with | some (true, _) => k.regTgt | _ => false }

/-- The pc after a bundle (R256, R261). -/
def State.nextPc (s : State) (c : Nat) (redirect : Bool) : State :=
  s.modCore c fun k =>
    match k.ds with
    | some (true, t) => { k with pc := t }
    | _ =>
      if redirect then { k with pc := k.npc }
      else
        let r := loopEnd k [2, 1, 0]
        { r.1 with pc := r.2.getD k.npc }

/-- A memory operation of an L slot, with the most lines it can reach. -/
def memLines (i : Instr) : Nat :=
  match i with
  | .ldb _ _ | .ldbu _ _ | .ldh _ _ | .ldhu _ _ | .ldw _ _ | .ldd _ _ | .ldwp _ _ | .lddp _ _ | .ldwx _ _ | .ldx _ _
  | .stb _ _ | .sth _ _ | .stw _ _ | .std _ _ | .stwp _ _ | .stdp _ _ | .stwx _ _ | .stx _ _ => 1
  | .vld _ _ | .vst _ _ | .vlds _ _ | .vsts _ _ | .vgth _ _ | .vsct _ _ | .vldbc _ _ => 16
  | .call _ _ | .ret _ _ => 2
  | _ => 0

/-- The counters of a bundle (09 R325): the bundle; at most 7 cycles for each of its two code lines, where it was fetched
from memory; at most 7 cycles of rotation for each line of its data accesses (R313). -/
def State.countBundle (s : State) (c : Nat) (held : Bool) (is : List Instr) : State :=
  ((s.perf c A.perfBundles 1).perfUpTo c A.perfFetch (if held then 0 else 14)).perfUpTo c A.perfRot
    (7 * (is.map memLines).sum)

/-- The offset that the fetch path takes to follow the bundle at E1. -/
def expectedPc (k : Core) : Word :=
  match k.ds with
  | some (true, t) => t
  | _ => (loopEnd k [2, 1, 0]).2.getD k.npc

/-- A bundle that has been fetched reaches E1. -/
def State.reachE1 (s : State) (c : CoreId) (b : FBundle) (ahead : Nat) (held : Bool) : State :=
  let n := c.val
  let s1 := s.beginBundle n b
  let ops := rawOps 8 b.parcels
  let is := ops.filterMap (fun r => decodeOp c r)
  let k := s1.core n
  let jumped := match k.ds with | some (true, _) => true | _ => false
  if k.squash then ((s1.countBundle n held []).nextPc n false).refillPath n b ahead jumped
  else if bundleOk ops && is.any (fun i => s1.breaks n i) then
    s.modCore n fun k => { k with haltPend := some 1, squash := true }
  else
    let s2 := (s1.countBundle n held is).lookupEarly c (s1.fetchAhead n 1 (expectedPc k).toNat)
    match s1.bundleFault c ops with
    | some f => s2.opFaulted n f
    | none =>
      let s3 := s2.modCore n fun k => { k with ownStore := is.any (fun i => s1.storesLate n i) }
      (s3.nextPc n (is.any (fun i => s1.redirects n i))).refillPath n b ahead jumped

/-- A fault of the fetch at the pc: of a delay slot it names the target (R230); of any other bundle the pc stands for the next
one too (R255). -/
def State.fetchFault (s : State) (c cause : Nat) (code : Bool) : State :=
  let k := s.core c
  let s1 := s.modCore c fun k => { k with ds := k.dslot, dslot := none, annul := false, bpc := k.pc, regTgt := false }
  s1.coreFault c ⟨cause, none, none, none⟩ k.pc (match k.dslot with | some x => x.2 | none => k.pc) k.dslot.isSome code

/-- Accesses for which a core stalls are presented again in every cycle: where nothing holds them any more they are made. -/
def State.presentAgain (s : State) (c : Nat) : State :=
  if (s.core c).jobs.isEmpty && (s.core c).drain == .none then s else ((s.retryLoads c).endDrain c).settle c

/-- BUNDLE_ISSUE (R220, R302): the bundle at the pc. `ahead` is how many bundles the fetch path then holds. DESIGN CHOICE (log
entry 121): a target that is both misaligned and beyond the code segment faults with ALIGN. A fetch from a bank that a LOCK
or a stripe holds waits, with its cycles in `PERF_WAIT` (09 R325). -/
def State.issue (s : State) (c : CoreId) (ahead : Nat) : State :=
  let n := c.val
  let k := s.core n
  if !s.islandUp (n / 8) then s
  else if !canIssue k then s.presentAgain n
  else if k.regTgt && k.dslot.isNone && k.pc.toNat % 4 != 0 then s.fetchFault n cALIGN false
  else
    let b := s.bundleAt n k.pc.toNat
    let a := dBase k.code.desc + k.pc.toNat
    let held := (s.heldBundle n k.pc.toNat).isSome
    if !held && dV k.code.desc && s.coreWaits n a then s.perfStall n A.perfWait
    else if !s.inCode n b then s.fetchFault n cFETCH true
    else
      let s1 := if held then s else if s.awake (bankOf a) then s.eccRead a b.size else s.denied (bankOf a) n a true
      if b.ue then s1.fetchFault n cFETCHECC true else s1.reachE1 c b ahead held

def bundleIssue (c : CoreId) (ahead : Fin 9) (s : State) : State := s.issue c ahead.val

/-! ## The commands -/

/-- BUNDLE_ISSUE (06 R220). -/
def execBundleIssue (c : CoreId) (ahead : Fin 9) (s : State) : Host.Outcome State Fault Refusal := finish s (bundleIssue c ahead s)

end Sys2Proof.Machine
end

