-- ==== Sys2Proof/Machine/RegFile.lean ====
section
/-! DEFINITION. Reads and writes of control registers by every path (00 R12-R14, 01 R28-R32, 13 R428-R430): who reaches what,
what a read returns, what a write does; a core's loads and stores of registers (09 R318, R319). -/

namespace Sys2Proof.Machine

/-! ## Who reaches what (01 R29-R31, 13 R428) -/

/-- Control offsets that are reserved in R29. -/
def ctlReserved (off : Nat) : Bool := (0xB00000 ≤ off && off < 0xC00000) || (0x2000000 ≤ off && off < 0x4000000)

/-- PF1's BAR0 page, numbered from 0x1_0000_0000. -/
def pf1Page : Nat := 0x100000000

/-- Offsets of PF1's BAR0 page that R428 and 19 R562 list. -/
def pf1Listed (o : Nat) : Bool :=
  o < 0x10 || (0x1000 ≤ o && o < 0x1014) || (0x2000 ≤ o && o < 0x6000) || (0x8000 ≤ o && o < 0x9020)

/-- A core's own bench page, and its own claim block (R30). -/
def coreReach (c off : Nat) : Bool :=
  (0x800000 + c / 8 * 0x40000 ≤ off && off < 0x840000 + c / 8 * 0x40000) ||
  (A.evtClaim c ≤ off && off < A.evtClaim c + 0x40)

/-- The requester reaches the offset (R30). -/
def State.reaches (s : State) (who off : Nat) : Bool :=
  if who < 96 then coreReach who off
  else if who = 140 then off < (pciFn 0).bar0 && !ctlReserved off
  else if who = 141 || who = 144 then s.mainReach who && off < 0x100000000 && !ctlReserved off
  else if who = 143 then
    (0x1000000 ≤ off && off < 0x2000000) || (pf1Page ≤ off && pf1Listed (off - pf1Page))
  else false

/-! ## What a read returns -/

/-- The completions, write-backs and records that a function holds (13 R432). -/
def State.fnHolds (s : State) (f : Nat) : Bool :=
  s.cmds.done.any (fun d => s.fromFn f d.origin && (d.held || (s.fn f).d3)) || ((s.fn f).d3 && s.recFor f) ||
  (s.queuesOf f).any (fun q => (s.qst q).wbs != [])

/-- HOST_STAT (13 R432). -/
def State.hostStatValue (s : State) (f : Nat) : Word :=
  BitVec.ofNat 32 (s.fld (hostStat f) 0 9 + (if (s.fn f).d3 then 3 * 2 ^ 9 else 0) + b2n (s.fnHolds f) * 2 ^ 11)

/-- Word k of a proposal slot (16 R525), by its offset in the slot. -/
def State.protSlot (s : State) (i o : Nat) : Word :=
  match tget none s.prot.slots i with
  | none => 0
  | some x =>
    match o with
    | 0x00 => x.pid
    | 0x04 => BitVec.ofNat 32 (x.kind.toNat + x.dom * 2 ^ 8 + x.state.toNat * 2 ^ 10)
    | 0x08 => BitVec.ofNat 32 (x.first + x.count * 2 ^ 16)
    | 0x10 => x.grain.setWidth 32
    | 0x14 => (x.grain >>> 32).setWidth 32
    | 0x18 => BitVec.ofNat 32 x.wend
    | 0x20 => x.digest.setWidth 32
    | 0x24 => (x.digest >>> 32).setWidth 32
    | _ => 0

/-- PROT_STAT (16 R525). -/
def State.protStatValue (s : State) : Word :=
  BitVec.ofNat 32 ((s.prot.slots.filter (fun e => e.2.isSome)).length + b2n s.unlockWaits.isSome * 2 ^ 5)

/-- SPALL_STAT: RUN, BORROW, and the bank and stripe of the last borrow (20 R592). -/
def State.spallStatValue (s : State) : Word :=
  BitVec.ofNat 32 (b2n s.spallRuns + b2n s.spall.borrow.isSome * 2 + s.fld A.spallStat 2 16 * 4)

/-- DBG_HALT, word k (19 R577). -/
def State.dbgHaltValue (s : State) (k : Nat) : Word :=
  BitVec.ofNat 32 ((List.range 32).foldr (fun i x => b2n (s.core (32 * k + i)).halted + 2 * x) 0)

/-- RD_STAT: FERR is the environment's measurement, a free value while the domain runs (02 R49, log entry 52). -/
def State.rdStatValue (s : State) (d : Nat) : Word :=
  if s.domRuns d then s.rawReg (A.rdStat d) &&& 0x1F ||| Config.freeWord s.fresh &&& 0xFFFF0000 else s.rawReg (A.rdStat d) &&& 0x1F

/-- The registers of a bench page whose value is computed, by the offset in the page; the others as stored. -/
def State.benchPageValue (s : State) (b o : Nat) : Word :=
  let off := 0x800000 + b * 0x40000 + o
  let v := s.plainRead off
  if o < 0x20000 then
    let c := 8 * b + o / 0x4000
    if o % 0x4000 = 0x004 then BitVec.ofNat 32 (s.coreState c)
    else if o % 0x4000 = 0x214 then fput v 0 1 (b2n ((s.core c).prog == .grain))
    else v
  else if o = 0x38018 then fput v 4 3 (s.benchState b)
  else v

/-- The event controller's registers whose value is computed. -/
def State.evtValue (s : State) (off : Nat) : Word :=
  let o := off - 0x100000
  if o < 0x1800 then (if o % 0x40 = 0 then s.claimPeek (o / 0x40) else s.plainRead off)
  else if o = 0x2000 then BitVec.ofNat 32 s.hwait
  else if 0x2300 ≤ o ∧ o < 0x2380 then s.evtBits ((o - 0x2300) / 4) (fun c => c == csPending || c == csActivePending)
  else if 0x2400 ≤ o ∧ o < 0x2480 then s.evtBits ((o - 0x2400) / 4) (fun c => c == csActive || c == csActivePending)
  else if 0x8000 ≤ o ∧ o < 0x10000 ∧ o % 0x20 = 0x14 then s.sstat ((o - 0x8000) / 0x20)
  else s.plainRead off

/-- The system block's registers whose value is computed. -/
def State.sysValue (s : State) (off : Nat) : Word :=
  if 0x1000 ≤ off ∧ off < 0x1400 then
    let d := (off - 0x1000) / 0x100
    if off = A.rdStat d then s.rdStatValue d
    else if off = A.rdGcntLo d then (s.gcntRead d).2
    else if off = A.rdBtimeLo d then (s.btimeRead d).2
    else s.plainRead off
  else if 0x4000 ≤ off ∧ off < 0x4400 ∧ off % 0x100 = 8 then (s.ueaddrRead ((off - 0x4000) / 0x100)).2
  else if off = A.hostStat0 then s.hostStatValue 0
  else s.plainRead off

/-- The value a read of a control offset returns, without any side effect (R13, R14, 19 R575). -/
def State.regValue (s : State) (off : Nat) : Word :=
  if off < 0x100000 then s.sysValue off
  else if off < 0x200000 then s.evtValue off
  else if off = A.protStat then s.protStatValue
  else if A.protPid 0 ≤ off ∧ off < A.protPid 16 then s.protSlot ((off - A.protPid 0) / 0x40) ((off - A.protPid 0) % 0x40)
  else if off = A.netUtimeLo then s.utimeRead.2
  else if 0x700000 ≤ off ∧ off < 0x800000 then
    let k := (off - 0x700000) / 0x8000
    if off = A.dmaErraddrLo k then (s.erraddrRead k).2
    else if off = A.dmaStat k then fput (s.plainRead off) 20 7 (s.seqr k).txs.length
    else s.plainRead off
  else if 0x800000 ≤ off ∧ off < 0xB00000 then s.benchPageValue ((off - 0x800000) / 0x40000) ((off - 0x800000) % 0x40000)
  else if off = A.spallStat then s.spallStatValue
  else if off = A.spallProgress then BitVec.ofNat 32 ((s.dom (s.fld A.spallCtl 1 2)).cnt.toNat % periodGrains)
  else if A.dbgHalt 0 ≤ off ∧ off ≤ A.dbgHalt 2 ∧ off % 4 = 0 then s.dbgHaltValue ((off - A.dbgHalt 0) / 4)
  else if 0x1000000 ≤ off ∧ off < 0x2000000 ∧ off % 0x100 = 0x28 then
    let q := (off - 0x1000000) / 0x100
    fput (fput (s.plainRead off) 0 2 (s.qState q)) 2 1 (b2n ((s.qType q == 1 || s.qType q == 2) && s.qState q != 0 && s.qFull q))
  else if off = A.hostStat1 then s.hostStatValue 1
  else s.plainRead off

/-- A read of a register with its RC and RS effects (R12). -/
def State.regRead (s : State) (off : Nat) : State × Word :=
  let v := s.regValue off
  let d := (off - 0x1000) / 0x100
  let t :=
    if 0x1000 ≤ off ∧ off < 0x1400 then
      if off = A.rdGcntLo d then (s.gcntRead d).1
      else if off = A.rdBtimeLo d then (s.btimeRead d).1
      else if off = A.rdStat d then s.stir
      else s
    else if 0x4000 ≤ off ∧ off < 0x4400 ∧ off % 0x100 = 8 then (s.ueaddrRead ((off - 0x4000) / 0x100)).1
    else if 0x100000 ≤ off ∧ off < 0x101800 ∧ off % 0x40 = 0 then (s.claim ((off - 0x100000) / 0x40)).1
    else if off = A.netUtimeLo then s.utimeRead.1
    else if 0x700000 ≤ off ∧ off < 0x800000 ∧ off % 0x8000 = 8 then (s.erraddrRead ((off - 0x700000) / 0x8000)).1
    else s.readClear off
  (t, v)

/-! ## What a write does -/

/-- A write by the access codes, in which a value that `bad` names leaves field [lo + w - 1 : lo] unchanged. -/
def State.fieldWrite (s : State) (off : Nat) (v : Word) (lo w : Nat) (bad : Nat → Bool) : State :=
  if bad (fget v lo w) then s.plainWrite off (fput v lo w (s.fld off lo w)) else s.plainWrite off v

/-- A write in the system block, below 0x0010_0000. -/
def State.sysWrite (s : State) (off : Nat) (v : Word) : State :=
  if 0x1000 ≤ off ∧ off < 0x1400 then
    let d := (off - 0x1000) / 0x100
    if off = A.rdCtl d then s.rdCtlWrite d v else s.plainWrite off v
  else if off = A.sysPwr then sysPwrWrite v s
  else if off = A.ufFirst then
    if fget v 6 1 = 1 then (s.setReg A.ufFirst 0).setReg A.ufFirstt 0 else s
  else if off = A.ufTwarn then s.fieldWrite off v 0 8 (fun x => x < 60 || 104 < x)
  else if off = A.hostIfrst0 then s.ifrstWrite 0 v
  else if off = A.hostFmap then s.fieldWrite off v 0 8 (fun x => 191 < x)
  else if 0x90000 ≤ off ∧ off < 0x97000 ∧ off % 0x10 = 0xC then s.msixCtlWrite 0 ((off - 0x90000) / 0x10) v
  else s.plainWrite off v

/-- A write in the event controller. -/
def State.evtWrite (s : State) (off : Nat) (v : Word) : State :=
  let o := off - 0x100000
  if h : o < 0x1800 ∧ o % 0x40 = 4 then evtDoneWrite ⟨o / 0x40, by omega⟩ v s
  else if h : 0x2300 ≤ o ∧ o < 0x2380 ∧ o % 4 = 0 then evtPendWrite ⟨(o - 0x2300) / 4, by omega⟩ v s
  else if h : 0x2200 ≤ o ∧ o < 0x2210 ∧ o % 4 = 0 then evtGdisWrite ⟨(o - 0x2200) / 4, by omega⟩ v s
  else s.plainWrite off v

/-- A write of a page word of a network or chain stream table (11 R368, 12 R402). -/
def State.strmPageWrite (s : State) (off : Nat) (v : Word) : State :=
  if off < 0x600000 then
    let o := off - 0x520000
    let p := o % 0x8000 / 0x4000
    s.pagedWrite off v (p == s.net.page) (s.bit A.netStat 2) A.netStat 0 1 5 (o / 0x8000 * 1024 + p * 512 + o % 0x4000 / 32)
  else
    let o := off - 0x602000
    let p := o % 0x800 / 0x400
    s.pagedWrite off v (p == s.chain.page) (s.bit A.chStat 14) A.chStat 12 13 5 (2048 + o / 0x800 * 128 + p * 64 + o % 0x400 / 16)

/-- A write in the fabric block and the port groups, 0x0030_0000 to 0x004F_FFFF. -/
def State.tapWrite (s : State) (off : Nat) (v : Word) : State :=
  if h : 0x380000 ≤ off ∧ off < 0x400000 ∧ off % 4 = 0 then
    routePageWrite ⟨(off - 0x380000) / 0x40000, by omega⟩ ⟨(off - 0x380000) % 0x40000 / 4, by omega⟩ v s
  else if off < 0x400000 then s.plainWrite off v
  else
    let g := (off - 0x400000) / 0x10000
    let o := off % 0x10000
    if 0x100 ≤ o ∧ o < 0x180 ∧ o % 0x10 = 0 then s.cgCtlWrite (8 * g + (o - 0x100) / 0x10) v
    else if 0x4000 ≤ o ∧ o < 0x9000 ∧ o % 4 = 0 then s.slotmapWrite g 0 ((o - 0x4000) / 4) v
    else if 0xA000 ≤ o ∧ o < 0xF000 ∧ o % 4 = 0 then s.slotmapWrite g 1 ((o - 0xA000) / 4) v
    else s.plainWrite off v

/-- A write in the network, chain and twin blocks, 0x0050_0000 to 0x006F_FFFF. -/
def State.linkWrite (s : State) (off : Nat) (v : Word) : State :=
  if off = A.netCtl then s.netCtlWrite v
  else if 0x501000 ≤ off ∧ off < 0x509000 then
    let e := (off - 0x501000) / 0x1000
    let o := off % 0x1000
    if o = 0 then s.pctlWrite e v
    else if 0x40 ≤ o ∧ o < 0x60 ∧ o % 4 = 0 then s.cbsWrite e ((o - 0x40) / 4) v
    else if o = 0x100 then s.gclWrite e v
    else if 0x800 ≤ o ∧ o < 0xC00 ∧ o % 4 = 0 then s.gateWrite e ((o - 0x800) / 4) v
    else s.plainWrite off v
  else if (0x520000 ≤ off ∧ off < 0x530000 ∨ 0x602000 ≤ off ∧ off < 0x603000) ∧ off % 4 = 0 then s.strmPageWrite off v
  else if off = A.chCtl then s.chCtlWrite v
  else if off = A.twCfg then (if s.twState == twSolo || s.twState == twFenced then s.plainWrite off v else s)
  else s.plainWrite off v

/-- A write of a DMA sequencer's page (10 R341). -/
def State.dmaPageWrite (s : State) (off : Nat) (v : Word) : State :=
  let k := (off - 0x700000) / 0x8000
  let o := off % 0x8000
  if o = 0 then s.dmaCtlWrite k v
  else if (0x100 ≤ o ∧ o < 0x140 ∨ 0x4000 ≤ o ∧ o < 0x4800) ∧ o % 4 = 0 then s.dmaStoreWrite k off v
  else s.plainWrite off v

/-- A write of BENCH_CTL (06 R207): DOM is left, and DOMREF set, while a core has GEN = 1 in effect or the engine is enabled. -/
def State.benchCtlWrite (s : State) (b : Nat) (v : Word) : State :=
  if (List.range 8).any (fun i => bitAt (s.core (8 * b + i)).gctl.toNat 0) || s.fthEn b (s.fthPage b) then
    s.setFld (A.benchStat b) 0 1 1
  else s.plainWrite (A.benchCtl b) v

/-- A write of FLT_STAT (06 R233): clearing VALID clears the record's fields in it. -/
def State.fltStatWrite (s : State) (off : Nat) (v : Word) : State :=
  let s1 := s.plainWrite off v
  if fget v 0 1 = 1 then s1.setReg off (s1.rawReg off &&& 2) else s1

/-- A write of PERF_CTL (09 R325): CLR clears every counter. -/
def State.perfCtlWrite (s : State) (c : Nat) (v : Word) : State :=
  let s1 := s.plainWrite (coreReg A.perfCtl c) v
  if fget v 2 1 = 1 then s1.perfClear c (perfRegs ++ [A.perfGend, A.perfGendmax]) else s1

/-- A write in a bench page by a requester. -/
def State.benchPageWrite (s : State) (who off : Nat) (v : Word) : State :=
  let b := (off - 0x800000) / 0x40000
  let o := (off - 0x800000) % 0x40000
  if o < 0x20000 then
    let c := 8 * b + o / 0x4000
    match o % 0x4000 with
    | 0x000 => s.fieldWrite off v 5 2 (fun x => x == 3)
    | 0x100 => s.fltStatWrite off v
    | 0x800 => s.perfCtlWrite c v
    | _ => s.plainWrite off v
  else if h : b < 12 ∧ who < 145 then
    if ho : 0x20000 ≤ o ∧ o < 0x20080 ∧ o % 4 = 0 then
      bankOwnWrite ⟨32 * b + (o - 0x20000) / 4, by omega⟩ ⟨who, h.2⟩ v s
    else if hp : 0x20080 ≤ o ∧ o < 0x20100 ∧ o % 4 = 0 then
      bankPwrWrite ⟨32 * b + (o - 0x20080) / 4, by omega⟩ ⟨who, h.2⟩ v s
    else if 0x30000 ≤ o ∧ o < 0x35000 then
      (if (fthPaged (o - 0x30000)).isSome then s.fthWriteReg b (o - 0x30000) v else s.plainWrite off v)
    else if o = 0x38000 then s.benchCtlWrite b v
    else if o = 0x38010 then benchClkWrite ⟨b, h.1⟩ v s
    else if o = 0x38018 then benchPwrWrite ⟨b, h.1⟩ v s
    else if o = 0x3801C then (if fget v 0 1 = 1 then benchRst ⟨b, h.1⟩ s else s)
    else if o = 0x39000 then (if fget v 0 1 = 1 then fwcInv ⟨b, h.1⟩ s else s)
    else s.plainWrite off v
  else s

/-- A write in the spall and debug blocks. -/
def State.testWrite (s : State) (off : Nat) (v : Word) : State :=
  if off = A.spallCtl then s.spallCtlWrite v
  else if off = A.dbgCtl then (if s.debugOpen then s.plainWrite off v else s)
  else if off = A.mspCfg then s.fieldWrite off v 0 3 (fun x => 4 < x)
  else s.plainWrite off v

/-- A write of PF1's own page (13 R428, 19 R562). -/
def State.pf1Write (s : State) (off : Nat) (v : Word) : State :=
  let o := off - pf1Page
  if off = A.hostIfrst1 then s.ifrstWrite 1 v
  else if off = A.mbxCtl then mbxGo v s
  else if 0x2000 ≤ o ∧ o < 0x4000 then (if s.bit A.mbxStat 0 then s else s.plainWrite off v)
  else if 0x8000 ≤ o ∧ o < 0x9000 ∧ o % 0x10 = 0xC then s.msixCtlWrite 1 ((o - 0x8000) / 0x10) v
  else s.plainWrite off v

/-- The function whose path a requester writes queue descriptors by: PF0, PF1, or neither. -/
def fnOf (who : Nat) : Nat := if who = 140 then 0 else if who = 143 then 1 else 2

/-- A write of a register by a requester that reaches it. -/
def State.regWrite (s : State) (who off : Nat) (v : Word) : State :=
  if off < 0x100000 then s.sysWrite off v
  else if off < 0x200000 then s.evtWrite off v
  else if off < 0x300000 then
    (if off = A.protCwin then s.fieldWrite off v 0 22 (fun x => x < 1000 || 2000000 < x) else s.plainWrite off v)
  else if off < 0x500000 then s.tapWrite off v
  else if off < 0x700000 then s.linkWrite off v
  else if off < 0x800000 then s.dmaPageWrite off v
  else if off < 0xB00000 then s.benchPageWrite who off v
  else if off < 0x1000000 then s.testWrite off v
  else if off < 0x2000000 then
    let q := (off - 0x1000000) / 0x100
    if (regOf off).isSome then (s.qWrite (fnOf who) q off v).1 else s
  else if pf1Page ≤ off then s.pf1Write off v
  else s

/-- Any write of a function's BAR0 but one of its HOST_IFRST ends the reset sequence begun there (13 R453). -/
def State.keyBreak (s : State) (who off : Nat) : State :=
  let f := fnOf who
  if f < 2 ∧ off ≠ hostIfrst f then s.setFn f { s.fn f with key := false } else s

/-- A read by a requester: 0 and ADDRESS_MAP where it does not reach the register (R31). -/
def State.readReg (s : State) (who off : Nat) : State × Word :=
  if s.reaches who off then s.regRead off else (s.addressMap who (ctlBase + off), 0)

/-- A write by a requester: none, and ADDRESS_MAP, where it does not reach the register. -/
def State.writeReg (s : State) (who off : Nat) (v : Word) : State :=
  let s1 := s.keyBreak who off
  if s1.reaches who off then s1.regWrite who off v else s1.addressMap who (ctlBase + off)

/-! ## Commands -/

/-- An access of a size or alignment that R430 does not allow is one that R31 forbids. -/
def State.readBad (s : State) (who off : Nat) : State × Word := (s.addressMap who (ctlBase + off), 0)
def State.writeBad (s : State) (who off : Nat) : State := (s.keyBreak who off).addressMap who (ctlBase + off)

/-- REGISTER_WRITE (R12, 13 R430): 8 bytes are two accesses in increasing address order. -/
def registerWrite (off : BitVec 33) (who : Requester) (d : RegData) (s : State) : State :=
  let o := off.toNat
  match d with
  | .word v => if o % 4 = 0 then s.writeReg who.val o v else s.writeBad who.val o
  | .pair v =>
    if o % 8 = 0 then (s.writeReg who.val o (v.setWidth 32)).writeReg who.val (o + 4) ((v >>> 32).setWidth 32)
    else s.writeBad who.val o
  | .other => s.writeBad who.val o

/-- The data of a read goes back to its requester. -/
def dataBack (who : Nat) (r : State × Word) : State := r.1.emit (.readData who r.2)

/-- COUNTER_READ_CLEAR (R12, 13 R430): a read of registers. -/
def counterReadClear (off : BitVec 33) (who : Requester) (n : RegSize) (s : State) : State :=
  let o := off.toNat
  match n with
  | .word => dataBack who.val (if o % 4 = 0 then s.readReg who.val o else s.readBad who.val o)
  | .pair =>
    if o % 8 = 0 then dataBack who.val ((dataBack who.val (s.readReg who.val o)).readReg who.val (o + 4))
    else dataBack who.val (s.readBad who.val o)
  | .other => dataBack who.val (s.readBad who.val o)

/-- The control offset of a global address. -/
def ctlOff (a : Nat) : Nat := a - ctlBase

/-- An entry of core c's store buffer is written to a control register. -/
def State.putCtl (s : State) (c : Nat) (ps : List StPart) : State :=
  ps.foldl (fun s p => s.writeReg c (ctlOff p.addr) (p.data.setWidth 32)) s

/-- STORE_BUFFER_WRITE (09 R319): the head entry is presented and written. It waits for a borrowed stripe and for another
core's LOCK sequence; its stores enter the tally digest (12 R412). -/
def storeBufferWrite (c : CoreId) (s : State) : State :=
  let c := c.val
  let s := s.flushStores
  match (s.core c).sb with
  | [] => s
  | e :: rest =>
    if !s.islandUp (c / 8) || (!e.ctl && e.parts.any (fun p => regionOf c p.addr == .own && s.coreWaits c p.addr)) then s
    else
      let s1 := s.modCore c fun k => digestEntry { k with sb := rest } e
      (if e.ctl then s1.putCtl c e.parts else s1.storeOut c e).drained c

/-- The first element of a load that is to read a control register. -/
def ctlElem (j : LoadJob) : Option Elem := j.elems.find? (fun x => x.data.isNone && inCtl x.addr)

/-- CONTROL_LOAD_RETURN (09 R318): the stores before the load have been written; the register is read, once. -/
def controlLoadReturn (c : CoreId) (s : State) : State :=
  let c := c.val
  if !s.islandUp (c / 8) then s
  else s.onJob c (fun j => (ctlElem j).isSome && !((s.core c).sb ++ (s.core c).sbWait).any (fun e => e.bundle < j.bundle)) fun s j =>
    match ctlElem j with
    | none => (s, j)
    | some x =>
      let r := (s.perfStall c A.perfCtlreg).readReg c (ctlOff x.addr)
      (r.1, { j with elems := j.elems.map (fun y => if y = x then y.got (r.2.setWidth 64) else y) })

/-- REGISTER_WRITE (00 R12). -/
def execRegisterWrite (off : BitVec 33) (who : Requester) (d : RegData) (s : State) : Host.Outcome State Fault Refusal :=
  finish s (registerWrite off who d s)
/-- COUNTER_READ_CLEAR (00 R12). -/
def execCounterReadClear (off : BitVec 33) (who : Requester) (n : RegSize) (s : State) : Host.Outcome State Fault Refusal :=
  finish s (counterReadClear off who n s)
/-- STORE_BUFFER_WRITE (09 R319). -/
def execStoreBufferWrite (c : CoreId) (s : State) : Host.Outcome State Fault Refusal := finish s (storeBufferWrite c s)
/-- CONTROL_LOAD_RETURN (09 R318). -/
def execControlLoadReturn (c : CoreId) (s : State) : Host.Outcome State Fault Refusal := finish s (controlLoadReturn c s)

end Sys2Proof.Machine
end

