-- ==== Sys2Proof/Machine/Monitor.lean ====
section
/-! DEFINITION. The resident monitor (19 R563-R577): memory access by the debug bus master, halts, RESUME, STEP, FEED, the
registers of a halted core, and the end of the erase. -/

namespace Sys2Proof.Machine

/-! ## Memory access (R574, R575) -/

/-- The debug bus master. -/
def dbgWho : Nat := 144

/-- A word of an access of the debug bus master waits for a borrowed stripe (20 R585), a locked bank, or a far-memory island that
has no clock. -/
def State.dbgWaits (s : State) (addr n : Nat) : Bool :=
  (List.range n).any (fun i => s.borrowed (addr + 4 * i) || (inFar (addr + 4 * i) && !s.islandUp 32))

/-- One word read. `busy`: port A writes the word in the same cycle (05 R167). -/
def State.dbgRead (s : State) (a : Nat) (live busy : Bool) : State × Word :=
  if inBanks a then
    let r := s.portReadMet dbgWho a 4 busy
    (r.1, BitVec.ofNat 32 (r.2.getD 0))
  else if inFar a then
    let r := s.farRead dbgWho a 4
    (r.1, BitVec.ofNat 32 r.2)
  else if inCtl a && s.reaches dbgWho (ctlOff a) then
    if live then s.regRead (ctlOff a) else (s, s.regValue (ctlOff a))
  else (s.addressMap dbgWho a, 0)

/-- One word written. `busy`: it meets port A accesses to the word. -/
def State.dbgWrite (s : State) (a : Nat) (v : Word) (busy : Bool) : State :=
  if inBanks a then (s.portWriteMet dbgWho a (bytesOf v.toNat 4) busy).1
  else if inFar a then s.farWrite dbgWho a (bytesOf v.toNat 4)
  else if inCtl a && s.reaches dbgWho (ctlOff a) then s.regWrite dbgWho (ctlOff a) v
  else s.addressMap dbgWho a

/-- Words in increasing address order. -/
def State.dbgReads (s : State) (a n : Nat) (live : Bool) (busy : List Nat) : State × List Word :=
  (List.range n).foldl (init := (s, [])) fun x i =>
    let r := x.1.dbgRead (a + 4 * i) live (busy.contains i)
    (r.1, x.2 ++ [r.2])

/-- The first bytes of a request (R563). -/
def monHead (op : Nat) (tag : Byte) : List Byte := [BitVec.ofNat 8 op, tag, 0, 0]

/-- A request is answered in its turn (R563, R565): what it needs, then its arguments, then its effect, which may have to wait. -/
def State.monDo (s : State) (ch : MonChan) (req : List Byte) (argOk wait : Bool) (f : State → State) : State :=
  let op := req.getD 0 0
  if !s.monTurn ch req then s
  else
    match s.monNeeds ch op.toNat with
    | some e => (s.monTake ch).monReply ch op (req.getD 1 0) e false []
    | none =>
      if !argOk then (s.monTake ch).monReply ch op (req.getD 1 0) mBADARG false []
      else if wait then s
      else f (s.monTake ch)

/-- ADDR and COUNT of R563. -/
def addrOk (addr n : Nat) : Bool := addr % 4 == 0 && 1 ≤ n && n ≤ 1024

/-- A word of an access to banks met BUSY, which the reply reports (R574, 05 R170). -/
def metBusy (addr count : Nat) (busy : List Nat) : Bool := busy.any (fun i => i < count && inBanks (addr + 4 * i))

/-- The bytes of a READ and of a WRITE. -/
def reqRead (tag : Byte) (addr : BitVec 48) (count : BitVec 16) (live : Bool) : List Byte :=
  monHead 1 tag ++ bytesOf addr.toNat 6 ++ bytesOf count.toNat 2 ++ bytesOf (b2n live) 1
def reqWrite (tag : Byte) (addr : BitVec 48) (count : BitVec 16) (ws : List Word) : List Byte :=
  monHead 2 tag ++ bytesOf addr.toNat 6 ++ bytesOf count.toNat 2 ++ bytesOf 0 4 ++ ws.flatMap (fun w => bytesOf w.toNat 4)

/-- READ (R563, R574, R575). -/
def monRead (ch : MonChan) (tag : Byte) (addr : BitVec 48) (count : BitVec 16) (live : Bool) (busy : List Nat) (s : State) : State :=
  let a := addr.toNat
  let n := count.toNat
  s.monDo ch (reqRead tag addr count live) (addrOk a n) (s.dbgWaits a n) fun s =>
    let r := s.dbgReads a n live busy
    r.1.monReply ch 1 tag mOK (metBusy a n busy) r.2

/-- WRITE (R563, R574); `ws` are the words that the request holds. -/
def monWrite (ch : MonChan) (tag : Byte) (addr : BitVec 48) (count : BitVec 16) (ws : List Word) (busy : List Nat) (s : State) : State :=
  let a := addr.toNat
  let n := count.toNat
  if ws.length ≠ n then s
  else
    s.monDo ch (reqWrite tag addr count ws) (addrOk a n) (s.dbgWaits a n) fun s =>
      (ws.zipIdx.foldl (fun s x => s.dbgWrite (a + 4 * x.2) x.1 (busy.contains x.2)) s).monReply ch 2 tag mOK (metBusy a n busy) []

/-! ## Halts (R569-R573) -/

/-- The bytes of a request on a core: `rest` from byte 5 on. -/
def reqCore (op : Nat) (tag core : Byte) (rest : List Byte) : List Byte := monHead op tag ++ core :: rest

/-- A request on a core; `halted`: it needs a halted one. -/
def State.monCore (s : State) (ch : MonChan) (op : Nat) (tag core : Byte) (rest : List Byte) (halted argOk : Bool)
    (f : State → Nat → State) : State :=
  s.monDo ch (reqCore op tag core rest) (core.toNat < 96 && argOk) false fun s =>
    if halted && !(s.core core.toNat).halted then s.monReply ch (BitVec.ofNat 8 op) tag mNOTHALTED false []
    else f s core.toNat

/-- The delay slot of a taken transfer comes next. -/
def slotOwed (k : Core) : Bool := match k.dslot with | some (true, _) => true | _ => false

/-- Nothing of the core's bundles is under way: its store buffer is empty, and it is in no whole-core stall. -/
def settled (k : Core) : Bool := !stalled k && k.sb.isEmpty

/-- The request that waits for core c is answered. -/
def State.answerMon (s : State) (c mstat : Nat) (data : List Word) : State :=
  match (s.core c).mon with
  | none => s
  | some m => (s.modCore c fun k => { k with mon := none }).monReply m.ch m.op m.tag mstat false data

/-- The core halts (R569): results in flight are written, the reservation is cleared, source 1017 names the cause; HALT and
STEP are answered with the pc. -/
def State.takeHalt (s : State) (c : Nat) (q : BitVec 2) : State :=
  let s1 := (s.flush c).modCore c fun k =>
    { k with halted := true, haltPend := none, res := none, steps := 0, brkSkip := q == 1, fpath := [] }
  let s2 := s1.raise 1017 c q.toNat
  match (s.core c).mon with
  | some m => if m.fault then s2.answerMon c mFAULT [] else s2.answerMon c mOK (if m.op = 6 then [] else [(s.core c).pc])
  | none => s2

/-- CORE_HALTED (R569): core c reaches its halt point, or a stepped or fed bundle of a halted core has come to its end. -/
def coreHalted (c : CoreId) (s : State) : State :=
  let c := c.val
  let k := s.core c
  if k.resetting || !settled k then s
  else
    match k.haltPend, k.mon with
    | some q, _ => if inLock k || slotOwed k then s else s.takeHalt c q
    | none, some m =>
      if !k.halted then s
      else if m.fault then s.answerMon c mFAULT []
      else if m.op = 6 then (s.flush c).answerMon c mOK []
      else if 0 < k.steps then s
      else if inLock k || slotOwed k then s.modCore c fun k => { k with haltPend := some 3 }
      else s.takeHalt c 3
    | none, none => s

/-- HALT: of a core that is halted already, it is answered at once. -/
def monHalt (ch : MonChan) (tag core : Byte) (s : State) : State :=
  s.monCore ch 3 tag core [] false true fun s c =>
    if (s.core c).halted then s.monReply ch 3 tag mOK false [(s.core c).pc]
    else s.modCore c fun k => { k with haltPend := some (k.haltPend.getD 0), mon := some ⟨ch, 3, tag, false⟩ }

/-- RESUME (R570, R571): the program goes on without a deadline. -/
def monResume (ch : MonChan) (tag core : Byte) (s : State) : State :=
  s.monCore ch 4 tag core [] true true fun s c =>
    let t := s.modCore c fun k => { k with halted := false, fpath := [], noDl := k.noDl || k.prog != .none }
    (s.thawFrom t).monReply ch 4 tag mOK false []

/-- STEP (R572): N bundles issue as the BUNDLE_ISSUE commands that follow. -/
def monStep (ch : MonChan) (tag core : Byte) (n : BitVec 16) (s : State) : State :=
  s.monCore ch 5 tag core (0 :: bytesOf n.toNat 2) true (n != 0) fun s c =>
    s.modCore c fun k => { k with steps := n.toNat, fpath := [], mon := some ⟨ch, 5, tag, false⟩ }

/-- An operation of the B slot that may not be fed. -/
def badFeed (c : CoreId) (r : RawOp) : Bool :=
  r.slot == 6 && (match decodeOp c r with | some (.nop _ _) => false | _ => true)

/-- A fed bundle issues once at the halted pc (R572): its operations, or its fault. What the halted core holds of a transfer
stays. -/
def State.feedBundle (s : State) (c : CoreId) (ops : List RawOp) (m : MonPend) : State :=
  let n := c.val
  let k0 := s.core n
  let s1 := s.modCore n fun k =>
    { k with t := k.t + 1, bpc := k.pc, npc := k.pc, ds := none, squash := false, regTgt := false, mon := some m, reads := [],
             ownStore := (ops.filterMap (fun r => decodeOp c r)).any (fun i => s.storesLate n i) }
  let s2 := match s1.bundleFault c ops with
    | some f => s1.opFaulted n f
    | none => (ops.filterMap (fun r => decodeOp c r)).foldl (fun s i => s.runOp n i) s1
  s2.modCore n fun k => { k with pc := k0.pc, dslot := k0.dslot, ds := k0.ds, annul := k0.annul, regTgt := k0.regTgt }

/-- FEED (R572, R573): answered when the bundle has come to its end. -/
def monFeed (ch : MonChan) (tag core : Byte) (bundle : BitVec 256) (s : State) : State :=
  if h : core.toNat < 96 then
    let c : CoreId := ⟨core.toNat, h⟩
    let ops := rawOps 8 (bundleParcels (fun o => (bundle >>> (8 * o)).setWidth 16) 8 0)
    s.monCore ch 6 tag core (bytesOf 0 3 ++ bytesOf bundle.toNat 32) true (!ops.any (fun r => badFeed c r)) fun s n =>
      let t := s.feedBundle c ops ⟨ch, 6, tag, false⟩
      if settled (t.core n) then coreHalted c t else t
  else s.monCore ch 6 tag core (bytesOf 0 3 ++ bytesOf bundle.toNat 32) true true fun s _ => s

/-! ## Registers of a halted core (R564) -/

/-- A number of w words as words. -/
def wordsOfNat (x w : Nat) : List Word := (List.range w).map (fun i => BitVec.ofNat 32 (x / 2 ^ (32 * i)))

/-- The register of a class and number; none where there is none. -/
def State.regGet (s : State) (c cls num : Nat) : Option (List Word) :=
  let k := s.core c
  match cls with
  | 0 => if num < 64 then some [s.sreg c num] else none
  | 1 => if num < 16 then some [s.areg c num] else none
  | 2 => if num < 32 then some (wordsOfNat (s.vreg c num).toNat 16) else none
  | 3 => if num < 8 then some (wordsOfNat (s.preg c num).toNat 2) else none
  | 4 =>
    if num < 4 then
      let v := (tget 0 k.va num).toNat
      some (wordsOfNat (if s.halfWidth c then v % 2 ^ 576 else v) 36)
    else none
  | 5 => if srReads num then some [if num = 3 then k.pc else s.srValue c num] else none
  | 6 => some [k.pc]
  | _ => none

/-- A write of a register under 06 R190 to R197; none where they forbid it. The bundle at a new pc is none that BRK halted. -/
def State.regSet (s : State) (c cls num : Nat) (v : BitVec 1152) : Option State :=
  let half := s.halfWidth c
  let put (t : Tgt) : Option State := some (s.modCore c fun k => applyPW half k ⟨0, 0, 0, t, v.setWidth 512⟩)
  match cls with
  | 0 => if num < 64 then put (.s (BitVec.ofNat 6 num)) else none
  | 1 => if num < 16 then put (.a (BitVec.ofNat 4 num)) else none
  | 2 => if num < 32 then put (.v (BitVec.ofNat 5 num) (BitVec.allOnes 16)) else none
  | 3 => if 0 < num ∧ num < 8 then put (.p (BitVec.ofNat 3 num)) else none
  | 4 =>
    if num < 4 then
      some (s.modCore c fun k =>
        { k with va := tset 0 k.va num (if half then ((tget 0 k.va num) >>> 576) <<< 576 ||| (v.setWidth 576).setWidth 1152 else v) })
    else none
  | 5 =>
    if srWrites num && !(num == 0 && (v.setWidth 32 : Word) &&& ~~~(BitVec.ofNat 32 flgAll) != 0) then put (srTgt num) else none
  | 6 => some (s.modCore c fun k => { k with pc := v.setWidth 32, brkSkip := false })
  | _ => none

/-- REGGET. -/
def monRegget (ch : MonChan) (tag core cls num : Byte) (s : State) : State :=
  s.monCore ch 7 tag core [cls, num] true (s.regGet core.toNat cls.toNat num.toNat).isSome fun s c =>
    s.monReply ch 7 tag mOK false ((s.regGet c cls.toNat num.toNat).getD [])

/-- REGSET. -/
def monRegset (ch : MonChan) (tag core cls num : Byte) (value : BitVec 1152) (s : State) : State :=
  s.monCore ch 8 tag core (cls :: num :: 0 :: bytesOf value.toNat (classBytes cls.toNat)) true (s.regSet core.toNat cls.toNat num.toNat value).isSome fun s c =>
    ((s.regSet c cls.toNat num.toNat value).getD s).monReply ch 8 tag mOK false []

/-! ## INFO, BAUD, the erase -/

/-- INFO: `DBG_STAT` and the RESULT of IDENT. -/
def monInfo (ch : MonChan) (tag : Byte) (s : State) : State :=
  s.monDo ch (monHead 0 tag) true false fun s =>
    s.monReply ch 0 tag mOK false [s.regValue A.dbgStat, BitVec.ofNat 32 s.identWord, BitVec.ofNat 32 (s.identWord / 2 ^ 32)]

/-- BAUD: the reply is sent at the old rate, which the new one follows (R560). -/
def monBaud (ch : MonChan) (tag rate : Byte) (s : State) : State :=
  s.monDo ch (monHead 9 tag ++ [rate]) (rate.toNat ≤ 4) false fun s => (s.setFld A.mspCfg 0 3 rate.toNat).monReply ch 9 tag mOK false []

/-- The erase has written 0 to a range of control words. -/
def State.zeroRegs (s : State) (p : Nat → Bool) : State := { s with regs := s.regs.filter (fun e => !p e.1) }

/-- Words that the erase writes: the descriptor table, the sequencers' programs and d registers. -/
def erased (off : Nat) : Bool :=
  (0x200000 ≤ off && off < 0x230000) ||
  (0x700000 ≤ off && off < 0x800000 && ((0x100 ≤ off % 0x8000 && off % 0x8000 < 0x140) || 0x4000 ≤ off % 0x8000))

/-- What a core or a bench still holds of erased memory and of its owners: far-window lines (00 R3), and reservations on banks
whose owner changes (07 R268). -/
def State.forget (s : State) : State :=
  let s1 := (s.cores.map (fun e => e.1)).foldl (fun s c => s.modCore c fun k => { k with res := none }) s
  (List.range 12).foldl (fun s b => s.fwcInvalidate b (fun _ => true)) s1

/-- DEBUG_OPENED (R567): the erase ends; debug is OPEN, source 1016. -/
def debugOpened (s : State) : State :=
  if s.fld A.dbgStat 0 2 ≠ 2 then s
  else
    let s1 := ((s.wipe 0 bankEnd).wipe farBase (farEnd - farBase)).zeroRegs erased
    let s2 := (List.range 384).foldl (init := s1) fun s n =>
      (s.setReg (bankReg A.bankOwn n) 0xFFFF).setBank n { s.bank n with chg := none, next := none }
    let s3 := { s2.forget with cfgUe := s2.cfgUe.filter (fun e => e.1 != 3), sys := { s2.sys with keys := [] } }
    (s3.setFld A.dbgStat 0 2 3).raise 1016 0 0

/-! ## The commands -/

/-- INFO (19 R563). -/
def execInfo (ch : MonChan) (tag : Byte) (s : State) : Host.Outcome State Fault Refusal := finish s (monInfo ch tag s)
/-- READ (19 R574). -/
def execRead (ch : MonChan) (tag : Byte) (addr : BitVec 48) (count : BitVec 16) (live : Bool) (busy : List Nat) (s : State) :
    Host.Outcome State Fault Refusal := finish s (monRead ch tag addr count live busy s)
/-- WRITE (19 R574). -/
def execWrite (ch : MonChan) (tag : Byte) (addr : BitVec 48) (count : BitVec 16) (ws : List Word) (busy : List Nat) (s : State) :
    Host.Outcome State Fault Refusal := finish s (monWrite ch tag addr count ws busy s)
/-- HALT (19 R569). -/
def execHalt (ch : MonChan) (tag core : Byte) (s : State) : Host.Outcome State Fault Refusal := finish s (monHalt ch tag core s)
/-- CORE_HALTED (19 R569). -/
def execCoreHalted (c : CoreId) (s : State) : Host.Outcome State Fault Refusal := finish s (coreHalted c s)
/-- RESUME (19 R571). -/
def execResume (ch : MonChan) (tag core : Byte) (s : State) : Host.Outcome State Fault Refusal := finish s (monResume ch tag core s)
/-- STEP (19 R572). -/
def execStep (ch : MonChan) (tag core : Byte) (n : BitVec 16) (s : State) : Host.Outcome State Fault Refusal :=
  finish s (monStep ch tag core n s)
/-- FEED (19 R572). -/
def execFeed (ch : MonChan) (tag core : Byte) (bundle : BitVec 256) (s : State) : Host.Outcome State Fault Refusal :=
  finish s (monFeed ch tag core bundle s)
/-- REGGET (19 R564). -/
def execRegget (ch : MonChan) (tag core cls num : Byte) (s : State) : Host.Outcome State Fault Refusal :=
  finish s (monRegget ch tag core cls num s)
/-- REGSET (19 R564). -/
def execRegset (ch : MonChan) (tag core cls num : Byte) (value : BitVec 1152) (s : State) : Host.Outcome State Fault Refusal :=
  finish s (monRegset ch tag core cls num value s)
/-- BAUD (19 R560). -/
def execBaud (ch : MonChan) (tag rate : Byte) (s : State) : Host.Outcome State Fault Refusal := finish s (monBaud ch tag rate s)
/-- DEBUG_OPENED (19 R567). -/
def execDebugOpened (s : State) : Host.Outcome State Fault Refusal := finish s (debugOpened s)

end Sys2Proof.Machine
end

