-- ==== Sys2Proof/Machine/SpallEng.lean ====
section
/-! DEFINITION. The spall engine (20): known-answer chunks, borrowed stripes, fabric probes, failures. -/

namespace Sys2Proof.Machine

/-- A failure (R590): counted and recorded, source 9. -/
def State.spallFail (s : State) (kind obj detail : Nat) : State :=
  (((s.count A.spallFailcnt 0 32).setReg A.spallLastf0 (BitVec.ofNat 32 (obj + kind * 2 ^ 16))).setReg A.spallLastf1
    (BitVec.ofNat 32 detail)).raise 9 obj (detail % 2 ^ 32 + kind * 2 ^ 32)

/-- Changes the engine. -/
def State.modSpall (s : State) (f : Spall → Spall) : State := { s with spall := f s.spall }

/-! ## Known-answer vectors (R581) -/

/-- Chunks of the vector set of a core. -/
def katChunks : Nat := 128

/-- KAT_CHUNK_START: on an idle core whose vector set the period has not completed. -/
def katChunkStart (c : CoreId) (s : State) : State :=
  if s.spallRuns && s.spall.katCore.isNone && s.coreIdle c.val && s.islandUp (c.val / 8) && tget 0 s.spall.katNext c.val < katChunks then
    s.modSpall fun x => { x with katCore := some c.val }
  else s

/-- KAT_CHUNK_DONE: `bad` is the first vector of the chunk whose result differs. A chunk that was cancelled has no end. -/
def katChunkDone (c : CoreId) (bad : Option (Fin 32)) (s : State) : State :=
  let c := c.val
  if s.spall.katCore = some c then
    let n := tget 0 s.spall.katNext c
    let s1 := s.modSpall fun x => { x with katCore := none, katNext := tset 0 x.katNext c (n + 1) }
    match bad with
    | some i => s1.spallFail 0 c (n * 32 + i.val)
    | none => s1
  else s

/-! ## Borrowed stripes (R582-R587) -/

/-- The first byte of a stripe. -/
def stripeAt (n st : Nat) : Nat := n * 0x80000 + st * 0x1000

/-- The stripe is the next of its bench (R582): every stripe passed over lies in a bank that is not ON. -/
def State.nextStripe (s : State) (n st : Nat) : Bool :=
  let b := benchOfBank n
  let p := n % 32 * 128 + st
  let p0 := tget 0 s.spall.strNext b
  p0 ≤ p && (List.range (p - p0)).all (fun i => !s.awake (32 * b + (p0 + i) / 128))

/-- The conditions of R583; the cycles that remain before the grain start are the environment's. -/
def State.borrowOk (s : State) (n : Nat) : Bool :=
  let b := benchOfBank n
  let d := s.benchDom b
  s.spallRuns && s.spall.borrow.isNone && (!s.spall.borrowedOnce || s.spall.lastBorrow + 25 ≤ s.timer) &&
  (!s.domRuns d || !s.spall.benchUsed.contains (b, (s.dom d).cnt.toNat)) &&
  (List.range 8).all (fun i => s.coreIdle (8 * b + i)) && !(s.bench b).fth.running && s.awake n && !s.lockedFor n 999 && s.islandUp b

/-- STRIPE_BORROW: the contents go to the shadow, corrected; a bank without an owner is the engine's meanwhile (R586). A copy
that reads an uncorrectable word ends the borrow (R587). -/
def stripeBorrow (n : BankId) (stripe : Fin 128) (s : State) : State :=
  let n := n.val
  let b := benchOfBank n
  if s.borrowOk n && s.nextStripe n stripe.val then
    let a := stripeAt n stripe.val
    let inS := fun w => a ≤ w && w < a + 0x1000
    let s1 := (s.eccRead a 0x1000).modSpall fun x =>
      { x with lastBorrow := s.timer, borrowedOnce := true, strNext := tset 0 x.strNext b (n % 32 * 128 + stripe.val + 1),
               benchUsed := (b, (s.dom (s.benchDom b)).cnt.toNat) :: x.benchUsed.filter (fun e => e.1 != b) }
    let s2 := (s1.setFld A.spallStat 2 9 n).setFld A.spallStat 11 7 stripe.val
    if s.ue.any inS then s2
    else
      let s3 := s2.modSpall fun x => { x with borrow := some (n, stripe.val), shadow := s.mem.filter (fun e => inS e.1) }
      if s.owner n = 255 then s3.setFld (bankReg A.bankOwn n) 0 8 142 else s3
  else s

/-- A stripe whose restore has failed holds unknown data (R590): every byte a free value, and whether a word has an error
left open. -/
def State.scramble (s : State) (a : Nat) : State :=
  let f := s.fresh
  let words := (List.range 1024).map (fun i => (a + 4 * i, i))
  let s1 := s.poke a ((List.range 4096).map (fun i => Config.freeByte (64 * f + i)))
  { s1 with fresh := f + 2048, ue := s1.ue ++ (words.filter (fun x => Config.freeBit (f + x.2))).map (·.1),
            ce := s1.ce ++ (words.filter (fun x => Config.freeBit (f + 1024 + x.2))).map (·.1) }

/-- The stripe as it stood, written back with fresh check bits; a bank that has left ON keeps what it holds. -/
def State.restoreStripe (s : State) (a : Nat) : State :=
  if !s.awake (bankOf a) then s
  else { s with mem := s.spall.shadow.foldl (fun m e => tset 0 m e.1 e.2) (s.mem.filter (fun e => !(a ≤ e.1 && e.1 < a + 0x1000))),
                ce := s.ce.filter (fun w => !(a ≤ w && w < a + 0x1000)) }

/-- STRIPE_RELEASE: restored, or left with unknown data; the owner returns, and what waited goes on. -/
def stripeRelease (r : StripeResult) (s : State) : State :=
  match s.spall.borrow with
  | none => s
  | some (n, st) =>
    let a := stripeAt n st
    let s1 := match r with
      | .restoreFailed => (s.scramble a).spallFail 2 n st
      | .march cyc => (s.restoreStripe a).spallFail 1 n (st + cyc.toNat * 2 ^ 8)
      | .pass => s.restoreStripe a
    let s2 := s1.modSpall fun x => { x with borrow := none, shadow := [], tested := if x.tested.contains (n, st) then x.tested else (n, st) :: x.tested }
    let s3 := if s2.owner n = 142 then s2.setFld (bankReg A.bankOwn n) 0 8 255 else s2
    s3.wakeBench (benchOfBank n)

/-! ## Fabric probes (R588) -/

/-- The four patterns. -/
def probePattern (k : Nat) : Word :=
  match k % 4 with
  | 0 => 0x55555555
  | 1 => 0xAAAAAAAA
  | 2 => 0x00000000
  | _ => 0xFFFFFFFF

/-- The domain of wagon w: that of its SCHED entries, else the spall domain. -/
def State.wagonDom (s : State) (w : Nat) : Nat :=
  match (s.rtEntries s.rtPage).find? (fun e => rtKind e.2.1 == 1 && rtWagon e.2.1 == w) with
  | some e => rtDom e.2.1
  | none => s.fld A.spallCtl 1 2

/-- The grain in which a probe of a domain is sent, plus 1. -/
def State.probeGrain (s : State) (d : Nat) : Nat := (s.dom d).cnt.toNat + 1

/-- A probe may be sent on wagon 44 + w: its domain has had none in the current grain. -/
def State.probeOk (s : State) (w : Nat) : Bool :=
  let d := s.wagonDom (44 + w)
  s.spallRuns && s.islandUp 12 && s.domRuns d && (tget none s.spall.probe w).isNone && tget 0 s.spall.probeAt d != s.probeGrain d

/-- FABRIC_PROBE: one probe word on wagon 44 + w to a destination, one in each grain of the wagon's domain; each pattern serves
240 probes (log entry 53). -/
def fabricProbe (w : Fin 8) (dest : Fin 30) (s : State) : State :=
  if s.probeOk w.val then
    let v := probePattern (s.spall.probeNext / 240)
    let d := s.wagonDom (44 + w.val)
    (s.modSpall fun x => { x with probe := tset none x.probe w.val (some (dest.val, v)), probeNext := x.probeNext + 1,
                                  probeAt := tset 0 x.probeAt d (s.probeGrain d) }).emit
      (.probe (44 + w.val) dest.val v)
  else s

/-- PROBE_RETURN: the word and the round trip in cycles (fabric clock), in or out of the bound of 09 R323, R324. -/
def probeReturn (w : Fin 8) (value : Word) (roundTrip : BitVec 32) (inBound : Bool) (s : State) : State :=
  match tget none s.spall.probe w.val with
  | none => s
  | some (dest, v) =>
    let s1 := s.modSpall fun x => { x with probe := tset none x.probe w.val none }
    if value ≠ v then s1.spallFail 3 (dest * 8 + w.val) value.toNat
    else if !inBound then s1.spallFail 4 (dest * 8 + w.val) roundTrip.toNat
    else s1

/-! ## The commands -/

/-- KAT_CHUNK_START (20 R581). -/
def execKatChunkStart (c : CoreId) (s : State) : Host.Outcome State Fault Refusal := finish s (katChunkStart c s)
/-- KAT_CHUNK_DONE (20 R581). -/
def execKatChunkDone (c : CoreId) (bad : Option (Fin 32)) (s : State) : Host.Outcome State Fault Refusal :=
  finish s (katChunkDone c bad s)
/-- STRIPE_BORROW (20 R583). -/
def execStripeBorrow (n : BankId) (stripe : Fin 128) (s : State) : Host.Outcome State Fault Refusal :=
  finish s (stripeBorrow n stripe s)
/-- STRIPE_RELEASE (20 R584). -/
def execStripeRelease (r : StripeResult) (s : State) : Host.Outcome State Fault Refusal := finish s (stripeRelease r s)
/-- FABRIC_PROBE (20 R588). -/
def execFabricProbe (w : Fin 8) (dest : Fin 30) (s : State) : Host.Outcome State Fault Refusal := finish s (fabricProbe w dest s)
/-- PROBE_RETURN (20 R588). -/
def execProbeReturn (w : Fin 8) (value : Word) (roundTrip : BitVec 32) (inBound : Bool) (s : State) :
    Host.Outcome State Fault Refusal := finish s (probeReturn w value roundTrip inBound s)

end Sys2Proof.Machine
end

