-- ==== Sys2Proof/Machine/Transmit.lean ====
section
/-! DEFINITION. Frames that leave by an Ethernet port (11 R360, R377-R379), and the host's frames (11 R357, 13 R445). -/

namespace Sys2Proof.Machine

/-! ## Stamps (11 R360) -/

/-- The instant of an edge of the network clock on port e's clock, in ns, with a correction of `NET_LATCOR` (RX at bit 0, TX at bit
16) added; a rest of less than 1 ns is cut off (log entry 22). -/
def State.stamp (s : State) (e : Nat) (edge : NetEdge) (lo : Nat) : DWord :=
  BitVec.ofInt 64 (((s.portTime e 0 : Int) * 8 + edge.val * 10 + sgn (s.fld (A.netLatcor e) lo 16) 16) / 8)

/-! ## Transmission (11 R377-R379) -/

/-- Length of a frame in bytes; a PTP message's is PRESUMED (log entry 22). -/
def txLen : TxItem → Nat
  | .stream _ h _ b => h.length + b.length
  | .host _ _ f => f.length
  | .ptp followUp => if followUp then 90 else 64

/-- The transmission time of a frame in ns, rounded up. -/
def State.txNs (s : State) (e : Nat) (x : TxItem) : Nat := (txLen x * 8 * 1000 + s.ethRate e - 1) / s.ethRate e

/-- Class t's gate is closed at some instant of [a, b) of a cycle that starts at `pos` (entries in turn). -/
def gateShut (t a b : Nat) : List Word → Nat → Nat → Bool
  | [], _, _ => false
  | [w], pos, stop => !w.getLsbD t && a < stop && pos < b
  | w :: w' :: ws, pos, stop =>
    let e := Nat.min stop (pos + fget w 8 24)
    (!w.getLsbD t && a < e && pos < b) || gateShut t a b (w' :: ws) e stop

/-- Class t's gate is open from port time a to b (R379): while EN is 0, and until a list is operational, every gate is. -/
def State.gateOpen (s : State) (e t a b : Nat) : Bool :=
  let p := s.ethPort e
  if !s.bit (A.netGclCtl e) 0 || !p.operOn || p.operCycle = 0 || a < p.operBase.toNat then true
  else
    let c := p.operCycle.toNat
    let x := (a - p.operBase.toNat) % c
    let y := x + (b - a)
    !(List.range (y / c + 1)).any (fun k => gateShut t x y p.operGates (k * c) ((k + 1) * c))

/-- Class t may send its oldest frame, from `ns` into the current µs on: its credit is not negative, and its gate stays open until the
frame's end on the port's clock. -/
def State.txReady (s : State) (e t ns : Nat) : Option TxItem :=
  match tget [] (s.ethPort e).txq t with
  | [] => none
  | x :: _ =>
    let start := s.portTime e ns
    if (s.fld (A.netCbs e t) 0 17 = 0 ∨ 0 ≤ s.creditAt e t (s.refNs ns)) ∧ s.gateOpen e t start (start + s.txNs e x) ∧
        !(s.netFrozen && (match x with | .stream _ _ _ _ => true | _ => false)) then some x
    else none

/-- The frame of class t leaves: its credit falls by sendSlope, no lower than loCredit (R378). -/
def State.txSend (s : State) (e t ns : Nat) (x : TxItem) : State :=
  let slope := s.fld (A.netCbs e t) 0 17
  let n := s.txNs e x
  let down : Int := ((s.ethRate e : Int) - slope) * n
  let lo : Int := -((1522 * 8 * 1000 : Int) * ((s.ethRate e : Int) - slope) / s.ethRate e)
  let c := if slope = 0 then 0 else max lo (s.creditAt e t (s.refNs ns) - down)
  ((s.modEth e fun p => { p with txq := tset [] p.txq t ((tget [] p.txq t).drop 1) }).setCredit e t c (s.refNs ns + n)).emit
    (.ethFrame e t x)

/-- ETH_FRAME_TRANSMIT (R377): a port starts the oldest frame of the highest class that may send, at a network clock edge of the
current µs. The entry of a host's frame is written back with the frame's stamp (13 R445). -/
def ethFrameTransmit (e : EthId) (edge : NetEdge) (s : State) : State :=
  let ns := edgeNs edge.val
  if !s.ethEn e.val || !s.ethLink e.val then s
  else match [7, 6, 5, 4, 3, 2, 1, 0].findSome? (fun t => (s.txReady e.val t ns).map (fun x => (t, x))) with
    | some (t, x) =>
      let s1 := s.txSend e.val t ns x
      match x with
      | .host q h f => s1.streamBack q ⟨h, 1, f.length, s.stamp e.val edge 16⟩
      | _ => s1
    | none => s

/-! ## Host frames (13 R445) -/

/-- A stream queue of a direction has an entry for the unit. -/
def State.streamReady (s : State) (q dir : Nat) : Bool :=
  s.qState q == 1 && s.qType q == 3 && s.qDir q == dir && s.qUsed q != 0 && s.qFn q < 2 && s.fnReady (s.qFn q)

/-- The unit takes the next entry. -/
def State.takeEntry (s : State) (q : Nat) : State := s.setFld (A.qHead q) 0 16 ((s.qHd q + 1) % s.qLen q)

/-- HOST_FRAME_TX (R445, 11 R377): the next frame of a transmit queue joins class 0 of the port that LINK names; for its length, or
because the port is down, it is refused. An entry whose frame is not sent has STAMP 0 (log entry 22). -/
def hostFrameTx (q : QueueId) (len : BitVec 16) (frame : List Byte) (hostErr : Bool) (s : State) : State :=
  let q := q.val
  if s.streamReady q 0 then
    let e := s.qLnk q % 8
    let h := s.qHd q
    let s1 := s.takeEntry q
    if hostErr then s1.streamBack q ⟨h, 1 + 2 * 2, 0, 0⟩
    else if len.toNat < 64 ∨ 1518 < len.toNat ∨ !s.ethEn e ∨ !s.ethLink e then s1.streamBack q ⟨h, 1 + 1 * 2, 0, 0⟩
    else s1.enqueue e 0 (.host q h (padTo len.toNat frame))
  else s

/-- HOST_FRAME_RX (11 R357, R445): a frame that matched nothing fills the next buffer of a receive queue of its port. -/
def hostFrameRx (q : QueueId) (buf : DWord) (bufLen : BitVec 16) (frame : List Byte) (edge : NetEdge) (hostErr : Bool)
    (s : State) : State :=
  let q := q.val
  let e := s.qLnk q % 8
  if s.streamReady q 1 && s.bit (A.netPctl e) 5 && s.ethEn e && s.ethLink e then
    let h := s.qHd q
    let st := s.stamp e edge 0
    let s1 := s.takeEntry q
    if hostErr then s1.streamBack q ⟨h, 1 + 2 * 2, 0, st⟩
    else if bufLen.toNat < 1522 ∨ 1522 < frame.length then s1.streamBack q ⟨h, 1 + 1 * 2, 0, st⟩
    else (s1.emit (.hostWrite buf frame)).streamBack q ⟨h, 1, frame.length, st⟩
  else s

/-! ## The commands -/

/-- ETH_FRAME_TRANSMIT (11 R377). -/
def execEthFrameTransmit (e : EthId) (edge : NetEdge) (s : State) : Host.Outcome State Fault Refusal :=
  finish s (s.within 29 (ethFrameTransmit e edge s))
/-- HOST_FRAME_TX (13 R445). -/
def execHostFrameTx (q : QueueId) (len : BitVec 16) (f : List Byte) (e : Bool) (s : State) : Host.Outcome State Fault Refusal :=
  finish s (s.within 29 (hostFrameTx q len f e s))
/-- HOST_FRAME_RX (13 R445). -/
def execHostFrameRx (q : QueueId) (buf : DWord) (bufLen : BitVec 16) (f : List Byte) (edge : NetEdge) (e : Bool) (s : State) :
    Host.Outcome State Fault Refusal := finish s (s.within 29 (hostFrameRx q buf bufLen f edge e s))

end Sys2Proof.Machine
end

