-- ==== Sys2Proof/Machine/Dispatch.lean ====
section
/-! DEFINITION. One arm per command: the meaning it calls. -/

namespace Sys2Proof.Machine

/-- The effect of a command on everything but the queue of waiting commands. -/
def exec (i : Instr) (s : State) : Host.Outcome State Fault Refusal :=
  match i with
  | .grainBoundary d v ns => Sys2Proof.Machine.execGrainBoundary d v ns s
  | .domainLock d ns => Sys2Proof.Machine.execDomainLock d ns s
  | .grainHoldover d v ns => Sys2Proof.Machine.execGrainHoldover d v ns s
  | .grainAcquireTimeout d => Sys2Proof.Machine.execGrainAcquireTimeout d s
  | .resync d => Sys2Proof.Machine.execResync d s
  | .grainStep d ns => Sys2Proof.Machine.execGrainStep d ns s
  | .domainEnable d v => Sys2Proof.Machine.execDomainEnable d v s
  | .domainDisable d v => Sys2Proof.Machine.execDomainDisable d v s
  | .rdGcntRead d who => Sys2Proof.Machine.execRdGcntRead d who s
  | .rdBtimeRead d who => Sys2Proof.Machine.execRdBtimeRead d who s
  | .fabricGrainStart d resNs => Sys2Proof.Machine.execFabricGrainStart d resNs s
  | .benchGrainStart b => Sys2Proof.Machine.execBenchGrainStart b s
  | .triggerFire c => Sys2Proof.Machine.execTriggerFire c s
  | .triggerLatest c => Sys2Proof.Machine.execTriggerLatest c s
  | .coreDeadline c => Sys2Proof.Machine.execCoreDeadline c s
  | .egressLoad lane slot frame => Sys2Proof.Machine.execEgressLoad lane slot frame s
  | .slotReceive lane slot raw edge => Sys2Proof.Machine.execSlotReceive lane slot raw edge s
  | .frameMark k m frame => Sys2Proof.Machine.execFrameMark k m frame s
  | .bclkLoss k => Sys2Proof.Machine.execBclkLoss k s
  | .cgEnable k v => Sys2Proof.Machine.execCgEnable k v s
  | .cgDisable k v => Sys2Proof.Machine.execCgDisable k v s
  | .slotmapPageWrite g page word v => Sys2Proof.Machine.execSlotmapPageWrite g page word v s
  | .slotmapChangeover k => Sys2Proof.Machine.execSlotmapChangeover k s
  | .schedCarry d entry word busy => Sys2Proof.Machine.execSchedCarry d entry word busy s
  | .watchCarry b busy => Sys2Proof.Machine.execWatchCarry b busy s
  | .pushCarry b => Sys2Proof.Machine.execPushCarry b s
  | .egressCarry w ph busy waited => Sys2Proof.Machine.execEgressCarry w ph busy waited s
  | .fabricBankWrite w meets seamUe busy waited => Sys2Proof.Machine.execFabricBankWrite w meets seamUe busy waited s
  | .routePageWrite page word v => Sys2Proof.Machine.execRoutePageWrite page word v s
  | .fathomGroupIssue b => Sys2Proof.Machine.execFathomGroupIssue b s
  | .fathomOutput b cycle => Sys2Proof.Machine.execFathomOutput b cycle s
  | .fathomDeadline b => Sys2Proof.Machine.execFathomDeadline b s
  | .fathomPageWrite b off v => Sys2Proof.Machine.execFathomPageWrite b off v s
  | .bankOwnWrite n who v => Sys2Proof.Machine.execBankOwnWrite n who v s
  | .handoverEffect n => Sys2Proof.Machine.execHandoverEffect n s
  | .bankPwrWrite n who v => Sys2Proof.Machine.execBankPwrWrite n who v s
  | .bankPowerChangeDone n => Sys2Proof.Machine.execBankPowerChangeDone n s
  | .hostWindowAccess off a busy seam => Sys2Proof.Machine.execHostWindowAccess off a busy seam s
  | .bundleIssue c ahead => Sys2Proof.Machine.execBundleIssue c ahead s
  | .add c x => Sys2Proof.Machine.execAdd c x s
  | .addc c x => Sys2Proof.Machine.execAddc c x s
  | .sub c x => Sys2Proof.Machine.execSub c x s
  | .subc c x => Sys2Proof.Machine.execSubc c x s
  | .adds c x => Sys2Proof.Machine.execAdds c x s
  | .subs c x => Sys2Proof.Machine.execSubs c x s
  | .and c x => Sys2Proof.Machine.execAnd c x s
  | .or c x => Sys2Proof.Machine.execOr c x s
  | .xor c x => Sys2Proof.Machine.execXor c x s
  | .andn c x => Sys2Proof.Machine.execAndn c x s
  | .shl c x => Sys2Proof.Machine.execShl c x s
  | .shr c x => Sys2Proof.Machine.execShr c x s
  | .sar c x => Sys2Proof.Machine.execSar c x s
  | .min c x => Sys2Proof.Machine.execMin c x s
  | .max c x => Sys2Proof.Machine.execMax c x s
  | .minu c x => Sys2Proof.Machine.execMinu c x s
  | .maxu c x => Sys2Proof.Machine.execMaxu c x s
  | .mul c x => Sys2Proof.Machine.execMul c x s
  | .mulh c x => Sys2Proof.Machine.execMulh c x s
  | .mulq c x => Sys2Proof.Machine.execMulq c x s
  | .mulw c x => Sys2Proof.Machine.execMulw c x s
  | .div c x => Sys2Proof.Machine.execDiv c x s
  | .divs c x => Sys2Proof.Machine.execDivs c x s
  | .divu c x => Sys2Proof.Machine.execDivu c x s
  | .rem c x => Sys2Proof.Machine.execRem c x s
  | .remu c x => Sys2Proof.Machine.execRemu c x s
  | .neg c x => Sys2Proof.Machine.execNeg c x s
  | .negs c x => Sys2Proof.Machine.execNegs c x s
  | .abs c x => Sys2Proof.Machine.execAbs c x s
  | .abss c x => Sys2Proof.Machine.execAbss c x s
  | .not c x => Sys2Proof.Machine.execNot c x s
  | .clz c x => Sys2Proof.Machine.execClz c x s
  | .sext8 c x => Sys2Proof.Machine.execSext8 c x s
  | .sext16 c x => Sys2Proof.Machine.execSext16 c x s
  | .sext24 c x => Sys2Proof.Machine.execSext24 c x s
  | .rnd24 c x => Sys2Proof.Machine.execRnd24 c x s
  | .popc c x => Sys2Proof.Machine.execPopc c x s
  | .cmp c x => Sys2Proof.Machine.execCmp c x s
  | .cmpi c x => Sys2Proof.Machine.execCmpi c x s
  | .addi c x => Sys2Proof.Machine.execAddi c x s
  | .logi c x => Sys2Proof.Machine.execLogi c x s
  | .shifti c x => Sys2Proof.Machine.execShifti c x s
  | .ldb c x => Sys2Proof.Machine.execLdb c x s
  | .ldbu c x => Sys2Proof.Machine.execLdbu c x s
  | .ldh c x => Sys2Proof.Machine.execLdh c x s
  | .ldhu c x => Sys2Proof.Machine.execLdhu c x s
  | .ldw c x => Sys2Proof.Machine.execLdw c x s
  | .ldd c x => Sys2Proof.Machine.execLdd c x s
  | .stb c x => Sys2Proof.Machine.execStb c x s
  | .sth c x => Sys2Proof.Machine.execSth c x s
  | .stw c x => Sys2Proof.Machine.execStw c x s
  | .std c x => Sys2Proof.Machine.execStd c x s
  | .ldwp c x => Sys2Proof.Machine.execLdwp c x s
  | .stwp c x => Sys2Proof.Machine.execStwp c x s
  | .lddp c x => Sys2Proof.Machine.execLddp c x s
  | .stdp c x => Sys2Proof.Machine.execStdp c x s
  | .ldwx c x => Sys2Proof.Machine.execLdwx c x s
  | .stwx c x => Sys2Proof.Machine.execStwx c x s
  | .segld c x => Sys2Proof.Machine.execSegld c x s
  | .ldx c x => Sys2Proof.Machine.execLdx c x s
  | .stx c x => Sys2Proof.Machine.execStx c x s
  | .lock c x => Sys2Proof.Machine.execLock c x s
  | .lockEnd c => Sys2Proof.Machine.execLockEnd c s
  | .storeBufferWrite c => Sys2Proof.Machine.execStoreBufferWrite c s
  | .farWindowFill c => Sys2Proof.Machine.execFarWindowFill c s
  | .otherBenchReturn c ue => Sys2Proof.Machine.execOtherBenchReturn c ue s
  | .constant c x => Sys2Proof.Machine.execConstant c x s
  | .mov c x => Sys2Proof.Machine.execMov c x s
  | .movsr c x => Sys2Proof.Machine.execMovsr c x s
  | .mova c x => Sys2Proof.Machine.execMova c x s
  | .pop c x => Sys2Proof.Machine.execPop c x s
  | .pmov c x => Sys2Proof.Machine.execPmov c x s
  | .movi c x => Sys2Proof.Machine.execMovi c x s
  | .pnot c x => Sys2Proof.Machine.execPnot c x s
  | .shli c x => Sys2Proof.Machine.execShli c x s
  | .nop c x => Sys2Proof.Machine.execNop c x s
  | .gend c x cycle => Sys2Proof.Machine.execGend c x cycle s
  | .tdigSend b => Sys2Proof.Machine.execTdigSend b s
  | .wait c x => Sys2Proof.Machine.execWait c x s
  | .isync c x => Sys2Proof.Machine.execIsync c x s
  | .fence c x => Sys2Proof.Machine.execFence c x s
  | .swev c x => Sys2Proof.Machine.execSwev c x s
  | .brk c x => Sys2Proof.Machine.execBrk c x s
  | .br c x => Sys2Proof.Machine.execBr c x s
  | .bri c x => Sys2Proof.Machine.execBri c x s
  | .brs c x => Sys2Proof.Machine.execBrs c x s
  | .call c x => Sys2Proof.Machine.execCall c x s
  | .ret c x => Sys2Proof.Machine.execRet c x s
  | .loop c x => Sys2Proof.Machine.execLoop c x s
  | .vadd c x => Sys2Proof.Machine.execVadd c x s
  | .vsub c x => Sys2Proof.Machine.execVsub c x s
  | .vadds c x => Sys2Proof.Machine.execVadds c x s
  | .vsubs c x => Sys2Proof.Machine.execVsubs c x s
  | .vand c x => Sys2Proof.Machine.execVand c x s
  | .vor c x => Sys2Proof.Machine.execVor c x s
  | .vxor c x => Sys2Proof.Machine.execVxor c x s
  | .vshl c x => Sys2Proof.Machine.execVshl c x s
  | .vshr c x => Sys2Proof.Machine.execVshr c x s
  | .vsar c x => Sys2Proof.Machine.execVsar c x s
  | .vmin c x => Sys2Proof.Machine.execVmin c x s
  | .vmax c x => Sys2Proof.Machine.execVmax c x s
  | .vmulq c x => Sys2Proof.Machine.execVmulq c x s
  | .vmul c x => Sys2Proof.Machine.execVmul c x s
  | .vneg c x => Sys2Proof.Machine.execVneg c x s
  | .vnegs c x => Sys2Proof.Machine.execVnegs c x s
  | .vabs c x => Sys2Proof.Machine.execVabs c x s
  | .vabss c x => Sys2Proof.Machine.execVabss c x s
  | .vnot c x => Sys2Proof.Machine.execVnot c x s
  | .vmov c x => Sys2Proof.Machine.execVmov c x s
  | .vclz c x => Sys2Proof.Machine.execVclz c x s
  | .vsext24 c x => Sys2Proof.Machine.execVsext24 c x s
  | .vrnd24 c x => Sys2Proof.Machine.execVrnd24 c x s
  | .vcvtqf c x => Sys2Proof.Machine.execVcvtqf c x s
  | .vcvtfq c x => Sys2Proof.Machine.execVcvtfq c x s
  | .vcvtif c x => Sys2Proof.Machine.execVcvtif c x s
  | .vcvtfi c x => Sys2Proof.Machine.execVcvtfi c x s
  | .vfneg c x => Sys2Proof.Machine.execVfneg c x s
  | .vfabs c x => Sys2Proof.Machine.execVfabs c x s
  | .vcmp c x => Sys2Proof.Machine.execVcmp c x s
  | .vfcmp c x => Sys2Proof.Machine.execVfcmp c x s
  | .vmacq c x => Sys2Proof.Machine.execVmacq c x s
  | .vmsuq c x => Sys2Proof.Machine.execVmsuq c x s
  | .vmaci c x => Sys2Proof.Machine.execVmaci c x s
  | .vacx c x => Sys2Proof.Machine.execVacx c x s
  | .vacr c x => Sys2Proof.Machine.execVacr c x s
  | .vacz c x => Sys2Proof.Machine.execVacz c x s
  | .vfadd c x => Sys2Proof.Machine.execVfadd c x s
  | .vfsub c x => Sys2Proof.Machine.execVfsub c x s
  | .vfmul c x => Sys2Proof.Machine.execVfmul c x s
  | .vfma c x => Sys2Proof.Machine.execVfma c x s
  | .vfms c x => Sys2Proof.Machine.execVfms c x s
  | .vfmin c x => Sys2Proof.Machine.execVfmin c x s
  | .vfmax c x => Sys2Proof.Machine.execVfmax c x s
  | .fadd c x => Sys2Proof.Machine.execFadd c x s
  | .fsub c x => Sys2Proof.Machine.execFsub c x s
  | .fmul c x => Sys2Proof.Machine.execFmul c x s
  | .fma c x => Sys2Proof.Machine.execFma c x s
  | .fmin c x => Sys2Proof.Machine.execFmin c x s
  | .fmax c x => Sys2Proof.Machine.execFmax c x s
  | .fcmp c x => Sys2Proof.Machine.execFcmp c x s
  | .vbcst c x => Sys2Proof.Machine.execVbcst c x s
  | .vins c x => Sys2Proof.Machine.execVins c x s
  | .vext c x => Sys2Proof.Machine.execVext c x s
  | .vlbc c x => Sys2Proof.Machine.execVlbc c x s
  | .vfsum c x => Sys2Proof.Machine.execVfsum c x s
  | .vld c x => Sys2Proof.Machine.execVld c x s
  | .vst c x => Sys2Proof.Machine.execVst c x s
  | .vlds c x => Sys2Proof.Machine.execVlds c x s
  | .vsts c x => Sys2Proof.Machine.execVsts c x s
  | .vgth c x => Sys2Proof.Machine.execVgth c x s
  | .vsct c x => Sys2Proof.Machine.execVsct c x s
  | .vldbc c x => Sys2Proof.Machine.execVldbc c x s
  | .eventRaise => Sys2Proof.Machine.execEventRaise s
  | .coalesceWindowEnd src => Sys2Proof.Machine.execCoalesceWindowEnd src s
  | .eventStart => Sys2Proof.Machine.execEventStart s
  | .eventProgramStart c => Sys2Proof.Machine.execEventProgramStart c s
  | .waitWake c => Sys2Proof.Machine.execWaitWake c s
  | .evtClaimRead c who => Sys2Proof.Machine.execEvtClaimRead c who s
  | .evtDoneWrite c v => Sys2Proof.Machine.execEvtDoneWrite c v s
  | .evtPendWrite w v => Sys2Proof.Machine.execEvtPendWrite w v s
  | .evtGdisWrite w v => Sys2Proof.Machine.execEvtGdisWrite w v s
  | .classCHoldoffEnd g => Sys2Proof.Machine.execClassCHoldoffEnd g s
  | .classHHoldoffEnd g => Sys2Proof.Machine.execClassHHoldoffEnd g s
  | .eventRecordWrite => Sys2Proof.Machine.execEventRecordWrite s
  | .sqFetch q p => Sys2Proof.Machine.execSqFetch q p s
  | .completionWrite => Sys2Proof.Machine.execCompletionWrite s
  | .queueSignal q => Sys2Proof.Machine.execQueueSignal q s
  | .doorbell q f a => Sys2Proof.Machine.execDoorbell q f a s
  | .queueEnableWrite q f v => Sys2Proof.Machine.execQueueEnableWrite q f v s
  | .queueDisableWrite q f v => Sys2Proof.Machine.execQueueDisableWrite q f v s
  | .seqclr q f => Sys2Proof.Machine.execSeqclr q f s
  | .queueDrained q => Sys2Proof.Machine.execQueueDrained q s
  | .queueError q e => Sys2Proof.Machine.execQueueError q e s
  | .hostIfrstWrite f v => Sys2Proof.Machine.execHostIfrstWrite f v s
  | .functionLevelReset f => Sys2Proof.Machine.execFunctionLevelReset f s
  | .ifrstDone f bme => Sys2Proof.Machine.execIfrstDone f bme s
  | .perstNAssert => Sys2Proof.Machine.execPerstNAssert s
  | .d3hotEntry f pmeEn => Sys2Proof.Machine.execD3hotEntry f pmeEn s
  | .d0Return f => Sys2Proof.Machine.execD0Return f s
  | .pmeResend f => Sys2Proof.Machine.execPmeResend f s
  | .linkState rate width flit bme0 bme1 => Sys2Proof.Machine.execLinkState rate width flit bme0 bme1 s
  | .hostFrameTx q len frame hostErr => Sys2Proof.Machine.execHostFrameTx q len frame hostErr s
  | .hostFrameRx q buf bufLen frame edge hostErr => Sys2Proof.Machine.execHostFrameRx q buf bufLen frame edge hostErr s
  | .cmdNop o p => Sys2Proof.Machine.execCmdNop o p s
  | .ident o p => Sys2Proof.Machine.execIdent o p s
  | .time o p => Sys2Proof.Machine.execTime o p s
  | .interfaceReset o p => Sys2Proof.Machine.execInterfaceReset o p s
  | .unitReset o p => Sys2Proof.Machine.execUnitReset o p s
  | .loadImage o p => Sys2Proof.Machine.execLoadImage o p s
  | .loadImageCopyDone dst ok => Sys2Proof.Machine.execLoadImageCopyDone dst ok s
  | .startCore o p => Sys2Proof.Machine.execStartCore o p s
  | .stopCore o p => Sys2Proof.Machine.execStopCore o p s
  | .bankAssign o p => Sys2Proof.Machine.execBankAssign o p s
  | .paramWrite o p => Sys2Proof.Machine.execParamWrite o p s
  | .routeCommit o p => Sys2Proof.Machine.execRouteCommit o p s
  | .taplistCommit o p => Sys2Proof.Machine.execTaplistCommit o p s
  | .slotmapCommit o p => Sys2Proof.Machine.execSlotmapCommit o p s
  | .netstreamCommit o p => Sys2Proof.Machine.execNetstreamCommit o p s
  | .chainstreamCommit o p => Sys2Proof.Machine.execChainstreamCommit o p s
  | .dmaStart o p => Sys2Proof.Machine.execDmaStart o p s
  | .dmaStop o p => Sys2Proof.Machine.execDmaStop o p s
  | .domainResync o p => Sys2Proof.Machine.execDomainResync o p s
  | .timeConfig o p => Sys2Proof.Machine.execTimeConfig o p s
  | .queueSet o p => Sys2Proof.Machine.execQueueSet o p s
  | .queueEnable o p => Sys2Proof.Machine.execQueueEnable o p s
  | .queueSeqclr o p => Sys2Proof.Machine.execQueueSeqclr o p s
  | .propose o p => Sys2Proof.Machine.execPropose o p s
  | .concur o p => Sys2Proof.Machine.execConcur o p s
  | .withdraw o p => Sys2Proof.Machine.execWithdraw o p s
  | .protectLapsed pid => Sys2Proof.Machine.execProtectLapsed pid s
  | .pair o p => Sys2Proof.Machine.execPair o p s
  | .unpair o p => Sys2Proof.Machine.execUnpair o p s
  | .takeoverDrill o p => Sys2Proof.Machine.execTakeoverDrill o p s
  | .spallSet o p => Sys2Proof.Machine.execSpallSet o p s
  | .spallStatus o p => Sys2Proof.Machine.execSpallStatus o p s
  | .unlock o p => Sys2Proof.Machine.execUnlock o p s
  | .monitor o p => Sys2Proof.Machine.execMonitor o p s
  | .ethFrameReceive e len tags k edge => Sys2Proof.Machine.execEthFrameReceive e len tags k edge s
  | .syncTimeout e => Sys2Proof.Machine.execSyncTimeout e s
  | .linkChange e up => Sys2Proof.Machine.execLinkChange e up s
  | .netEgressLoad d => Sys2Proof.Machine.execNetEgressLoad d s
  | .ethFrameTransmit e edge => Sys2Proof.Machine.execEthFrameTransmit e edge s
  | .netCbsWrite e t v => Sys2Proof.Machine.execNetCbsWrite e t v s
  | .gclChange e v => Sys2Proof.Machine.execGclChange e v s
  | .gateListSwitch e edge => Sys2Proof.Machine.execGateListSwitch e edge s
  | .netUtimeRead who => Sys2Proof.Machine.execNetUtimeRead who s
  | .chainPortUp p roundTripNs => Sys2Proof.Machine.execChainPortUp p roundTripNs s
  | .chainPortDown p => Sys2Proof.Machine.execChainPortDown p s
  | .portDelayMeasure p roundTripCycles => Sys2Proof.Machine.execPortDelayMeasure p roundTripCycles s
  | .nak p expected => Sys2Proof.Machine.execNak p expected s
  | .badFrame p k => Sys2Proof.Machine.execBadFrame p k s
  | .retransmitTimeout p => Sys2Proof.Machine.execRetransmitTimeout p s
  | .retryExhausted p => Sys2Proof.Machine.execRetryExhausted p s
  | .mark h dom grain resNs ns => Sys2Proof.Machine.execMark h dom grain resNs ns s
  | .hb p h state drv epoch grain => Sys2Proof.Machine.execHb p h state drv epoch grain s
  | .take p h epoch grain => Sys2Proof.Machine.execTake p h epoch grain s
  | .fenceFrame p h cause epoch grain => Sys2Proof.Machine.execFenceFrame p h cause epoch grain s
  | .relay p h tag pkt => Sys2Proof.Machine.execRelay p h tag pkt s
  | .prep p h tag grain pid cfg cnt pkt => Sys2Proof.Machine.execPrep p h tag grain pid cfg cnt pkt s
  | .acc p h tag => Sys2Proof.Machine.execAcc p h tag s
  | .rej p h tag status => Sys2Proof.Machine.execRej p h tag status s
  | .commit p h tag => Sys2Proof.Machine.execCommit p h tag s
  | .abort p h tag => Sys2Proof.Machine.execAbort p h tag s
  | .tsamp p h es => Sys2Proof.Machine.execTsamp p h es s
  | .tdig p h b grain digs => Sys2Proof.Machine.execTdig p h b grain digs s
  | .strm h es => Sys2Proof.Machine.execStrm h es s
  | .strmFlush dst => Sys2Proof.Machine.execStrmFlush dst s
  | .cmd h queue tag issuer pkt => Sys2Proof.Machine.execCmd h queue tag issuer pkt s
  | .cpl h queue tag completion => Sys2Proof.Machine.execCpl h queue tag completion s
  | .enumToken h next ovf => Sys2Proof.Machine.execEnumToken h next ovf s
  | .enumDone h count ovf => Sys2Proof.Machine.execEnumDone h count ovf s
  | .enumRequest h => Sys2Proof.Machine.execEnumRequest h s
  | .chCtlEnum => Sys2Proof.Machine.execChCtlEnum s
  | .silencedRelease => Sys2Proof.Machine.execSilencedRelease s
  | .twinDriveOn => Sys2Proof.Machine.execTwinDriveOn s
  | .dmaEnd k w => Sys2Proof.Machine.execDmaEnd k w s
  | .seti k w => Sys2Proof.Machine.execSeti k w s
  | .seth k w => Sys2Proof.Machine.execSeth k w s
  | .aluiAdd k w => Sys2Proof.Machine.execAluiAdd k w s
  | .aluiXor k w => Sys2Proof.Machine.execAluiXor k w s
  | .move k w => Sys2Proof.Machine.execMove k w s
  | .move2d k w => Sys2Proof.Machine.execMove2d k w s
  | .dmaTransactionComplete k tx e hostData hostCycles => Sys2Proof.Machine.execDmaTransactionComplete k tx e hostData hostCycles s
  | .waitg k w => Sys2Proof.Machine.execWaitg k w s
  | .waitgEnd k => Sys2Proof.Machine.execWaitgEnd k s
  | .dlvb k w late => Sys2Proof.Machine.execDlvb k w late s
  | .dlve k w => Sys2Proof.Machine.execDlve k w s
  | .dmaDeadline k => Sys2Proof.Machine.execDmaDeadline k s
  | .dmaFence k w => Sys2Proof.Machine.execDmaFence k w s
  | .jmp k w => Sys2Proof.Machine.execJmp k w s
  | .loopd k w => Sys2Proof.Machine.execLoopd k w s
  | .hand k w => Sys2Proof.Machine.execHand k w s
  | .rel k w => Sys2Proof.Machine.execRel k w s
  | .signal k w => Sys2Proof.Machine.execSignal k w s
  | .inval k w => Sys2Proof.Machine.execInval k w s
  | .dmaGo k v => Sys2Proof.Machine.execDmaGo k v s
  | .dmaCtlStop k v => Sys2Proof.Machine.execDmaCtlStop k v s
  | .dmaErraddrRead k who => Sys2Proof.Machine.execDmaErraddrRead k who s
  | .fwcInv b => Sys2Proof.Machine.execFwcInv b s
  | .fwcInvalidateDone b => Sys2Proof.Machine.execFwcInvalidateDone b s
  | .scrubRead line => Sys2Proof.Machine.execScrubRead line s
  | .farStack q => Sys2Proof.Machine.execFarStack q s
  | .fmUeaddrRead q who => Sys2Proof.Machine.execFmUeaddrRead q who s
  | .powerOnReset straps => Sys2Proof.Machine.execPowerOnReset straps s
  | .resetNAssert lowNs => Sys2Proof.Machine.execResetNAssert lowNs s
  | .bootReady => Sys2Proof.Machine.execBootReady s
  | .benchRst b => Sys2Proof.Machine.execBenchRst b s
  | .benchResetDone b => Sys2Proof.Machine.execBenchResetDone b s
  | .coreResetDone c => Sys2Proof.Machine.execCoreResetDone c s
  | .sysPwrWrite v => Sys2Proof.Machine.execSysPwrWrite v s
  | .powerStateChangeDone => Sys2Proof.Machine.execPowerStateChangeDone s
  | .benchPwrWrite b v => Sys2Proof.Machine.execBenchPwrWrite b v s
  | .benchPowerChangeDone b => Sys2Proof.Machine.execBenchPowerChangeDone b s
  | .benchClkWrite b v => Sys2Proof.Machine.execBenchClkWrite b v s
  | .benchPllLock b => Sys2Proof.Machine.execBenchPllLock b s
  | .thermalWarn sensor temp => Sys2Proof.Machine.execThermalWarn sensor temp s
  | .thermalTrip sensor temp => Sys2Proof.Machine.execThermalTrip sensor temp s
  | .railFault rail => Sys2Proof.Machine.execRailFault rail s
  | .clockUnlock island => Sys2Proof.Machine.execClockUnlock island s
  | .clockRelock island => Sys2Proof.Machine.execClockRelock island s
  | .refLoss => Sys2Proof.Machine.execRefLoss s
  | .foremanRestart code => Sys2Proof.Machine.execForemanRestart code s
  | .configUe store entry => Sys2Proof.Machine.execConfigUe store entry s
  | .mspFrameReceive f => Sys2Proof.Machine.execMspFrameReceive f s
  | .mbxGo v => Sys2Proof.Machine.execMbxGo v s
  | .info ch tag => Sys2Proof.Machine.execInfo ch tag s
  | .read ch tag addr count live busy => Sys2Proof.Machine.execRead ch tag addr count live busy s
  | .write ch tag addr count ws busy => Sys2Proof.Machine.execWrite ch tag addr count ws busy s
  | .halt ch tag core => Sys2Proof.Machine.execHalt ch tag core s
  | .coreHalted c => Sys2Proof.Machine.execCoreHalted c s
  | .resume ch tag core => Sys2Proof.Machine.execResume ch tag core s
  | .step ch tag core n => Sys2Proof.Machine.execStep ch tag core n s
  | .feed ch tag core bundle => Sys2Proof.Machine.execFeed ch tag core bundle s
  | .regget ch tag core cls num => Sys2Proof.Machine.execRegget ch tag core cls num s
  | .regset ch tag core cls num value => Sys2Proof.Machine.execRegset ch tag core cls num value s
  | .baud ch tag rate => Sys2Proof.Machine.execBaud ch tag rate s
  | .debugOpened => Sys2Proof.Machine.execDebugOpened s
  | .katChunkStart c => Sys2Proof.Machine.execKatChunkStart c s
  | .katChunkDone c bad => Sys2Proof.Machine.execKatChunkDone c bad s
  | .stripeBorrow n stripe => Sys2Proof.Machine.execStripeBorrow n stripe s
  | .stripeRelease r => Sys2Proof.Machine.execStripeRelease r s
  | .fabricProbe w dest => Sys2Proof.Machine.execFabricProbe w dest s
  | .probeReturn w value roundTrip inBound => Sys2Proof.Machine.execProbeReturn w value roundTrip inBound s
  | .counterReadClear off who n => Sys2Proof.Machine.execCounterReadClear off who n s
  | .registerWrite off who d => Sys2Proof.Machine.execRegisterWrite off who d s
  | .partnerSignalDetect p => Sys2Proof.Machine.execPartnerSignalDetect p s
  | .referenceReturn => Sys2Proof.Machine.execReferenceReturn s
  | .thermalResetHoldEnd => Sys2Proof.Machine.execThermalResetHoldEnd s
  | .reportIntervalEnd b => Sys2Proof.Machine.execReportIntervalEnd b s
  | .controlLoadReturn c => Sys2Proof.Machine.execControlLoadReturn c s
  | .perstNRelease => Sys2Proof.Machine.execPerstNRelease s

end Sys2Proof.Machine
end

