-- ==== Sys2Proof/Machine/Time.lean ====
section
/-! DEFINITION. What an empty queue does: time passes (assumption log 1). -/

namespace Sys2Proof.Machine

/-- The event timers are frozen (19 R576): their ends move with the timer. -/
def State.timersFrozen (s : State) : Bool := s.bit A.dbgCtl 0 && s.anyHalted

/-- Frozen windows and hold-offs last 1 µs longer. -/
def State.holdTimers (s : State) : State :=
  { s with evt := { s.evt with
      src := s.evt.src.map (fun e => (e.1, { e.2 with win := e.2.win.map (fun w => (w.1 + 1, w.2)) })),
      chold := s.evt.chold.map (fun e => (e.1, e.2 + 1)), hhold := s.evt.hhold.map (fun e => (e.1, e.2 + 1)) } }

/-- Unit time's own ns of the µs that has passed, beside the reference's 1,000 (11 R359). While it follows a LOCKED port it is slewed
towards that port's clock: 1 ns in 10 µs, 100 ppm, or not at all, as a free value says (log entry 18). Otherwise it runs at the
average frequency of the last 1,024 ms in which it followed one. -/
def State.utimeTick (s : State) : State :=
  let e := s.fld A.netCtl 0 4
  let n := s.net
  if e < 8 ∧ s.servo e = 3 then
    let off := (s.portTime e 0 : Int) - s.utime
    let by_ : Int := if s.timer % 10 = 0 ∧ Config.freeBit s.fresh then off.sign else 0
    let slew := n.slew + by_
    let hist := if s.timer % 1000 = 0 then (slew :: n.hist).take 1025 else n.hist
    ({ s with utime := ((s.utime : Int) + by_).toNat, net := { n with slew := slew, hist := hist } }).stir
  else
    let drift := n.hist.headD 0 - n.hist.getD 1024 0
    let k : Int := s.timer
    { s with utime := ((s.utime : Int) + k * drift / 1024000 - (k - 1) * drift / 1024000).toNat }

/-- A port in MASTER sends a Sync and its Follow_Up in class 7 every 2^SYNC s (11 R361, R377, 14 R476); SYNC is byte 30 of the
TIME_CONFIG packet. The µs in which they come is the model's choice (log entry 18). -/
def State.ptpSend (s : State) (e : Nat) : State :=
  let period := 1000000 * 2 ^ (sgn (bitsAt (s.ethPort e).proto.toNat 40 8) 8 + 7).toNat
  if s.servo e = 4 ∧ s.ethEn e ∧ s.ethLink e ∧ s.timer * 128 / period ≠ (s.timer - 1) * 128 / period then
    (s.enqueue e 7 (.ptp false)).enqueue e 7 (.ptp true)
  else s

/-- One µs of the always-on timer passes, and unit time with it (11 R358, R359, log entry 1). Without the reference neither does. -/
def idleTick (s : State) : State :=
  if s.sys.refLost then s
  else
    let s1 := ({ s with timer := s.timer + 1, utime := s.utime + 1000 }).utimeTick
    let s2 := if s1.timersFrozen then s1.holdTimers else s1
    let s3 := s2.within 29 (upTo 8 State.ptpSend s2)
    (s3.pmeAgain 0).pmeAgain 1

end Sys2Proof.Machine
end

