-- ==== Sys2Proof/Machine/Encode.lean ====
section
/-! DEFINITION. The encoder of core operations (06 R218, R219, 07 R235-R269, 08 R276-R293): the operation of a slot as a bundle
holds it, from the same tables that the decoder reads. -/

namespace Sys2Proof.Machine

/-- A long operation: P, L = 1, SLOT, COND and bits [31:9] (R219, R235). -/
def encLong (p : Bool) (slot : Nat) (cond : BitVec 4) (rest : Nat) : RawOp :=
  ⟨p, true, slot, b2n p + 2 + 2 ^ 2 * slot + 2 ^ 5 * cond.toNat + 2 ^ 9 * rest⟩

/-- A short operation: P, L = 0, SLOT and bits [15:5] (R219, R269). -/
def encShort (p : Bool) (slot rest : Nat) : RawOp := ⟨p, false, slot, b2n p + 2 ^ 2 * slot + 2 ^ 5 * rest⟩

/-- The two forms of an X-slot register operation. -/
def encX (p : Bool) (op sop : Nat) (x : XArgs) : RawOp :=
  if x.short then encShort p (4 + x.slot.val) (sop + 2 ^ 3 * x.rd.toNat + 2 ^ 7 * x.rb.toNat)
  else encLong p (4 + x.slot.val) x.cond (x.rd.toNat + 2 ^ 6 * x.ra.toNat + 2 ^ 12 * x.rb.toNat + 2 ^ 18 * op)

/-- A function of UNARY. -/
def encUnary (p : Bool) (uf : Nat) (x : XArgs) : RawOp :=
  encLong p (4 + x.slot.val) x.cond (x.rd.toNat + 2 ^ 6 * x.ra.toNat + 2 ^ 12 * uf + 2 ^ 18 * 0x1A)

/-- The two forms of a scalar memory operation. -/
def encL (p : Bool) (op sop : Nat) (x : LArgs) : RawOp :=
  if x.short then encShort p x.slot.val (sop + 2 ^ 2 * x.rt.toNat + 2 ^ 6 * x.areg.toNat + 2 ^ 9 * x.seg.toNat)
  else encLong p x.slot.val x.cond
    (op + 2 ^ 5 * x.rt.toNat + 2 ^ 11 * x.seg.toNat + 2 ^ 14 * x.areg.toNat + 2 ^ 18 * x.ext.toNat)

/-- What the vector memory operations share: OP, VT, SEG and AREG. -/
def encV (op : Nat) (x : VMemArgs) : Nat := op + 2 ^ 5 * x.vt.toNat + 2 ^ 11 * x.seg.toNat + 2 ^ 14 * x.areg.toNat

/-- A long K-slot operation by its function. -/
def encK (p : Bool) (fn : Nat) (cond : BitVec 4) (rest : Nat) : RawOp := encLong p 7 cond (1 + 2 * fn + 2 ^ 4 * rest)

/-- The two forms of a SYS function. -/
def encSys (p : Bool) (sfn : Nat) (x : SysArgs) : RawOp :=
  if x.short then encShort p 6 (1 + 2 ^ 2 * sfn) else encLong p 6 x.cond (2 ^ 3 * sfn + 2 ^ 7 * x.imm.toNat)

/-- The two forms of an M-slot register operation. -/
def encM (p : Bool) (op sop : Nat) (x : MArgs) : RawOp :=
  if x.short then encShort p (2 + x.slot.val) (sop + 2 ^ 3 * x.vd.toNat + 2 ^ 7 * x.vb.toNat)
  else encLong p (2 + x.slot.val) x.cond
    (x.vd.toNat + 2 ^ 5 * x.va.toNat + 2 ^ 10 * x.vb.toNat + 2 ^ 15 * x.pg.toNat + 2 ^ 18 * op)

/-- A function of VUN; the short VMOV. -/
def encVun (p : Bool) (uf : Nat) (x : MArgs) : RawOp :=
  if x.short then encShort p (2 + x.slot.val) (3 + 2 ^ 3 * x.vd.toNat + 2 ^ 7 * x.va.toNat)
  else encLong p (2 + x.slot.val) x.cond
    (x.vd.toNat + 2 ^ 5 * x.va.toNat + 2 ^ 10 * uf + 2 ^ 15 * x.pg.toNat + 2 ^ 18 * 0x0E)

/-- An accumulate form, or its short form. -/
def encAcc (p : Bool) (op sh : Nat) (x : AccArgs) : RawOp :=
  if x.short then encShort p (2 + x.slot.val) sh
  else encLong p (2 + x.slot.val) x.cond
    (x.vac.toNat + 2 ^ 5 * x.va.toNat + 2 ^ 10 * x.vb.toNat + 2 ^ 15 * x.pg.toNat + 2 ^ 18 * op)

/-- A transfer. -/
def encXfer (p : Bool) (fn : Nat) (x : XferArgs) : RawOp :=
  encLong p (2 + x.slot.val) x.cond
    (x.vd.toNat + 2 ^ 5 * x.rs.toNat + 2 ^ 11 * x.lane.toNat + 2 ^ 15 * fn + 2 ^ 18 * 0x16)

/-- A scalar fp32 operation. -/
def encF (p : Bool) (fn : Nat) (x : FArgs) : RawOp :=
  encLong p (2 + x.slot.val) x.cond
    (x.fd.toNat + 2 ^ 5 * x.fa.toNat + 2 ^ 10 * x.fb.toNat + 2 ^ 15 * fn + 2 ^ 18 * 0x1E)

/-- The operation of a well-formed core command, with its core and P as given; a command that is no core operation has none.
GEND's cycle is not encoded. -/
def encodeOp (p : Bool) (i : Instr) : Option (CoreId × RawOp) :=
  match i with
  | .add c x => some (c, encX p 0x00 0 x)
  | .addc c x => some (c, encX p 0x01 0 x)
  | .sub c x => some (c, encX p 0x02 1 x)
  | .subc c x => some (c, encX p 0x03 0 x)
  | .adds c x => some (c, encX p 0x04 0 x)
  | .subs c x => some (c, encX p 0x05 0 x)
  | .and c x => some (c, encX p 0x06 2 x)
  | .or c x => some (c, encX p 0x07 3 x)
  | .xor c x => some (c, encX p 0x08 4 x)
  | .andn c x => some (c, encX p 0x09 0 x)
  | .shl c x => some (c, encX p 0x0A 0 x)
  | .shr c x => some (c, encX p 0x0B 0 x)
  | .sar c x => some (c, encX p 0x0C 0 x)
  | .min c x => some (c, encX p 0x0D 0 x)
  | .max c x => some (c, encX p 0x0E 0 x)
  | .minu c x => some (c, encX p 0x0F 0 x)
  | .maxu c x => some (c, encX p 0x10 0 x)
  | .mul c x => some (c, encX p 0x11 0 x)
  | .mulh c x => some (c, encX p 0x12 0 x)
  | .mulq c x => some (c, encX p 0x13 0 x)
  | .mulw c x => some (c, encX p 0x14 0 x)
  | .div c x => some (c, encX p 0x15 0 x)
  | .divs c x => some (c, encX p 0x16 0 x)
  | .divu c x => some (c, encX p 0x17 0 x)
  | .rem c x => some (c, encX p 0x18 0 x)
  | .remu c x => some (c, encX p 0x19 0 x)
  | .neg c x => some (c, encUnary p 0x00 x)
  | .negs c x => some (c, encUnary p 0x01 x)
  | .abs c x => some (c, encUnary p 0x02 x)
  | .abss c x => some (c, encUnary p 0x03 x)
  | .not c x => some (c, encUnary p 0x04 x)
  | .clz c x => some (c, encUnary p 0x05 x)
  | .sext8 c x => some (c, encUnary p 0x06 x)
  | .sext16 c x => some (c, encUnary p 0x07 x)
  | .sext24 c x => some (c, encUnary p 0x08 x)
  | .rnd24 c x => some (c, encUnary p 0x09 x)
  | .popc c x => some (c, encUnary p 0x0A x)
  | .cmp c x => some (c,
      encLong p (4 + x.slot.val) x.cond (x.pd.toNat + 2 ^ 3 * x.cc.toNat + 2 ^ 6 * x.ra.toNat + 2 ^ 12 * x.rb.toNat + 2 ^ 18 * 0x1B))
  | .cmpi c x => some (c,
      encLong p (4 + x.slot.val) x.cond (x.ra.toNat + 2 ^ 6 * x.pd.toNat + 2 ^ 9 * x.cc.toNat + 2 ^ 12 * x.imm.toNat + 2 ^ 18 * 0x1F))
  | .addi c x => some (c,
      if x.short then encShort p (4 + x.slot.val) (6 + 2 ^ 3 * x.rd.toNat + 2 ^ 7 * (x.imm.toNat % 16))
      else encLong p (4 + x.slot.val) x.cond (x.rd.toNat + 2 ^ 6 * x.imm.toNat + 2 ^ 18 * 0x1C))
  | .logi c x => some (c,
      encLong p (4 + x.slot.val) x.cond (x.rd.toNat + 2 ^ 6 * x.lf.toNat + 2 ^ 8 * x.imm.toNat + 2 ^ 18 * 0x1D))
  | .shifti c x => some (c,
      encLong p (4 + x.slot.val) x.cond (x.rd.toNat + 2 ^ 6 * x.sf.toNat + 2 ^ 8 * x.amt.toNat + 2 ^ 18 * 0x1E))
  | .shli c x => some (c, encShort p (4 + x.slot.val) (7 + 2 ^ 3 * x.rd.toNat + 2 ^ 7 * x.imm.toNat))
  | .ldb c x => some (c, encL p 0x00 0 x)
  | .ldbu c x => some (c, encL p 0x01 0 x)
  | .ldh c x => some (c, encL p 0x02 0 x)
  | .ldhu c x => some (c, encL p 0x03 0 x)
  | .ldw c x => some (c, encL p 0x04 0 x)
  | .ldd c x => some (c, encL p 0x05 0 x)
  | .stb c x => some (c, encL p 0x06 0 x)
  | .sth c x => some (c, encL p 0x07 0 x)
  | .stw c x => some (c, encL p 0x08 1 x)
  | .std c x => some (c, encL p 0x09 0 x)
  | .ldwp c x => some (c, encL p 0x0A 2 x)
  | .stwp c x => some (c, encL p 0x0B 3 x)
  | .lddp c x => some (c, encL p 0x0C 0 x)
  | .stdp c x => some (c, encL p 0x0D 0 x)
  | .ldwx c x => some (c, encL p 0x0E 0 x)
  | .stwx c x => some (c, encL p 0x0F 0 x)
  | .segld c x => some (c, encL p 0x10 0 x)
  | .ldx c x => some (c, encL p 0x11 0 x)
  | .stx c x => some (c, encL p 0x12 0 x)
  | .lock c x => some (c, encL p 0x13 0 x)
  | .vld c x => some (c, encLong p x.slot.val x.cond (encV 0x18 x + 2 ^ 18 * x.pg.toNat + 2 ^ 21 * b2n x.pm))
  | .vst c x => some (c, encLong p x.slot.val x.cond (encV 0x19 x + 2 ^ 18 * x.pg.toNat + 2 ^ 21 * b2n x.pm))
  | .vldbc c x => some (c, encLong p x.slot.val x.cond (encV 0x1E x + 2 ^ 18 * x.pg.toNat + 2 ^ 21 * b2n x.pm))
  | .vlds c x => some (c, encLong p x.slot.val x.cond (encV 0x1A x + 2 ^ 18 * x.pg.toNat + 2 ^ 21 * x.nf.toNat))
  | .vsts c x => some (c, encLong p x.slot.val x.cond (encV 0x1B x + 2 ^ 18 * x.pg.toNat + 2 ^ 21 * x.nf.toNat))
  | .vgth c x => some (c, encLong p x.slot.val x.cond (encV 0x1C x + 2 ^ 9 * x.pg.toNat + 2 ^ 18 * x.vi.toNat))
  | .vsct c x => some (c, encLong p x.slot.val x.cond (encV 0x1D x + 2 ^ 9 * x.pg.toNat + 2 ^ 18 * x.vi.toNat))
  | .constant c x => some (c, encLong p 7 x.cond (2 * b2n x.hi + 2 ^ 2 * x.rd.toNat + 2 ^ 7 * x.imm.toNat))
  | .mov c x => some (c, if !x.short then encK p 0 x.cond (x.rd.toNat + 2 ^ 6 * x.ra.toNat)
      else if x.slot = 7 then encShort p 7 (1 + 2 ^ 2 * x.rd.toNat + 2 ^ 6 * x.ra.toNat)
      else encShort p x.slot.val (5 + 2 ^ 3 * x.rd.toNat + 2 ^ 7 * x.ra.toNat))
  | .movsr c x => some (c, encK p 1 x.cond (b2n x.dir + 2 * x.r.toNat + 2 ^ 7 * x.sr.toNat))
  | .mova c x => some (c, encK p 2 x.cond (x.af.toNat + 2 ^ 2 * x.a.toNat + 2 ^ 6 * (x.r.toNat + x.imm.toNat)))
  | .pop c x => some (c, encK p 3 x.cond (x.pd.toNat + 2 ^ 3 * x.pa.toNat + 2 ^ 6 * x.pb.toNat + 2 ^ 9 * x.pfn.toNat))
  | .pmov c x => some (c, encK p 4 x.cond (b2n x.dir + 2 * x.p.toNat + 2 ^ 4 * x.rp.toNat))
  | .movi c x => some (c, encShort p 7 (2 ^ 2 * x.rd.toNat + 2 ^ 6 * x.imm.toNat))
  | .pnot c x => some (c, encShort p 7 (2 + 2 ^ 2 * x.pd.toNat + 2 ^ 5 * x.pa.toNat))
  | .nop c x => some (c, encSys p 0 x)
  | .gend c x _ => some (c, encSys p 1 x)
  | .wait c x => some (c, encSys p 2 x)
  | .isync c x => some (c, encSys p 3 x)
  | .fence c x => some (c, encSys p 4 x)
  | .swev c x => some (c, encSys p 5 x)
  | .brk c x => some (c, encSys p 6 x)
  | .br c x => some (c, encLong p 6 x.cond (1 + 2 ^ 3 * b2n x.annul + 2 ^ 4 * x.disp.toNat))
  | .bri c x => some (c, encLong p 6 x.cond (2 + 2 ^ 3 * b2n x.annul + 2 ^ 4 * x.rs.toNat))
  | .brs c x => some (c, encShort p 6 (2 ^ 2 * x.disp.toNat))
  | .call c x => some (c, encLong p 6 x.cond (3 + 2 ^ 3 * x.at_.toNat + 2 ^ 7 * x.mask.toNat))
  | .ret c x => some (c, encLong p 6 x.cond (4 + 2 ^ 7 * x.mask.toNat))
  | .loop c x => some (c,
      encLong p 6 x.cond (5 + 2 ^ 3 * x.lv.toNat + 2 ^ 5 * b2n x.ci + 2 ^ 6 * x.cnt.toNat + 2 ^ 14 * x.len.toNat))
  | .vadd c x => some (c, encM p 0x00 0 x)
  | .vsub c x => some (c, encM p 0x01 0 x)
  | .vadds c x => some (c, encM p 0x02 0 x)
  | .vsubs c x => some (c, encM p 0x03 0 x)
  | .vand c x => some (c, encM p 0x04 0 x)
  | .vor c x => some (c, encM p 0x05 0 x)
  | .vxor c x => some (c, encM p 0x06 0 x)
  | .vshl c x => some (c, encM p 0x07 0 x)
  | .vshr c x => some (c, encM p 0x08 0 x)
  | .vsar c x => some (c, encM p 0x09 0 x)
  | .vmin c x => some (c, encM p 0x0A 0 x)
  | .vmax c x => some (c, encM p 0x0B 0 x)
  | .vmulq c x => some (c, encM p 0x0C 5 x)
  | .vmul c x => some (c, encM p 0x0D 0 x)
  | .vfadd c x => some (c, encM p 0x17 1 x)
  | .vfsub c x => some (c, encM p 0x18 0 x)
  | .vfmul c x => some (c, encM p 0x19 2 x)
  | .vfma c x => some (c, encM p 0x1A 0 x)
  | .vfms c x => some (c, encM p 0x1B 0 x)
  | .vfmin c x => some (c, encM p 0x1C 0 x)
  | .vfmax c x => some (c, encM p 0x1D 0 x)
  | .vneg c x => some (c, encVun p 0x00 x)
  | .vnegs c x => some (c, encVun p 0x01 x)
  | .vabs c x => some (c, encVun p 0x02 x)
  | .vabss c x => some (c, encVun p 0x03 x)
  | .vnot c x => some (c, encVun p 0x04 x)
  | .vmov c x => some (c, encVun p 0x05 x)
  | .vclz c x => some (c, encVun p 0x06 x)
  | .vsext24 c x => some (c, encVun p 0x07 x)
  | .vrnd24 c x => some (c, encVun p 0x08 x)
  | .vcvtqf c x => some (c, encVun p 0x09 x)
  | .vcvtfq c x => some (c, encVun p 0x0A x)
  | .vcvtif c x => some (c, encVun p 0x0B x)
  | .vcvtfi c x => some (c, encVun p 0x0C x)
  | .vfneg c x => some (c, encVun p 0x0D x)
  | .vfabs c x => some (c, encVun p 0x0E x)
  | .vcmp c x => some (c,
      encLong p (2 + x.slot.val) x.cond (x.pd.toNat + 2 ^ 3 * x.cc.toNat + 2 ^ 6 * x.va.toNat + 2 ^ 11 * x.vb.toNat + 2 ^ 18 * 0x0F))
  | .vfcmp c x => some (c,
      encLong p (2 + x.slot.val) x.cond (x.pd.toNat + 2 ^ 3 * x.cc.toNat + 2 ^ 6 * x.va.toNat + 2 ^ 11 * x.vb.toNat + 2 ^ 18 * 0x1F))
  | .vmacq c x => some (c, encAcc p 0x10 (4 + 2 ^ 3 * x.va.toNat + 2 ^ 7 * x.vb.toNat) x)
  | .vmsuq c x => some (c, encAcc p 0x11 (4 + 2 ^ 3 * x.va.toNat + 2 ^ 7 * x.vb.toNat) x)
  | .vmaci c x => some (c, encAcc p 0x12 (4 + 2 ^ 3 * x.va.toNat + 2 ^ 7 * x.vb.toNat) x)
  | .vacz c x => some (c, encAcc p 0x15 (6 + 2 ^ 3 * x.vac.toNat) x)
  | .vacx c x => some (c,
      encLong p (2 + x.slot.val) x.cond (x.vr.toNat + 2 ^ 5 * x.vac.toNat + 2 ^ 7 * x.sh.toNat + 2 ^ 15 * x.pg.toNat + 2 ^ 18 * 0x13))
  | .vacr c x => some (c,
      encLong p (2 + x.slot.val) x.cond (x.vr.toNat + 2 ^ 5 * x.vac.toNat + 2 ^ 7 * x.sh.toNat + 2 ^ 15 * x.pg.toNat + 2 ^ 18 * 0x14))
  | .vbcst c x => some (c, encXfer p 0 x)
  | .vins c x => some (c, encXfer p 1 x)
  | .vext c x => some (c, encXfer p 2 x)
  | .vlbc c x => some (c, encXfer p 3 x)
  | .vfsum c x => some (c, encXfer p 4 x)
  | .fadd c x => some (c, encF p 0 x)
  | .fsub c x => some (c, encF p 1 x)
  | .fmul c x => some (c, encF p 2 x)
  | .fma c x => some (c, encF p 3 x)
  | .fmin c x => some (c, encF p 4 x)
  | .fmax c x => some (c, encF p 5 x)
  | .fcmp c x => some (c, encF p 6 x)
  | .grainBoundary _ _ _ | .domainLock _ _ | .grainHoldover _ _ _ | .grainAcquireTimeout _ | .resync _ | .grainStep _ _
  | .domainEnable _ _ | .domainDisable _ _ | .rdGcntRead _ _ | .rdBtimeRead _ _ | .fabricGrainStart _ _
  | .benchGrainStart _ | .triggerFire _ | .triggerLatest _ | .coreDeadline _ | .egressLoad _ _ _
  | .slotReceive _ _ _ _ | .frameMark _ _ _ | .bclkLoss _ | .cgEnable _ _ | .cgDisable _ _ | .slotmapPageWrite _ _ _ _
  | .slotmapChangeover _ | .schedCarry _ _ _ _ | .watchCarry _ _ | .pushCarry _ | .egressCarry _ _ _ _
  | .fabricBankWrite _ _ _ _ _ | .routePageWrite _ _ _ | .fathomGroupIssue _ | .fathomOutput _ _ | .fathomDeadline _
  | .fathomPageWrite _ _ _ | .bankOwnWrite _ _ _ | .handoverEffect _ | .bankPwrWrite _ _ _ | .bankPowerChangeDone _
  | .hostWindowAccess _ _ _ _ | .bundleIssue _ _ | .lockEnd _ | .storeBufferWrite _ | .farWindowFill _
  | .otherBenchReturn _ _ | .tdigSend _ | .eventRaise | .coalesceWindowEnd _ | .eventStart | .eventProgramStart _
  | .waitWake _ | .evtClaimRead _ _ | .evtDoneWrite _ _ | .evtPendWrite _ _ | .evtGdisWrite _ _
  | .classCHoldoffEnd _ | .classHHoldoffEnd _ | .eventRecordWrite | .sqFetch _ _ | .completionWrite | .queueSignal _
  | .doorbell _ _ _ | .queueEnableWrite _ _ _ | .queueDisableWrite _ _ _ | .seqclr _ _ | .queueDrained _
  | .queueError _ _ | .hostIfrstWrite _ _ | .functionLevelReset _ | .ifrstDone _ _ | .perstNAssert | .d3hotEntry _ _
  | .d0Return _ | .pmeResend _ | .linkState _ _ _ _ _ | .hostFrameTx _ _ _ _ | .hostFrameRx _ _ _ _ _ _ | .cmdNop _ _
  | .ident _ _ | .time _ _ | .interfaceReset _ _ | .unitReset _ _ | .loadImage _ _ | .loadImageCopyDone _ _
  | .startCore _ _ | .stopCore _ _ | .bankAssign _ _ | .paramWrite _ _ | .routeCommit _ _ | .taplistCommit _ _
  | .slotmapCommit _ _ | .netstreamCommit _ _ | .chainstreamCommit _ _ | .dmaStart _ _ | .dmaStop _ _
  | .domainResync _ _ | .timeConfig _ _ | .queueSet _ _ | .queueEnable _ _ | .queueSeqclr _ _ | .propose _ _
  | .concur _ _ | .withdraw _ _ | .protectLapsed _ | .pair _ _ | .unpair _ _ | .takeoverDrill _ _ | .spallSet _ _
  | .spallStatus _ _ | .unlock _ _ | .monitor _ _ | .ethFrameReceive _ _ _ _ _ | .syncTimeout _ | .linkChange _ _
  | .netEgressLoad _ | .ethFrameTransmit _ _ | .netCbsWrite _ _ _ | .gclChange _ _ | .gateListSwitch _ _
  | .netUtimeRead _ | .chainPortUp _ _ | .chainPortDown _ | .portDelayMeasure _ _ | .nak _ _ | .badFrame _ _
  | .retransmitTimeout _ | .retryExhausted _ | .mark _ _ _ _ _ | .hb _ _ _ _ _ _ | .take _ _ _ _
  | .fenceFrame _ _ _ _ _ | .relay _ _ _ _ | .prep _ _ _ _ _ _ _ _ | .acc _ _ _ | .rej _ _ _ _ | .commit _ _ _
  | .abort _ _ _ | .tsamp _ _ _ | .tdig _ _ _ _ _ | .strm _ _ | .strmFlush _ | .cmd _ _ _ _ _ | .cpl _ _ _ _
  | .enumToken _ _ _ | .enumDone _ _ _ | .enumRequest _ | .chCtlEnum | .silencedRelease | .twinDriveOn | .dmaEnd _ _
  | .seti _ _ | .seth _ _ | .aluiAdd _ _ | .aluiXor _ _ | .move _ _ | .move2d _ _
  | .dmaTransactionComplete _ _ _ _ _ | .waitg _ _ | .waitgEnd _ | .dlvb _ _ _ | .dlve _ _ | .dmaDeadline _
  | .dmaFence _ _ | .jmp _ _ | .loopd _ _ | .hand _ _ | .rel _ _ | .signal _ _ | .inval _ _ | .dmaGo _ _
  | .dmaCtlStop _ _ | .dmaErraddrRead _ _ | .fwcInv _ | .fwcInvalidateDone _ | .scrubRead _ | .farStack _
  | .fmUeaddrRead _ _ | .powerOnReset _ | .resetNAssert _ | .bootReady | .benchRst _ | .benchResetDone _
  | .coreResetDone _ | .sysPwrWrite _ | .powerStateChangeDone | .benchPwrWrite _ _ | .benchPowerChangeDone _
  | .benchClkWrite _ _ | .benchPllLock _ | .thermalWarn _ _ | .thermalTrip _ _ | .railFault _ | .clockUnlock _
  | .clockRelock _ | .refLoss | .foremanRestart _ | .configUe _ _ | .mspFrameReceive _ | .mbxGo _ | .info _ _
  | .read _ _ _ _ _ _ | .write _ _ _ _ _ _ | .halt _ _ _ | .coreHalted _ | .resume _ _ _ | .step _ _ _ _
  | .feed _ _ _ _ | .regget _ _ _ _ _ | .regset _ _ _ _ _ _ | .baud _ _ _ | .debugOpened | .katChunkStart _
  | .katChunkDone _ _ | .stripeBorrow _ _ | .stripeRelease _ | .fabricProbe _ _ | .probeReturn _ _ _ _
  | .counterReadClear _ _ _ | .registerWrite _ _ _ | .partnerSignalDetect _ | .referenceReturn | .thermalResetHoldEnd
  | .reportIntervalEnd _ | .controlLoadReturn _ | .perstNRelease => none

/-- The parcels of an operation, the first at the lower address (R219). -/
def parcelsOf (r : RawOp) : List (BitVec 16) :=
  if r.long then [BitVec.ofNat 16 r.w, BitVec.ofNat 16 (r.w / 65536)] else [BitVec.ofNat 16 r.w]

/-- A command as its encoding shows it: GEND without its cycle. -/
def asCoded (i : Instr) : Instr :=
  match i with
  | .gend c x _ => .gend c x 0
  | i => i

end Sys2Proof.Machine
end

