-- ==== Sys2Proof/WellFormed.lean ====
section
/-! DEFINITION. Well-formed commands. For a core operation: an encoding spells it (07 R235-R269, 08 R276-R293). For another
command: it is the row it stands under (its opcode, its EN bit) and its lists have the lengths that its frame has. What a
command does where its operands break a rule of the manual is its meaning's concern. -/

namespace Sys2Proof

/-- Short forms name registers 0 to 15. -/
def shortReg {n : Nat} (r : BitVec n) : Bool := r.toNat < 16

/-- A register form: `sh`, the operation has a short form, RD ← RD op RB; `un`, it has no RB (R235, R269). -/
def XArgs.wf (sh un : Bool) (x : XArgs) : Bool :=
  (!x.short || (sh && x.cond == 0 && x.ra == x.rd && shortReg x.rd && shortReg x.rb)) && (!un || x.rb == 0)

/-- The short ADDI has a signed IMM4 (R269). -/
def AddiArgs.wf (x : AddiArgs) : Bool :=
  !x.short || (x.cond == 0 && shortReg x.rd && (x.imm.toNat < 8 || 4088 ≤ x.imm.toNat))

/-- A scalar memory operation: `sh`, the extension its short form stands for (R269). -/
def LArgs.wf (sh : Option (BitVec 5)) (x : LArgs) : Bool :=
  !x.short || (sh == some x.ext && x.cond == 0 && shortReg x.rt && x.seg.toNat < 4 && x.areg.toNat < 8)

/-- A plain, a structure and an indexed vector memory operation (R293). -/
def VMemArgs.plain (x : VMemArgs) : Bool := x.nf == 0 && x.vi == 0
def VMemArgs.struct (x : VMemArgs) : Bool := !x.pm && x.vi == 0
def VMemArgs.indexed (x : VMemArgs) : Bool := !x.pm && x.nf == 0 && x.vt.toNat < 16 && x.pg.toNat < 4

/-- MOV: the K slot's, long or short, or the short one of an X slot (R252, R269). -/
def MovArgs.wf (x : MovArgs) : Bool :=
  if x.short then x.cond == 0 && shortReg x.rd &&
    ((x.slot == 7 && x.ra.toNat < 32) || ((x.slot == 4 || x.slot == 5) && shortReg x.ra))
  else x.slot == 7

/-- MOVA: function 2 has an immediate, the others a register (R252). -/
def MovaArgs.wf (x : MovaArgs) : Bool := if x.af == 2 then x.r == 0 else x.imm == 0

/-- A SYS function; `sh`: it has a short form (R269). -/
def SysArgs.wf (sh : Bool) (x : SysArgs) : Bool := !x.short || (sh && x.cond == 0 && x.imm == 0)

/-- An M-slot register form with or without a short form VD ← VD op VB (R276, R292). -/
def MArgs.wf (sh : Bool) (x : MArgs) : Bool :=
  !x.short || (sh && x.cond == 0 && x.va == x.vd && shortReg x.vd && shortReg x.vb && x.pg == 0)

/-- A function of VUN; VMOV has a short form (R276, R292). -/
def MArgs.wfUnary (sh : Bool) (x : MArgs) : Bool :=
  x.vb == 0 && (!x.short || (sh && x.cond == 0 && shortReg x.vd && shortReg x.va && x.pg == 0))

/-- An accumulate form: `mac`, it is VMACQ, whose short form names va0; `clr`, it is VACZ (R276, R292). -/
def AccArgs.wf (mac clr : Bool) (x : AccArgs) : Bool :=
  !x.short || (x.cond == 0 && x.pg == 0 &&
    ((mac && x.vac == 0 && shortReg x.va && shortReg x.vb) || (clr && x.va == 0 && x.vb == 0)))

/-- A packet with the opcode of its row (14 R458). -/
def isOp (op : BitVec 16) (p : Packet) : Bool := p.setWidth 16 == op

/-- A register write with bit 0 as its row has it. -/
def setsBit0 (b : Bool) (v : Word) : Bool := v.getLsbD 0 == b

/-- A sequencer instruction with the operation code of its row (10 R343). An undefined code stands under SETI's row, an
undefined function of ALUI under that of its addition. -/
def isDma (opc : Nat) (w : DWord) : Bool := w.toNat / 2 ^ 58 == opc

/-- A host access of 1 to 64 bytes (13 R431). -/
def HostAcc.wf (a : HostAcc) : Bool :=
  match a with
  | .rd n => 1 ≤ n.val
  | .wr bs => 1 ≤ bs.length && bs.length ≤ 64

/-- 1 to 28 entries of a TSAMP or STRM frame (12 R388). -/
def frameLen (n : Nat) : Bool := 1 ≤ n && n ≤ 28

/-- The command is well-formed. -/
def Instr.wf (i : Instr) : Bool :=
  match i with
  | .domainEnable _ v | .cgEnable _ v | .queueEnableWrite _ _ v => setsBit0 true v
  | .domainDisable _ v | .cgDisable _ v | .queueDisableWrite _ _ v => setsBit0 false v
  | .fabricBankWrite w m _ _ _ => m != some w
  | .hostWindowAccess _ a _ _ => a.wf
  | .add _ x | .sub _ x | .and _ x | .or _ x | .xor _ x => x.wf true false
  | .addc _ x | .subc _ x | .adds _ x | .subs _ x | .andn _ x | .shl _ x | .shr _ x | .sar _ x | .min _ x | .max _ x
  | .minu _ x | .maxu _ x | .mul _ x | .mulh _ x | .mulq _ x | .mulw _ x | .div _ x | .divs _ x | .divu _ x | .rem _ x
  | .remu _ x => x.wf false false
  | .neg _ x | .negs _ x | .abs _ x | .abss _ x | .not _ x | .clz _ x | .sext8 _ x | .sext16 _ x | .sext24 _ x
  | .rnd24 _ x | .popc _ x => x.wf false true
  | .addi _ x => x.wf
  | .ldw _ x | .stw _ x => x.wf (some 0)
  | .ldwp _ x | .stwp _ x => x.wf (some 1)
  | .ldb _ x | .ldbu _ x | .ldh _ x | .ldhu _ x | .ldd _ x | .stb _ x | .sth _ x | .std _ x | .lddp _ x | .stdp _ x
  | .ldwx _ x | .stwx _ x | .segld _ x | .ldx _ x | .stx _ x | .lock _ x => x.wf none
  | .mov _ x => x.wf
  | .mova _ x => x.wf
  | .nop _ x | .gend _ x _ | .wait _ x | .isync _ x | .fence _ x | .brk _ x => x.wf true
  | .swev _ x => x.wf false
  | .vadd _ x | .vfadd _ x | .vfmul _ x | .vmulq _ x => x.wf true
  | .vsub _ x | .vadds _ x | .vsubs _ x | .vand _ x | .vor _ x | .vxor _ x | .vshl _ x | .vshr _ x | .vsar _ x
  | .vmin _ x | .vmax _ x | .vmul _ x | .vfsub _ x | .vfma _ x | .vfms _ x | .vfmin _ x | .vfmax _ x => x.wf false
  | .vmov _ x => x.wfUnary true
  | .vneg _ x | .vnegs _ x | .vabs _ x | .vabss _ x | .vnot _ x | .vclz _ x | .vsext24 _ x | .vrnd24 _ x | .vcvtqf _ x
  | .vcvtfq _ x | .vcvtif _ x | .vcvtfi _ x | .vfneg _ x | .vfabs _ x => x.wfUnary false
  | .vmacq _ x => x.wf true false
  | .vmsuq _ x | .vmaci _ x => x.wf false false
  | .vacz _ x => x.wf false true
  | .vld _ x | .vst _ x | .vldbc _ x => x.plain
  | .vlds _ x | .vsts _ x => x.struct
  | .vgth _ x | .vsct _ x => x.indexed
  | .cmdNop _ p => isOp 0x0000 p
  | .ident _ p => isOp 0x0001 p
  | .time _ p => isOp 0x0002 p
  | .interfaceReset _ p => isOp 0x0003 p
  | .unitReset _ p => isOp 0x0004 p
  | .loadImage _ p => isOp 0x0100 p
  | .startCore _ p => isOp 0x0101 p
  | .stopCore _ p => isOp 0x0102 p
  | .bankAssign _ p => isOp 0x0103 p
  | .paramWrite _ p => isOp 0x0200 p
  | .routeCommit _ p => isOp 0x0300 p
  | .taplistCommit _ p => isOp 0x0301 p
  | .slotmapCommit _ p => isOp 0x0400 p
  | .netstreamCommit _ p => isOp 0x0401 p
  | .chainstreamCommit _ p => isOp 0x0402 p
  | .dmaStart _ p => isOp 0x0403 p
  | .dmaStop _ p => isOp 0x0404 p
  | .domainResync _ p => isOp 0x0405 p
  | .timeConfig _ p => isOp 0x0406 p
  | .queueSet _ p => isOp 0x0500 p
  | .queueEnable _ p => isOp 0x0501 p
  | .queueSeqclr _ p => isOp 0x0502 p
  | .propose _ p => isOp 0x0600 p
  | .concur _ p => isOp 0x0601 p
  | .withdraw _ p => isOp 0x0602 p
  | .pair _ p => isOp 0x0700 p
  | .unpair _ p => isOp 0x0701 p
  | .takeoverDrill _ p => isOp 0x0702 p
  | .spallSet _ p => isOp 0x0800 p
  | .spallStatus _ p => isOp 0x0801 p
  | .unlock _ p => isOp 0x0900 p
  | .monitor _ p => isOp 0x0901 p
  | .tsamp _ _ es => frameLen es.length
  | .strm _ es => frameLen es.length
  | .tdig _ _ _ _ ds => ds.length == 8
  | .dmaEnd _ w => isDma 0x00 w
  | .seti _ w => isDma 0x01 w || 16 ≤ w.toNat / 2 ^ 58
  | .seth _ w => isDma 0x02 w
  | .aluiAdd _ w => isDma 0x03 w && aluiF w != 1
  | .aluiXor _ w => isDma 0x03 w && aluiF w == 1
  | .move _ w => isDma 0x04 w
  | .move2d _ w => isDma 0x05 w
  | .waitg _ w => isDma 0x06 w
  | .dlvb _ w _ => isDma 0x07 w
  | .dlve _ w => isDma 0x08 w
  | .dmaFence _ w => isDma 0x09 w
  | .jmp _ w => isDma 0x0A w
  | .loopd _ w => isDma 0x0B w
  | .hand _ w => isDma 0x0C w
  | .rel _ w => isDma 0x0D w
  | .signal _ w => isDma 0x0E w
  | .inval _ w => isDma 0x0F w
  | .write _ _ _ n ws _ => ws.length == n.toNat
  | .grainBoundary _ _ _ | .domainLock _ _ | .grainHoldover _ _ _ | .grainAcquireTimeout _ | .resync _ | .grainStep _ _
  | .rdGcntRead _ _ | .rdBtimeRead _ _ | .fabricGrainStart _ _ | .benchGrainStart _ | .triggerFire _ | .triggerLatest _
  | .coreDeadline _ | .egressLoad _ _ _ | .slotReceive _ _ _ _ | .frameMark _ _ _ | .bclkLoss _
  | .slotmapPageWrite _ _ _ _ | .slotmapChangeover _ | .schedCarry _ _ _ _ | .watchCarry _ _ | .pushCarry _
  | .egressCarry _ _ _ _ | .routePageWrite _ _ _ | .fathomGroupIssue _ | .fathomOutput _ _ | .fathomDeadline _
  | .fathomPageWrite _ _ _ | .bankOwnWrite _ _ _ | .handoverEffect _ | .bankPwrWrite _ _ _ | .bankPowerChangeDone _
  | .bundleIssue _ _ | .cmp _ _ | .cmpi _ _ | .logi _ _ | .shifti _ _ | .lockEnd _ | .storeBufferWrite _
  | .farWindowFill _ | .otherBenchReturn _ _ | .constant _ _ | .movsr _ _ | .pop _ _ | .pmov _ _ | .movi _ _ | .pnot _ _
  | .shli _ _ | .tdigSend _ | .br _ _ | .bri _ _ | .brs _ _ | .call _ _ | .ret _ _ | .loop _ _ | .vcmp _ _
  | .vfcmp _ _ | .vacx _ _ | .vacr _ _ | .fadd _ _ | .fsub _ _ | .fmul _ _ | .fma _ _ | .fmin _ _ | .fmax _ _
  | .fcmp _ _ | .vbcst _ _ | .vins _ _ | .vext _ _ | .vlbc _ _ | .vfsum _ _ | .eventRaise | .coalesceWindowEnd _
  | .eventStart | .eventProgramStart _ | .waitWake _ | .evtClaimRead _ _ | .evtDoneWrite _ _ | .evtPendWrite _ _
  | .evtGdisWrite _ _ | .classCHoldoffEnd _ | .classHHoldoffEnd _ | .eventRecordWrite | .sqFetch _ _
  | .completionWrite | .queueSignal _ | .doorbell _ _ _ | .seqclr _ _ | .queueDrained _ | .queueError _ _
  | .hostIfrstWrite _ _ | .functionLevelReset _ | .ifrstDone _ _ | .perstNAssert | .d3hotEntry _ _ | .d0Return _
  | .pmeResend _ | .linkState _ _ _ _ _ | .hostFrameTx _ _ _ _ | .hostFrameRx _ _ _ _ _ _ | .loadImageCopyDone _ _
  | .protectLapsed _ | .ethFrameReceive _ _ _ _ _ | .syncTimeout _ | .linkChange _ _ | .netEgressLoad _
  | .ethFrameTransmit _ _ | .netCbsWrite _ _ _ | .gclChange _ _ | .gateListSwitch _ _ | .netUtimeRead _
  | .chainPortUp _ _ | .chainPortDown _ | .portDelayMeasure _ _ | .nak _ _ | .badFrame _ _ | .retransmitTimeout _
  | .retryExhausted _ | .mark _ _ _ _ _ | .hb _ _ _ _ _ _ | .take _ _ _ _ | .fenceFrame _ _ _ _ _ | .relay _ _ _ _
  | .prep _ _ _ _ _ _ _ _ | .acc _ _ _ | .rej _ _ _ _ | .commit _ _ _ | .abort _ _ _ | .strmFlush _ | .cmd _ _ _ _ _
  | .cpl _ _ _ _ | .enumToken _ _ _ | .enumDone _ _ _ | .enumRequest _ | .chCtlEnum | .silencedRelease | .twinDriveOn
  | .dmaTransactionComplete _ _ _ _ _ | .waitgEnd _ | .dmaDeadline _ | .dmaGo _ _ | .dmaCtlStop _ _
  | .dmaErraddrRead _ _ | .fwcInv _ | .fwcInvalidateDone _ | .scrubRead _ | .farStack _ | .fmUeaddrRead _ _
  | .powerOnReset _ | .resetNAssert _ | .bootReady | .benchRst _ | .benchResetDone _ | .coreResetDone _
  | .sysPwrWrite _ | .powerStateChangeDone | .benchPwrWrite _ _ | .benchPowerChangeDone _ | .benchClkWrite _ _
  | .benchPllLock _ | .thermalWarn _ _ | .thermalTrip _ _ | .railFault _ | .clockUnlock _ | .clockRelock _ | .refLoss
  | .foremanRestart _ | .configUe _ _ | .mspFrameReceive _ | .mbxGo _ | .info _ _ | .read _ _ _ _ _ _ | .halt _ _ _
  | .coreHalted _ | .resume _ _ _ | .step _ _ _ _ | .feed _ _ _ _ | .regget _ _ _ _ _ | .regset _ _ _ _ _ _
  | .baud _ _ _ | .debugOpened | .katChunkStart _ | .katChunkDone _ _ | .stripeBorrow _ _ | .stripeRelease _
  | .fabricProbe _ _ | .probeReturn _ _ _ _ | .counterReadClear _ _ _ | .registerWrite _ _ _ | .partnerSignalDetect _
  | .referenceReturn | .thermalResetHoldEnd | .reportIntervalEnd _ | .controlLoadReturn _ | .perstNRelease => true
where
  /-- Field F of an ALUI (10 R343). -/
  aluiF (w : DWord) : Nat := w.toNat / 2 ^ 56 % 4

end Sys2Proof
end

