-- ==== Sys2Proof/Safety.lean ====
section
/-! DEFINITION. The terms in which the statements speak: when a command's own effect happens, what its results are, and what
a run must keep. -/

namespace Sys2Proof.Machine

/-! ## Operations of a bundle -/

/-- The operation takes effect (06 R199-R201, R228): its bundle is neither squashed nor faulted, and it is short, or its
condition is legal in the core's mode and true. -/
def OpRuns (s : State) (c : CoreId) (short : Bool) (cond : BitVec 4) : Prop :=
  (s.core c.val).squash = false ∧
    (short = true ∨ (condIllegal (s.predMode c.val) cond.toNat = false ∧ s.condTrue c.val cond.toNat = true))

/-- A result of a register form: RD at its latency, and the flags of the long form at the same latency (07 R237, R238,
R269). -/
def State.xResult (s : State) (c slot : Nat) (short : Bool) (lat rd : Nat) (v : Word) (f : FlgW) : State :=
  if short then s.schedS c slot lat rd v else (s.schedS c slot lat rd v).schedFlg c slot lat f

/-- The row does to every state what its result says: a register form of one family (07 R237). -/
def XRowIs (i : CoreId → XArgs → Instr) (lat : Nat) (v : Word → Word → Bool → Word) (f : Word → Word → Bool → FlgW) : Prop :=
  ∀ (s : State) (c : CoreId) (x : XArgs), OpRuns s c x.short x.cond →
    exec (i c x) s = .next (s.xResult c.val (4 + x.slot.val) x.short lat x.rd.toNat
      (v (s.sreg c.val x.ra.toNat) (s.sreg c.val x.rb.toNat) (bitAt (s.core c.val).flg.toNat 2))
      (f (s.sreg c.val x.ra.toNat) (s.sreg c.val x.rb.toNat) (bitAt (s.core c.val).flg.toNat 2)))

/-- Z, N, C and V all written; Z and N; Z, N and S set (06 R196). -/
def flags4 (r : Word) (c v : Bool) : FlgW := (0xF, b2n (r == 0) + 2 * b2n r.msb + 4 * b2n c + 8 * b2n v)
def flags2 (r : Word) : FlgW := (0x3, b2n (r == 0) + 2 * b2n r.msb)
def flags2S (r : Word) (sat : Bool) : FlgW := if sat then (0x13, 0x10 + b2n (r == 0) + 2 * b2n r.msb) else flags2 r
/-- S set where the operation saturated, else FLG unchanged. -/
def flagsS (sat : Bool) : FlgW := if sat then (0x10, 0x10) else (0, 0)

/-- An exact result fits in signed 32 bits; it held to that range. -/
def fits32 (x : Int) : Bool := -2147483648 ≤ x && x ≤ 2147483647
def clamp32 (x : Int) : Word := if x < -2147483648 then 0x80000000 else if 2147483647 < x then 0x7FFFFFFF else BitVec.ofInt 32 x

/-- A register form of the M slots: one family's lane result and sticky flags, from the lanes of VD, VA and VB (08 R273-R278):
the active lanes of VD are due at the latency, and the sticky flags of the active lanes together with them. -/
def VRowIs (i : CoreId → MArgs → Instr) (lat : Nat) (r : FpEnv → Word → Word → Word → Word) (f : FpEnv → Word → Word → Word → Nat) : Prop :=
  ∀ (s : State) (c : CoreId) (x : MArgs), OpRuns s c x.short x.cond →
    let d (k : Nat) := lane (s.vreg c.val x.vd.toNat) k
    let a (k : Nat) := lane (s.vreg c.val x.va.toNat) k
    let b (k : Nat) := lane (s.vreg c.val x.vb.toNat) k
    let on : BitVec 16 := if x.short then s.widthMask c.val else s.active c.val x.pg.toNat
    exec (i c x) s = .next ((s.schedV c.val (2 + x.slot.val) lat x.vd.toNat on
      (vecOf fun k => r (s.fpEnv c.val) (d k) (a k) (b k))).schedFlg c.val (2 + x.slot.val) lat
        (sticky (laneFlags on fun k => f (s.fpEnv c.val) (d k) (a k) (b k))))

/-- The change of accumulator `fn` of VAC by the values of VA and VB joins the changes in flight, to be seen 4 bundles later
(08 R282, R283). -/
def State.accDue (s : State) (c slot : Nat) (n : BitVec 2) (fn : AccFn) (x y : BitVec 512) (on : BitVec 16) : State :=
  s.setCore c { s.core c with accs := (s.core c).accs ++ [⟨(s.core c).t + 4, (s.core c).t, slot, n, fn, x, y, on⟩] }

/-! ## Commands of the units -/

/-- The command answers a next state of which P holds. -/
def Gives (i : Instr) (s : State) (P : State → Prop) : Prop := ∃ t, exec i s = .next t ∧ P t

/-- One raise more than before is on its way to the event controller (15 R486): its source, object and detail. -/
def Raised (s t : State) (src obj info : Nat) : Prop :=
  ∃ gs, t.raises = s.raises ++ [⟨src, BitVec.ofNat 16 obj, BitVec.ofNat 40 info, gs⟩]

/-! ## Command packets -/

/-- The rows of the opcodes of 14 with their codes. -/
inductive CommandRow : (Origin → Packet → Instr) → Nat → Prop
  | nop : CommandRow .cmdNop 0x0000
  | ident : CommandRow .ident 0x0001
  | time : CommandRow .time 0x0002
  | interfaceReset : CommandRow .interfaceReset 0x0003
  | unitReset : CommandRow .unitReset 0x0004
  | loadImage : CommandRow .loadImage 0x0100
  | startCore : CommandRow .startCore 0x0101
  | stopCore : CommandRow .stopCore 0x0102
  | bankAssign : CommandRow .bankAssign 0x0103
  | paramWrite : CommandRow .paramWrite 0x0200
  | routeCommit : CommandRow .routeCommit 0x0300
  | taplistCommit : CommandRow .taplistCommit 0x0301
  | slotmapCommit : CommandRow .slotmapCommit 0x0400
  | netstreamCommit : CommandRow .netstreamCommit 0x0401
  | chainstreamCommit : CommandRow .chainstreamCommit 0x0402
  | dmaStart : CommandRow .dmaStart 0x0403
  | dmaStop : CommandRow .dmaStop 0x0404
  | domainResync : CommandRow .domainResync 0x0405
  | timeConfig : CommandRow .timeConfig 0x0406
  | queueSet : CommandRow .queueSet 0x0500
  | queueEnable : CommandRow .queueEnable 0x0501
  | queueSeqclr : CommandRow .queueSeqclr 0x0502
  | propose : CommandRow .propose 0x0600
  | concur : CommandRow .concur 0x0601
  | withdraw : CommandRow .withdraw 0x0602
  | pair : CommandRow .pair 0x0700
  | unpair : CommandRow .unpair 0x0701
  | takeoverDrill : CommandRow .takeoverDrill 0x0702
  | spallSet : CommandRow .spallSet 0x0800
  | spallStatus : CommandRow .spallStatus 0x0801
  | unlock : CommandRow .unlock 0x0900
  | monitor : CommandRow .monitor 0x0901

/-- The packet is in progress, next to be validated, with nothing before it, and the foreman runs. -/
def State.inHand (s : State) (o : Origin) (p : Packet) (rest : List InProg) : Prop :=
  s.islandUp 33 = true ∧ s.cmds.inprog = ⟨o, pkSeq p, p, .ready, 0⟩ :: rest

/-- The command has ended: it is in progress no longer, and its completion waits to be written (13 R443, R460). -/
def State.ended (t : State) (o : Origin) (p : Packet) (v : Verdict) (result unit : Nat) (rest : List InProg) : Prop :=
  t.cmds.inprog = rest ∧ ∃ d ∈ t.cmds.done, d.origin = o ∧
    d.c = ⟨BitVec.ofNat 16 (pkOpcode p), BitVec.ofNat 8 v.status, 0, pkSeq p, BitVec.ofNat 16 unit,
      BitVec.ofNat 16 v.detail, BitVec.ofNat 32 v.aux, BitVec.ofNat 64 result⟩

/-! ## DMA sequencers -/

/-- The instruction w of operation code `op` stands at the PC of sequencer k and issues (10 R341, R343, R346). -/
def State.dmaAt (s : State) (k op : Nat) (w : DWord) : Prop :=
  s.islandUp 32 = true ∧ s.dmaState k = 1 ∧ (s.seqr k).wait = .none ∧ (s.seqr k).err = none ∧ (s.seqr k).stop = false ∧ s.dmaFrozen k = false ∧
    s.dmaInstr k (s.dmaPc k) = w ∧ diOpc w = op ∧ diIllegal w = false

/-- Sequencer k goes on with an instruction. -/
def State.dmaWent (t : State) (k next : Nat) : Prop :=
  t.dmaState k = 1 ∧ t.dmaPc k = next % 256 ∧ (t.seqr k).wait = .none

/-- Sequencer k has met an error (10 R348): ERROR, with the code, the instruction and the address, and the event of R354. -/
def State.dmaErred (t : State) (k code pc addr : Nat) : Prop :=
  t.dmaState k = 3 ∧ t.fld (A.dmaStat k) 16 4 = code ∧ t.dmaPc k = pc ∧ (t.seqr k).erraddr = BitVec.ofNat 64 addr ∧
    ∃ r ∈ t.raises, r.src = 514 + 4 * k ∧ r.obj = BitVec.ofNat 16 pc

/-! ## Accesses of a core -/

/-- No check of 06 R227 stops an access of `size` bytes at offset o through segment register g (07 R247). -/
def State.accessOk (s : State) (c g : Nat) (o : Int) (size : Nat) (wr : Bool) : Prop :=
  let d := (s.segReg c g).desc
  dV d = true ∧ (if wr then dW d = true ∧ dF d = false else dR d = true) ∧ 0 ≤ o ∧ o + size ≤ dLimit d + 1 ∧
    o % size = 0 ∧ (dClass d = 1 → size = 4 ∧ coreCtlOk c (dBase d + o.toNat) = true)

/-- The n bytes at address a lie in no store that core c has queued. -/
def State.notQueued (s : State) (c a n : Nat) : Prop :=
  ∀ e ∈ (s.core c).sb ++ (s.core c).sbWait, ∀ p ∈ e.parts, p.addr + p.size ≤ a ∨ a + n ≤ p.addr

/-- Core c reaches a bank of its own bench at address a at once: the bank is ON, the core owns it, and neither a borrowed
stripe nor another core's LOCK sequence holds the access (05 R172, R173, 09 R312). -/
def State.bankReady (s : State) (c a : Nat) : Prop :=
  regionOf c a = .own ∧ s.awake (bankOf a) = true ∧ s.owner (bankOf a) = c ∧ s.coreWaits c a = false

/-- Results join those in flight, each in its place. -/
def joins (old new : List PW) : List PW := new.foldl (fun l p => pwInsert p l) old

/-- A load row (07 R245-R249): `off` its segment offset, `res` its results from the bytes read as a little-endian number, `post`
whether it post-modifies. From a bank of the core's own bench the results are due 4 bundles later; a load from another bench
waits for the fabric (9), one from far memory that misses for the line (6), one from a control register for its return (4). -/
def LoadRowIs (i : CoreId → LArgs → Instr) (size : Nat) (off : State → CoreId → LArgs → Int) (ok : LArgs → Prop)
    (res : LArgs → Nat → List (Tgt × Word)) (post : Bool) : Prop :=
  ∀ (s : State) (c : CoreId) (x : LArgs), OpRuns s c x.short x.cond → ok x →
    s.accessOk c.val x.seg.toNat (off s c x) size false →
    let a := dBase (s.segReg c.val x.seg.toNat).desc + (off s c x).toNat
    let k := s.core c.val
    let moved : List PW := if post then [⟨k.t + 1, k.t, x.slot.val, .a x.areg,
      (s.areg c.val x.areg.toNat + BitVec.ofInt 32 (x.ext.toInt * size)).setWidth 512⟩] else []
    let waits (lat : Nat) (lines : List Nat) (t : State) : Prop :=
      (t.core c.val).pws = joins k.pws moved ∧ t.mem = s.mem ∧ ∃ j, (t.core c.val).jobs = k.jobs ++ [j] ∧
        j.due = k.t + lat ∧ j.lines = lines ∧ j.elems.map (fun e => (e.addr, e.size, e.data)) = [(a, size, none)]
    (s.bankReady c.val a → s.notQueued c.val a size → Gives (i c x) s fun t =>
      (t.core c.val).pws = joins k.pws (((res x (memNat s.mem a size)).map fun r =>
        (⟨k.t + 4, k.t, x.slot.val, r.1, r.2.setWidth 512⟩ : PW)) ++ moved) ∧
      (t.core c.val).jobs = k.jobs ∧ t.mem = s.mem) ∧
    (regionOf c.val a = .other → s.notQueued c.val a size → Gives (i c x) s (waits 9 [])) ∧
    (inFar a = true → s.fwcFind (c.val / 8) (a / 64) = none → Gives (i c x) s (waits 6 [a / 64])) ∧
    (inCtl a = true → Gives (i c x) s (waits 4 []))

/-- A store row (07 R245-R247, 09 R319): one entry joins the store buffer; memory is written when it leaves. -/
def StoreRowIs (i : CoreId → LArgs → Instr) (size : Nat) (off : State → CoreId → LArgs → Int) (ok : LArgs → Prop)
    (data : State → CoreId → LArgs → DWord) (post : Bool) : Prop :=
  ∀ (s : State) (c : CoreId) (x : LArgs), OpRuns s c x.short x.cond → ok x →
    s.accessOk c.val x.seg.toNat (off s c x) size true →
    let a := dBase (s.segReg c.val x.seg.toNat).desc + (off s c x).toNat
    let k := s.core c.val
    Gives (i c x) s fun t =>
      (t.core c.val).sb ++ (t.core c.val).sbWait =
        k.sb ++ k.sbWait ++ [⟨[⟨a, size, data s c x⟩], inCtl a, s.digGrain c.val, k.t⟩] ∧
      (k.sb.length < 8 → k.sbWait = [] → (t.core c.val).sbWait = []) ∧
      (t.core c.val).pws = joins k.pws (if post then [⟨k.t + 1, k.t, x.slot.val, .a x.areg,
        (s.areg c.val x.areg.toNat + BitVec.ofInt 32 (x.ext.toInt * size)).setWidth 512⟩] else []) ∧
      t.mem = s.mem

/-- A vector load row (08 R293-R298): `nf` its fields, `off` the segment offset of lane i of field j. In banks of the core's own
bench the active lanes of each field's register are due 4 bundles later, the inactive ones stay; with an element of another
bench the load waits for its return (9), with a far element that misses for the line (6). With no active lane there is no
access. -/
def VLoadRowIs (i : CoreId → VMemArgs → Instr) (ok : VMemArgs → Prop) (nf : VMemArgs → Nat)
    (off : State → CoreId → VMemArgs → Nat → Nat → Int) (step : State → CoreId → Nat) : Prop :=
  ∀ (s : State) (c : CoreId) (x : VMemArgs), OpRuns s c false x.cond → ok x → (s.areg c.val x.areg.toNat).toNat % 4 = 0 →
    let d := (s.segReg c.val x.seg.toNat).desc
    let m := s.active c.val x.pg.toNat
    let at_ (l j : Nat) : Nat := dBase d + (off s c x l j).toNat
    let all (P : Nat → Nat → Prop) : Prop := ∀ l j, l < 16 → m.getLsbD l = true → j < nf x → P l j
    let one (P : Nat → Nat → Prop) : Prop := ∃ l j, l < 16 ∧ m.getLsbD l = true ∧ j < nf x ∧ P l j
    let k := s.core c.val
    let moved : List PW := if x.pm then [⟨k.t + 1, k.t, x.slot.val, .a x.areg,
      (s.areg c.val x.areg.toNat + BitVec.ofNat 32 (step s c)).setWidth 512⟩] else []
    (all fun l j => s.accessOk c.val x.seg.toNat (off s c x l j) 4 false ∧ dClass d ≠ 1) →
    (m ≠ 0 → (all fun l j => s.bankReady c.val (at_ l j) ∧ s.notQueued c.val (at_ l j) 4) → Gives (i c x) s fun t =>
      (t.core c.val).pws = joins k.pws ((List.range (nf x)).map (fun j =>
        (⟨k.t + 4, k.t, x.slot.val, .v (x.vt + BitVec.ofNat 5 j) m, vecOf fun l =>
          if m.getLsbD l then BitVec.ofNat 32 (memNat s.mem (at_ l j) 4) else 0⟩ : PW)) ++ moved) ∧
      (t.core c.val).jobs = k.jobs ∧ t.mem = s.mem) ∧
    (m = 0 → Gives (i c x) s fun t => (t.core c.val).pws = joins k.pws moved ∧ (t.core c.val).jobs = k.jobs ∧ t.mem = s.mem) ∧
    ((one fun l j => regionOf c.val (at_ l j) = .other ∧ s.notQueued c.val (at_ l j) 4) → Gives (i c x) s fun t =>
      ∃ y, (t.core c.val).jobs = k.jobs ++ [y] ∧ y.due = k.t + 9 ∧ t.mem = s.mem) ∧
    ((all fun l j => regionOf c.val (at_ l j) ≠ .other) →
      (one fun l j => inFar (at_ l j) = true ∧ s.fwcFind (c.val / 8) (at_ l j / 64) = none) → Gives (i c x) s fun t =>
        ∃ y, (t.core c.val).jobs = k.jobs ++ [y] ∧ y.due = k.t + 6 ∧ y.lines ≠ [] ∧ t.mem = s.mem)

/-- A vector store row (08 R293-R298, 09 R319): the active elements by lane and field, one store-buffer entry for each line in the
order of its first element; memory is written when an entry leaves. -/
def VStoreRowIs (i : CoreId → VMemArgs → Instr) (ok : VMemArgs → Prop) (nf : VMemArgs → Nat)
    (off : State → CoreId → VMemArgs → Nat → Nat → Int) (step : State → CoreId → Nat) : Prop :=
  ∀ (s : State) (c : CoreId) (x : VMemArgs), OpRuns s c false x.cond → ok x → (s.areg c.val x.areg.toNat).toNat % 4 = 0 →
    let d := (s.segReg c.val x.seg.toNat).desc
    let m := s.active c.val x.pg.toNat
    let k := s.core c.val
    let ps : List StPart := ((List.range 16).filter (fun l => m.getLsbD l)).flatMap fun l => (List.range (nf x)).map fun j =>
      ⟨dBase d + (off s c x l j).toNat, 4, (lane (s.vreg c.val (x.vt.toNat + j)) l).setWidth 64⟩
    let lines := (ps.map (fun p => p.addr / 64)).eraseDups
    (∀ l j, l < 16 → m.getLsbD l = true → j < nf x →
      s.accessOk c.val x.seg.toNat (off s c x l j) 4 true ∧ dClass d ≠ 1) →
    Gives (i c x) s fun t =>
      (t.core c.val).sb ++ (t.core c.val).sbWait = k.sb ++ k.sbWait ++ lines.map (fun l =>
        let q := ps.filter (fun p => p.addr / 64 == l)
        ⟨q, q.any (fun p => inCtl p.addr), s.digGrain c.val, k.t⟩) ∧
      (t.core c.val).pws = joins k.pws (if x.pm then [⟨k.t + 1, k.t, x.slot.val, .a x.areg,
        (s.areg c.val x.areg.toNat + BitVec.ofNat 32 (step s c)).setWidth 512⟩] else []) ∧
      t.mem = s.mem

/-- An operation of the B slot stands where it may (07 R257, R266): its bundle is in no delay slot and no LOCK sequence, it is not
squashed, and its condition is legal in the core's mode. -/
def BFree (s : State) (c : CoreId) (cond : BitVec 4) : Prop :=
  (s.core c.val).squash = false ∧ (s.core c.val).ds = none ∧ s.inSeq c.val = false ∧
    condIllegal (s.predMode c.val) cond.toNat = false

/-- A transfer has been resolved (07 R256, R258, R259): the delay slot follows with the target, squashed where ANNUL holds and the
transfer is not taken; a conditional one trains its counter and GHR; a misprediction is counted. -/
def State.resolved (s t : State) (c : Nat) (cond : BitVec 4) (annul taken : Bool) (tgt : Word) (reg : Bool) : Prop :=
  let k := s.core c
  let i := (k.bpc.toNat / 4 % 4096) ^^^ k.ghr.toNat
  let n := (tget 1 k.pht i).toNat
  (t.core c).dslot = some (taken, tgt) ∧ (t.core c).annul = (annul && !taken) ∧ (t.core c).regTgt = (taken && reg) ∧
  (cond = 0 → (t.core c).pht = k.pht ∧ (t.core c).ghr = k.ghr) ∧
  (cond ≠ 0 → (t.core c).pht = tset 1 k.pht i (BitVec.ofNat 2 (if taken then min 3 (n + 1) else n - 1)) ∧
    (t.core c).ghr = (k.ghr <<< 1) ||| BitVec.ofNat 12 taken.toNat ∧
    (s.perfOn c = true → t.rawReg (coreReg A.perfMisp c) =
      if decide (2 ≤ n) = taken ∨ s.rawReg (coreReg A.perfMisp c) = 0xFFFFFFFF then s.rawReg (coreReg A.perfMisp c)
      else s.rawReg (coreReg A.perfMisp c) + 1))

/-- The bundle b at core c's pc can be fetched and issues (06 R217, R220, 09 R302): the bench runs, the core may issue, the bundle
lies in the code segment, its words are sound, and no stripe or lock holds its fetch. -/
def State.fetches (s : State) (c : CoreId) (b : FBundle) : Prop :=
  let k := s.core c.val
  s.islandUp (c.val / 8) = true ∧ canIssue k = true ∧ (k.regTgt = true → k.dslot = none → k.pc.toNat % 4 = 0) ∧
    b = s.bundleAt c.val k.pc.toNat ∧ s.inCode c.val b = true ∧ b.ue = false ∧
    s.coreWaits c.val (dBase k.code.desc + k.pc.toNat) = false

/-- The operations of a bundle, each of which decodes, none of which faults or halts the core at s1, the state in which the
bundle stands at E1 (06 R228, R229). -/
def State.sound (s1 : State) (c : CoreId) (b : FBundle) (is : List Instr) : Prop :=
  bundleOk (rawOps 8 b.parcels) = true ∧ (rawOps 8 b.parcels).map (decodeOp c) = is.map some ∧
    ∀ i ∈ is, s1.opFault c.val i = none ∧ s1.breaks c.val i = false

/-! ## Memory -/

/-- The rows that may change a byte of memory: what stores, copies, delivers or loses contents. No other row does. -/
def mayWriteMemory (i : Instr) : Bool :=
  match i with
  | .fabricGrainStart _ _ | .benchGrainStart _ | .fabricBankWrite _ _ _ _ _ | .fathomGroupIssue _ | .fathomOutput _ _
  | .bankPowerChangeDone _ | .hostWindowAccess _ _ _ _ | .bundleIssue _ _ | .stx _ _ | .lockEnd _ | .storeBufferWrite _ | .completionWrite
  | .loadImageCopyDone _ _ | .dmaEnd _ _ | .dmaTransactionComplete _ _ _ _ _ | .dlve _ _ | .dmaFence _ _ | .hand _ _
  | .rel _ _ | .inval _ _ | .dmaGo _ _ | .dmaCtlStop _ _ | .powerOnReset _ | .resetNAssert _ | .powerStateChangeDone
  | .sysPwrWrite _ | .benchPwrWrite _ _ | .benchPowerChangeDone _ | .thermalTrip _ _ | .railFault _ | .write _ _ _ _ _ _ | .feed _ _ _ _ | .debugOpened
  | .stripeRelease _ | .registerWrite _ _ _ | .referenceReturn => true
  | _ => false

/-! ## Frames of the chain link -/

/-- A frame with this header is accepted on the port as the one expected, and is for this unit (12 R387, R390). -/
def State.takes (s : State) (p : Nat) (h : ChHdr) : Prop :=
  s.portUp p = true ∧ h.lseq = (s.chPort p).rxSeq + 1 ∧ h.dst = 0xFF

/-- The port after such a frame: the next LSEQ expected, and what the partner has acknowledged kept no longer (R389, R390). -/
def State.took (s : State) (p : Nat) (h : ChHdr) : State :=
  s.setChPort p { s.chPort p with rxSeq := h.lseq, held := ackHeld (s.chPort p).held h.ack }

/-- A frame of this unit has left on a port. -/
def State.sentOn (t : State) (p : Nat) (body : Frame) : Prop := ∃ lseq ack src dst, Out.frame p lseq ack src dst false body ∈ t.out

end Sys2Proof.Machine
end

