-- ==== Sys2Proof/Certificates/Slice0/Obligations.lean ====
section
/-! DEFINITION. The statements for the provers, from the manual's numbered rules. -/

open Sys2Proof Sys2Proof.Machine

/-- 07 R237, R239: the additions and subtractions, wrapping and saturating, and ABS, with the flags that each writes.
Also the bitwise operations and the shifts, which write Z and N of the result; a shift amount is the whole of RB. -/
def Obligations.ScalarArithmetic : Prop :=
  (XRowIs .add 1 (fun a b _ => a + b)
      (fun a b _ => flags4 (a + b) (2 ^ 32 ≤ a.toNat + b.toNat) (!fits32 (a.toInt + b.toInt))) ∧
    XRowIs .addc 1 (fun a b c => a + b + BitVec.ofNat 32 (b2n c))
      (fun a b c => flags4 (a + b + BitVec.ofNat 32 (b2n c)) (2 ^ 32 ≤ a.toNat + b.toNat + b2n c)
        (!fits32 (a.toInt + b.toInt + (b2n c : Nat)))) ∧
    XRowIs .sub 1 (fun a b _ => a - b) (fun a b _ => flags4 (a - b) (b.toNat ≤ a.toNat) (!fits32 (a.toInt - b.toInt))) ∧
    XRowIs .subc 1 (fun a b c => a - b - BitVec.ofNat 32 (1 - b2n c))
      (fun a b c => flags4 (a - b - BitVec.ofNat 32 (1 - b2n c)) (b.toNat + (1 - b2n c) ≤ a.toNat)
        (!fits32 (a.toInt - b.toInt - ((1 - b2n c : Nat) : Int)))) ∧
    XRowIs .adds 1 (fun a b _ => clamp32 (a.toInt + b.toInt))
      (fun a b _ => flags2S (clamp32 (a.toInt + b.toInt)) (!fits32 (a.toInt + b.toInt))) ∧
    XRowIs .subs 1 (fun a b _ => clamp32 (a.toInt - b.toInt))
      (fun a b _ => flags2S (clamp32 (a.toInt - b.toInt)) (!fits32 (a.toInt - b.toInt))) ∧
    XRowIs .neg 1 (fun a _ _ => -a) (fun a _ _ => flags4 (-a) (a == 0) (a == 0x80000000)) ∧
    XRowIs .negs 1 (fun a _ _ => if a = 0x80000000 then 0x7FFFFFFF else -a)
      (fun a _ _ => flags2S (if a = 0x80000000 then 0x7FFFFFFF else -a) (a == 0x80000000)) ∧
    XRowIs .abs 1 (fun a _ _ => if a.toInt < 0 then -a else a)
      (fun a _ _ => (0xB, (flags2 (if a.toInt < 0 then -a else a)).2 + 8 * b2n (a == 0x80000000))) ∧
    XRowIs .abss 1 (fun a _ _ => if a = 0x80000000 then 0x7FFFFFFF else if a.toInt < 0 then -a else a)
      (fun a _ _ => flags2S (if a = 0x80000000 then 0x7FFFFFFF else if a.toInt < 0 then -a else a) (a == 0x80000000))) ∧
  (XRowIs .and 1 (fun a b _ => a &&& b) (fun a b _ => flags2 (a &&& b)) ∧
    XRowIs .or 1 (fun a b _ => a ||| b) (fun a b _ => flags2 (a ||| b)) ∧
    XRowIs .xor 1 (fun a b _ => a ^^^ b) (fun a b _ => flags2 (a ^^^ b)) ∧
    XRowIs .andn 1 (fun a b _ => a &&& ~~~b) (fun a b _ => flags2 (a &&& ~~~b)) ∧
    XRowIs .not 1 (fun a _ _ => ~~~a) (fun a _ _ => flags2 (~~~a)) ∧
    XRowIs .shl 1 (fun a b _ => BitVec.ofNat 32 (a.toNat * 2 ^ min b.toNat 32)) (fun a b _ => flags2 (BitVec.ofNat 32 (a.toNat * 2 ^ min b.toNat 32))) ∧
    XRowIs .shr 1 (fun a b _ => BitVec.ofNat 32 (a.toNat / 2 ^ min b.toNat 32)) (fun a b _ => flags2 (BitVec.ofNat 32 (a.toNat / 2 ^ min b.toNat 32))) ∧
    XRowIs .sar 1 (fun a b _ => BitVec.ofInt 32 (a.toInt / 2 ^ min b.toNat 32)) (fun a b _ => flags2 (BitVec.ofInt 32 (a.toInt / 2 ^ min b.toNat 32))))

/-- 07 R237, R239, R242: minimum and maximum, the products, the leading-zero and bit counts, the sign extensions and
RND24, with their latencies; S is the only flag that any of them writes. -/
def Obligations.ScalarMinMulBits : Prop :=
  XRowIs .min 1 (fun a b _ => if a.toInt < b.toInt then a else b) (fun _ _ _ => (0, 0)) ∧
  XRowIs .max 1 (fun a b _ => if a.toInt < b.toInt then b else a) (fun _ _ _ => (0, 0)) ∧
  XRowIs .minu 1 (fun a b _ => if a.toNat < b.toNat then a else b) (fun _ _ _ => (0, 0)) ∧
  XRowIs .maxu 1 (fun a b _ => if a.toNat < b.toNat then b else a) (fun _ _ _ => (0, 0)) ∧
  XRowIs .mul 3 (fun a b _ => a * b) (fun _ _ _ => (0, 0)) ∧
  XRowIs .mulh 3 (fun a b _ => (BitVec.ofInt 64 (a.toInt * b.toInt)).extractLsb' 32 32) (fun _ _ _ => (0, 0)) ∧
  XRowIs .mulq 3
    (fun a b _ => if a = 0x80000000 ∧ b = 0x80000000 then 0x7FFFFFFF
      else (BitVec.ofInt 64 (a.toInt * b.toInt + 2 ^ 30)).extractLsb' 31 32)
    (fun a b _ => flagsS (a == 0x80000000 && b == 0x80000000)) ∧
  (∀ (s : State) (c : CoreId) (x : XArgs), OpRuns s c x.short x.cond → x.rd.toNat % 2 = 0 →
    exec (.mulw c x) s = .next (s.schedPair c.val (4 + x.slot.val) 3 x.rd.toNat
      (BitVec.ofInt 64 ((s.sreg c.val x.ra.toNat).toInt * (s.sreg c.val x.rb.toNat).toInt)))) ∧
  XRowIs .clz 1 (fun a _ _ => BitVec.clz a) (fun _ _ _ => (0, 0)) ∧
  XRowIs .sext8 1 (fun a _ _ => (a.setWidth 8).signExtend 32) (fun _ _ _ => (0, 0)) ∧
  XRowIs .sext16 1 (fun a _ _ => (a.setWidth 16).signExtend 32) (fun _ _ _ => (0, 0)) ∧
  XRowIs .sext24 1 (fun a _ _ => (a.setWidth 24).signExtend 32) (fun _ _ _ => (0, 0)) ∧
  XRowIs .rnd24 1
    (fun a _ _ => if 0x7FFFFF80 ≤ a.toInt then 0x7FFFFF00 else (a + 0x80) &&& 0xFFFFFF00)
    (fun a _ _ => flagsS (0x7FFFFF80 ≤ a.toInt)) ∧
  XRowIs .popc 1 (fun a _ _ => BitVec.ofNat 32 ((List.range 32).countP (fun i => a.getLsbD i))) (fun _ _ _ => (0, 0))

/-- 07 R238, R241, R243: the divisions, in slot X0: the quotient truncated towards zero and the remainder with the sign
of the dividend; DIV of -2^31 by -1 sets V, DIVS of it saturates; by zero, where the divisor does not trap, the
results of R243's table with DZ set. -/
def Obligations.ScalarDivide : Prop :=
  let rows (i : CoreId → XArgs → Instr) (v : Word → Word → Word) (f : Word → Word → FlgW) : Prop :=
    ∀ (s : State) (c : CoreId) (x : XArgs), OpRuns s c x.short x.cond → x.slot = 0 →
      (s.sreg c.val x.rb.toNat ≠ 0 ∨ s.dzt c.val = false) →
      exec (i c x) s = .next (s.xResult c.val 4 x.short 12 x.rd.toNat
        (v (s.sreg c.val x.ra.toNat) (s.sreg c.val x.rb.toNat)) (f (s.sreg c.val x.ra.toNat) (s.sreg c.val x.rb.toNat)))
  let zero (a : Word) : Word := if a.toInt < 0 then 0x80000000 else 0x7FFFFFFF
  rows .div (fun a b => if b = 0 then zero a else BitVec.sdiv a b)
    (fun a b => if b = 0 then (0x28, 0x20) else (0x8, 8 * b2n (a == 0x80000000 && b == 0xFFFFFFFF))) ∧
  rows .divs (fun a b => if b = 0 then zero a else if a = 0x80000000 ∧ b = 0xFFFFFFFF then 0x7FFFFFFF else BitVec.sdiv a b)
    (fun a b => if b = 0 then (0x20, 0x20) else flagsS (a == 0x80000000 && b == 0xFFFFFFFF)) ∧
  rows .divu (fun a b => if b = 0 then 0xFFFFFFFF else a / b) (fun _ b => if b = 0 then (0x20, 0x20) else (0, 0)) ∧
  rows .rem (fun a b => if b = 0 then a else BitVec.srem a b) (fun _ b => if b = 0 then (0x20, 0x20) else (0, 0)) ∧
  rows .remu (fun a b => if b = 0 then a else a % b) (fun _ b => if b = 0 then (0x20, 0x20) else (0, 0))

/-- 07 R237, R240, R244, R251, R269: the comparisons write PD as all ones or all zeros, and the flags of a subtraction,
or of AND for TST; the operations with an immediate and the constants. -/
def Obligations.ScalarCompareImmediate : Prop :=
  (let holds (cc : Nat) (a b : Word) : Bool :=
      match cc with
      | 0 => a == b
      | 1 => a != b
      | 2 => a.slt b
      | 3 => a.sle b
      | 4 => a.ult b
      | 5 => a.ule b
      | _ => (a &&& b) != 0
    let flags (cc : Nat) (a b : Word) : FlgW :=
      if cc = 6 then flags2 (a &&& b) else flags4 (a - b) (b.ule a) (!fits32 (a.toInt - b.toInt))
    let next (s : State) (c slot pd cc : Nat) (a b : Word) : State :=
      (s.schedP c slot 1 pd (if holds cc a b then BitVec.allOnes 64 else 0)).schedFlg c slot 1 (flags cc a b)
    (∀ (s : State) (c : CoreId) (x : CmpArgs), OpRuns s c false x.cond → x.pd ≠ 0 → x.cc ≠ 7 →
      exec (.cmp c x) s = .next (next s c.val (4 + x.slot.val) x.pd.toNat x.cc.toNat (s.sreg c.val x.ra.toNat) (s.sreg c.val x.rb.toNat))) ∧
    (∀ (s : State) (c : CoreId) (x : CmpiArgs), OpRuns s c false x.cond → x.pd ≠ 0 → x.cc ≠ 7 →
      exec (.cmpi c x) s = .next (next s c.val (4 + x.slot.val) x.pd.toNat x.cc.toNat (s.sreg c.val x.ra.toNat) (x.imm.signExtend 32)))) ∧
  ((∀ (s : State) (c : CoreId) (x : AddiArgs), OpRuns s c x.short x.cond →
      let a := s.sreg c.val x.rd.toNat
      let b : Word := x.imm.signExtend 32
      exec (.addi c x) s = .next (s.xResult c.val (4 + x.slot.val) x.short 1 x.rd.toNat (a + b)
        (flags4 (a + b) (2 ^ 32 ≤ a.toNat + b.toNat) (!fits32 (a.toInt + b.toInt))))) ∧
    (∀ (s : State) (c : CoreId) (x : LogiArgs), OpRuns s c false x.cond → x.lf ≠ 3 →
      let a := s.sreg c.val x.rd.toNat
      let b : Word := x.imm.setWidth 32
      let r : Word := if x.lf = 0 then a &&& b else if x.lf = 1 then a ||| b else a ^^^ b
      exec (.logi c x) s = .next (s.xResult c.val (4 + x.slot.val) false 1 x.rd.toNat r (flags2 r))) ∧
    (∀ (s : State) (c : CoreId) (x : ShiftiArgs), OpRuns s c false x.cond → x.sf ≠ 3 →
      let a := s.sreg c.val x.rd.toNat
      let r : Word := if x.sf = 0 then BitVec.ofNat 32 (a.toNat * 2 ^ min x.amt.toNat 32)
        else if x.sf = 1 then BitVec.ofNat 32 (a.toNat / 2 ^ min x.amt.toNat 32) else BitVec.ofInt 32 (a.toInt / 2 ^ min x.amt.toNat 32)
      exec (.shifti c x) s = .next (s.xResult c.val (4 + x.slot.val) false 1 x.rd.toNat r (flags2 r))) ∧
    (∀ (s : State) (c : CoreId) (x : ShliArgs), (s.core c.val).squash = false →
      exec (.shli c x) s = .next (s.schedS c.val (4 + x.slot.val) 1 x.rd.toNat (s.sreg c.val x.rd.toNat <<< x.imm.toNat))) ∧
    (∀ (s : State) (c : CoreId) (x : ConstArgs), OpRuns s c false x.cond →
      exec (.constant c x) s = .next (s.schedS c.val 7 1 x.rd.toNat
        (if x.hi then (x.imm.setWidth 32 <<< 16) ||| (s.sreg c.val x.rd.toNat &&& 0xFFFF) else x.imm.signExtend 32))) ∧
    (∀ (s : State) (c : CoreId) (x : MoviArgs), (s.core c.val).squash = false →
      exec (.movi c x) s = .next (s.schedS c.val 7 1 x.rd.toNat (x.imm.signExtend 32))))

/-- 07 R252, R253, R269, 06 R192: the moves between scalar, address, special and predicate registers and the predicate
operations. p0 reads as all ones. -/
def Obligations.MovesAndPredicates : Prop :=
  (∀ (s : State) (c : CoreId) (x : MovArgs), OpRuns s c x.short x.cond →
    exec (.mov c x) s = .next (s.schedS c.val x.slot.val 1 x.rd.toNat (s.sreg c.val x.ra.toNat))) ∧
  (∀ (s : State) (c : CoreId) (x : MovsrArgs), OpRuns s c false x.cond → x.dir = false → srReads x.sr.toNat = true →
    exec (.movsr c x) s = .next (s.schedS c.val 7 1 x.r.toNat (s.srValue c.val x.sr.toNat))) ∧
  (∀ (s : State) (c : CoreId) (x : MovsrArgs), OpRuns s c false x.cond → x.dir = true → srWrites x.sr.toNat = true →
    (x.sr = 0 → s.sreg c.val x.r.toNat &&& 0xFFFCF0C0 = 0) →
    exec (.movsr c x) s = .next (s.sched c.val 7 1 (srTgt x.sr.toNat) ((s.sreg c.val x.r.toNat).setWidth 512))) ∧
  (∀ (s : State) (c : CoreId) (x : MovaArgs), OpRuns s c false x.cond →
    (x.af = 0 → exec (.mova c x) s = .next (s.schedA c.val 7 x.a.toNat (s.sreg c.val x.r.toNat))) ∧
    (x.af = 1 → exec (.mova c x) s = .next (s.schedS c.val 7 1 x.r.toNat (s.areg c.val x.a.toNat))) ∧
    (x.af = 2 → exec (.mova c x) s = .next (s.schedA c.val 7 x.a.toNat (s.areg c.val x.a.toNat + x.imm.signExtend 32)))) ∧
  (∀ (s : State) (c : CoreId) (x : PopArgs), OpRuns s c false x.cond → x.pd ≠ 0 → (4 ≤ x.pfn.toNat → x.pb = 0) →
    (6 ≤ x.pfn.toNat → x.pa = 0) →
    let a := s.preg c.val x.pa.toNat
    let b := s.preg c.val x.pb.toNat
    let r : DWord := match x.pfn.toNat with
      | 0 => a &&& b
      | 1 => a ||| b
      | 2 => a ^^^ b
      | 3 => a &&& ~~~b
      | 4 => ~~~a
      | 5 => a
      | 6 => 0xFFFFFFFFFFFFFFFF
      | _ => 0
    exec (.pop c x) s = .next (s.schedP c.val 7 1 x.pd.toNat r)) ∧
  (∀ (s : State) (c : CoreId) (x : PmovArgs), OpRuns s c false x.cond → x.rp.toNat % 2 = 0 →
    (x.dir = false → exec (.pmov c x) s = .next (s.schedPair c.val 7 1 x.rp.toNat (s.preg c.val x.p.toNat))) ∧
    (x.dir = true → x.p ≠ 0 → exec (.pmov c x) s = .next (s.schedP c.val 7 1 x.p.toNat
      (s.sreg c.val (x.rp.toNat + 1) ++ s.sreg c.val x.rp.toNat)))) ∧
  (∀ (s : State) (c : CoreId) (x : PnotArgs), (s.core c.val).squash = false → x.pd ≠ 0 →
    exec (.pnot c x) s = .next (s.schedP c.val 7 1 x.pd.toNat (~~~(s.preg c.val x.pa.toNat)))) ∧
  (∀ (s : State) (c : Nat), s.preg c 0 = 0xFFFFFFFFFFFFFFFF)

/-- 08 R278, R279: the integer and fixed-point lane operations: each active lane as the scalar operation computes it, S
where a lane saturates, and no other flag. -/
def Obligations.VectorInteger : Prop :=
  VRowIs .vadd 2 (fun _ _ a b => a + b) (fun _ _ _ _ => 0) ∧
  VRowIs .vsub 2 (fun _ _ a b => a - b) (fun _ _ _ _ => 0) ∧
  VRowIs .vadds 2 (fun _ _ a b => clamp32 (a.toInt + b.toInt)) (fun _ _ a b => if fits32 (a.toInt + b.toInt) then 0 else 0x10) ∧
  VRowIs .vsubs 2 (fun _ _ a b => clamp32 (a.toInt - b.toInt)) (fun _ _ a b => if fits32 (a.toInt - b.toInt) then 0 else 0x10) ∧
  VRowIs .vand 2 (fun _ _ a b => a &&& b) (fun _ _ _ _ => 0) ∧
  VRowIs .vor 2 (fun _ _ a b => a ||| b) (fun _ _ _ _ => 0) ∧
  VRowIs .vxor 2 (fun _ _ a b => a ^^^ b) (fun _ _ _ _ => 0) ∧
  VRowIs .vshl 2 (fun _ _ a b => BitVec.ofNat 32 (a.toNat * 2 ^ min b.toNat 32)) (fun _ _ _ _ => 0) ∧
  VRowIs .vshr 2 (fun _ _ a b => BitVec.ofNat 32 (a.toNat / 2 ^ min b.toNat 32)) (fun _ _ _ _ => 0) ∧
  VRowIs .vsar 2 (fun _ _ a b => BitVec.ofInt 32 (a.toInt / 2 ^ min b.toNat 32)) (fun _ _ _ _ => 0) ∧
  VRowIs .vmin 2 (fun _ _ a b => if a.toInt < b.toInt then a else b) (fun _ _ _ _ => 0) ∧
  VRowIs .vmax 2 (fun _ _ a b => if a.toInt < b.toInt then b else a) (fun _ _ _ _ => 0) ∧
  VRowIs .vmulq 4
    (fun _ _ a b => if a = 0x80000000 ∧ b = 0x80000000 then 0x7FFFFFFF
      else (BitVec.ofInt 64 (a.toInt * b.toInt + 2 ^ 30)).extractLsb' 31 32)
    (fun _ _ a b => if a = 0x80000000 ∧ b = 0x80000000 then 0x10 else 0) ∧
  VRowIs .vmul 4 (fun _ _ a b => a * b) (fun _ _ _ _ => 0) ∧
  VRowIs .vneg 2 (fun _ _ a _ => -a) (fun _ _ _ _ => 0) ∧
  VRowIs .vnegs 2 (fun _ _ a _ => if a = 0x80000000 then 0x7FFFFFFF else -a) (fun _ _ a _ => if a = 0x80000000 then 0x10 else 0) ∧
  VRowIs .vabs 2 (fun _ _ a _ => if a.toInt < 0 then -a else a) (fun _ _ _ _ => 0) ∧
  VRowIs .vabss 2 (fun _ _ a _ => if a = 0x80000000 then 0x7FFFFFFF else if a.toInt < 0 then -a else a)
    (fun _ _ a _ => if a = 0x80000000 then 0x10 else 0) ∧
  VRowIs .vnot 2 (fun _ _ a _ => ~~~a) (fun _ _ _ _ => 0) ∧
  VRowIs .vmov 2 (fun _ _ a _ => a) (fun _ _ _ _ => 0) ∧
  VRowIs .vclz 2 (fun _ _ a _ => BitVec.clz a) (fun _ _ _ _ => 0) ∧
  VRowIs .vsext24 2 (fun _ _ a _ => (a.setWidth 24).signExtend 32) (fun _ _ _ _ => 0) ∧
  VRowIs .vrnd24 2 (fun _ _ a _ => if 0x7FFFFF80 ≤ a.toInt then 0x7FFFFF00 else (a + 0x80) &&& 0xFFFFFF00)
    (fun _ _ a _ => if 0x7FFFFF80 ≤ a.toInt then 0x10 else 0)

/-- 08 R279, R286, R288: the fp32 lane operations and the scalar fp32 form, under FLG.RM as it stands at issue and FTZ
in effect: the sum, difference, product and fused sum of the operands as `fpAdd` and the functions beside it round
them, the conversions, sign changes, minimum and maximum; a scalar result goes to lane 0 alone. -/
def Obligations.FloatRows : Prop :=
  VRowIs .vcvtqf 5 (fun v _ a _ => (fpOfInt v a 31).1) (fun v _ a _ => (fpOfInt v a 31).2) ∧
  VRowIs .vcvtfq 5 (fun v _ a _ => (fpToInt v a 31).1) (fun v _ a _ => cvtFlags 0x10 (fpToInt v a 31).2) ∧
  VRowIs .vcvtif 5 (fun v _ a _ => (fpOfInt v a 0).1) (fun v _ a _ => (fpOfInt v a 0).2) ∧
  VRowIs .vcvtfi 5 (fun v _ a _ => (fpToInt v a 0).1) (fun v _ a _ => cvtFlags 0x100 (fpToInt v a 0).2) ∧
  VRowIs .vfneg 2 (fun v _ a _ => fpNeg v a) (fun _ _ _ _ => 0) ∧
  VRowIs .vfabs 2 (fun v _ a _ => fpAbs v a) (fun _ _ _ _ => 0) ∧
  VRowIs .vfadd 5 (fun v _ a b => (fpAdd v a b).1) (fun v _ a b => (fpAdd v a b).2) ∧
  VRowIs .vfsub 5 (fun v _ a b => (fpSub v a b).1) (fun v _ a b => (fpSub v a b).2) ∧
  VRowIs .vfmul 5 (fun v _ a b => (fpMul v a b).1) (fun v _ a b => (fpMul v a b).2) ∧
  VRowIs .vfma 5 (fun v d a b => (fpFma v d a b).1) (fun v d a b => (fpFma v d a b).2) ∧
  VRowIs .vfms 5 (fun v d a b => (fpFms v d a b).1) (fun v d a b => (fpFms v d a b).2) ∧
  VRowIs .vfmin 2 (fun v _ a b => (fpMinMax v false a b).1) (fun v _ a b => (fpMinMax v false a b).2) ∧
  VRowIs .vfmax 2 (fun v _ a b => (fpMinMax v true a b).1) (fun v _ a b => (fpMinMax v true a b).2) ∧
  (∀ (s : State) (c : CoreId) (x : FArgs), OpRuns s c false x.cond →
    let v := s.fpEnv c.val
    let d := s.freg c.val x.fd.toNat
    let a := s.freg c.val x.fa.toNat
    let b := s.freg c.val x.fb.toNat
    let next (lat : Nat) (r : Word × Nat) : Host.Outcome State Fault Refusal :=
      .next ((s.schedV c.val (2 + x.slot.val) lat x.fd.toNat 1 (r.1.setWidth 512)).schedFlg c.val (2 + x.slot.val) lat (r.2, r.2))
    exec (.fadd c x) s = next 5 (fpAdd v a b) ∧
    exec (.fsub c x) s = next 5 (fpSub v a b) ∧
    exec (.fmul c x) s = next 5 (fpMul v a b) ∧
    exec (.fma c x) s = next 5 (fpFma v d a b) ∧
    exec (.fmin c x) s = next 2 (fpMinMax v false a b) ∧
    exec (.fmax c x) s = next 2 (fpMinMax v true a b))

/-- 08 R287: what the rounded fp32 operations return at the edges: every NaN result is 0x7FC0_0000, a signalling NaN, ∞
- ∞ and 0 × ∞ set FIV (0x100); addition and multiplication do not depend on the order of their operands; adding +0
to a number that is neither zero nor subnormal, and multiplying it by 1, return it without a flag. -/
def Obligations.FloatEdges : Prop :=
  let nan (w : Word) : Prop := w &&& 0x7F800000 = 0x7F800000 ∧ w &&& 0x007FFFFF ≠ 0
  let quiet (w : Word) : Bool := w.getLsbD 22
  let normal (w : Word) : Prop := w &&& 0x7F800000 ≠ 0 ∧ w &&& 0x7F800000 ≠ 0x7F800000
  ∀ (v : FpEnv) (a b : Word),
    (nan a → nan b → fpAdd v a b = (0x7FC00000, if quiet a && quiet b then 0 else 0x100)) ∧
    (nan a → ¬ nan b → fpAdd v a b = (0x7FC00000, if quiet a then 0 else 0x100) ∧
      fpSub v a b = fpAdd v a b ∧ fpMul v a b = fpAdd v a b) ∧
    (fpAdd v 0x7F800000 0xFF800000 = (0x7FC00000, 0x100)) ∧
    (fpMul v 0x7F800000 0 = (0x7FC00000, 0x100)) ∧
    (fpAdd v a b = fpAdd v b a) ∧ (fpMul v a b = fpMul v b a) ∧
    (normal a → fpAdd v a 0 = (a, 0) ∧ fpMul v a 0x3F800000 = (a, 0)) ∧
    (nan a → fpMinMax v true a b = (if isNan (fpRead v.ftz b) then 0x7FC00000 else fpClean v b,
      if quiet a && (quiet b || !isNan (fpRead v.ftz b)) then 0 else 0x100))

/-- 08 R280, R281, R288: the compares. A lane of VCMP and VFCMP writes bits 4i to 4i + 3 of PD within the width, FCMP
the flags of the relation. -/
def Obligations.VectorCompare : Prop :=
  let cmp (cc : Nat) (a b : Word) : Bool :=
    match cc with
    | 0 => a == b
    | 1 => a != b
    | 2 => a.slt b
    | 3 => a.sle b
    | 4 => a.ult b
    | 5 => a.ule b
    | _ => (a &&& b) != 0
  (∀ (s : State) (c : CoreId) (x : MCmpArgs), OpRuns s c false x.cond → x.pd ≠ 0 → x.cc ≠ 7 →
    exec (.vcmp c x) s = .next (s.schedP c.val (2 + x.slot.val) 2 x.pd.toNat
      (predOf fun i => i < s.width c.val && cmp x.cc.toNat (lane (s.vreg c.val x.va.toNat) i) (lane (s.vreg c.val x.vb.toNat) i)))) ∧
  (∀ (s : State) (c : CoreId) (x : MCmpArgs), OpRuns s c false x.cond → x.pd ≠ 0 → x.cc.toNat ≤ 4 →
    let r (i : Nat) := fpCmp (s.fpEnv c.val) x.cc.toNat (lane (s.vreg c.val x.va.toNat) i) (lane (s.vreg c.val x.vb.toNat) i)
    exec (.vfcmp c x) s = .next ((s.schedP c.val (2 + x.slot.val) 2 x.pd.toNat (predOf fun i => i < s.width c.val && (r i).1)).schedFlg
      c.val (2 + x.slot.val) 2 (sticky (laneFlags (s.widthMask c.val) fun i => (r i).2)))) ∧
  (∀ (f : Nat → Bool) (i j : Nat), i < 16 → j < 4 → (predOf f).getLsbD (4 * i + j) = f i) ∧
  (∀ (s : State) (c : CoreId) (x : FArgs), OpRuns s c false x.cond → x.fd = 0 →
    let a := fpRead (s.ftz c.val) (s.freg c.val x.fa.toNat)
    let b := fpRead (s.ftz c.val) (s.freg c.val x.fb.toNat)
    let iv : Nat := if isSnan a || isSnan b then 0x100 else 0
    let rel : Nat := if isNan a || isNan b then 0xC else if fpLess a b then 0x2 else if fpEqual a b then 0x5 else 0x4
    exec (.fcmp c x) s = .next (s.schedFlg c.val (2 + x.slot.val) 2 (0xF + iv, rel + iv)))

/-- 08 R282-R285, R290, R291: the accumulator operations: a change joins those in flight; VACX reads the accumulator as
it stands, shifted right with rounding half upwards and saturated. The transfers between lanes and registers, and
VFSUM. -/
def Obligations.AccumulatorsAndTransfers : Prop :=
  ((∀ (s : State) (c : CoreId) (x : AccArgs), OpRuns s c x.short x.cond →
      let on : BitVec 16 := if x.short then s.widthMask c.val else s.active c.val x.pg.toNat
      let next (fn : AccFn) : Host.Outcome State Fault Refusal :=
        .next (s.accDue c.val (2 + x.slot.val) x.vac fn (s.vreg c.val x.va.toNat) (s.vreg c.val x.vb.toNat) on)
      exec (.vmacq c x) s = next .mac ∧ exec (.vmsuq c x) s = next .msu ∧ exec (.vmaci c x) s = next .maci ∧
      (x.va = 0 → x.vb = 0 → exec (.vacz c x) s = next .clear)) ∧
    (∀ (s : State) (c : CoreId) (x : AccMovArgs), OpRuns s c false x.cond → x.sh.toNat ≤ 40 →
      ∃ y, exec (.vacr c x) s = .next (s.accDue c.val (2 + x.slot.val) x.vac (.load x.sh) (s.vreg c.val x.vr.toNat) y
        (s.active c.val x.pg.toNat))) ∧
    (∀ (s : State) (c : CoreId) (x : AccMovArgs), OpRuns s c false x.cond → x.sh.toNat ≤ 63 →
      let n := x.sh.toNat
      let q (i : Nat) : Int := let v := s.accRead c.val x.vac.toNat i; if n = 0 then v else (v + 2 ^ (n - 1)) / 2 ^ n
      exec (.vacx c x) s = .next ((s.schedV c.val (2 + x.slot.val) 2 x.vr.toNat (s.active c.val x.pg.toNat)
        (vecOf fun i => clamp32 (q i))).schedFlg c.val (2 + x.slot.val) 2
          (sticky (laneFlags (s.active c.val x.pg.toNat) fun i => if fits32 (q i) then 0 else 0x10))))) ∧
  (∀ (s : State) (c : CoreId) (x : XferArgs), OpRuns s c false x.cond →
      let sl := 2 + x.slot.val
      (x.lane = 0 → exec (.vbcst c x) s = .next (s.schedV c.val sl 2 x.vd.toNat (s.widthMask c.val) (vecOf fun _ => s.sreg c.val x.rs.toNat))) ∧
      exec (.vins c x) s = .next (s.schedV c.val sl 2 x.vd.toNat ((1 <<< x.lane.toNat) &&& s.widthMask c.val) (vecOf fun _ => s.sreg c.val x.rs.toNat)) ∧
      exec (.vext c x) s = .next (s.schedS c.val sl 2 x.rs.toNat (lane (s.vreg c.val x.vd.toNat) x.lane.toNat)) ∧
      (x.rs.toNat < 32 → exec (.vlbc c x) s = .next (s.schedV c.val sl 2 x.vd.toNat (s.widthMask c.val)
        (vecOf fun _ => lane (s.vreg c.val x.rs.toNat) x.lane.toNat))) ∧
      (x.rs.toNat < 32 → x.lane = 0 → x.slot = 0 →
        exec (.vfsum c x) s = .next ((s.schedV c.val 2 10 x.rs.toNat 1 ((s.vfsumOf c.val x.vd.toNat).1.setWidth 512)).schedFlg c.val 2 10
          (sticky (s.vfsumOf c.val x.vd.toNat).2))))

/-- 02 R41, R42, R44-R46, R48, R50, R51: the states of a rate domain and its counter. A boundary adds exactly 1; ACQUIRE
ends in LOCKED with the first counter value of R50; a lost source leaves HOLDOVER, with source 21; ACQUIRE's limit
raises source 35 once; a RESYNC is kept, and its step sets the counter to the source's grain and raises source 20;
enabling takes a domain from OFF to ACQUIRE, and disabling to OFF. A read of the low counter word latches the high
one. A source that carries grain numbers gives its own: PTP the grain whose instant n ÷ rate is nearest to the
port's time, the chain that of the last MARK (R38). -/
def Obligations.RateDomains : Prop :=
  ∀ (s : State) (d : DomId) (ns : SubNs),
    let now := BitVec.ofNat 64 (s.utime + ns.val)
    let servo := s.fld (A.netServo (s.fld (A.rdCtl d.val) 6 3)) 0 3
    let grain (own : DWord) : DWord :=
      if s.domSrc d.val < 2 then own
      else if s.domSrc d.val = 2 then
        BitVec.ofNat 64 ((s.portTime (s.fld (A.rdCtl d.val) 6 3) ns.val * s.domHz d.val + 500000000) / 1000000000)
      else (s.dom d.val).markGrain
    (∀ v, s.domRuns d.val = true → s.sys.fatal = false → s.sys.refLost = false → Gives (.grainBoundary d v ns) s fun t =>
      (t.dom d.val).cnt = (s.dom d.val).cnt + 1 ∧ (t.dom d.val).btime = now ∧ ∀ e, e ≠ d.val → t.dom e = s.dom e) ∧
    (s.domState d.val = 1 → s.islandUp 12 = true → (s.domSrc d.val = 1 → s.wclkOk d.val = true) →
      (s.domSrc d.val = 2 → 3 ≤ servo) → (s.domSrc d.val = 3 → 16 ≤ (s.dom d.val).marks) → Gives (.domainLock d ns) s fun t =>
        t.domState d.val = 2 ∧ (t.dom d.val).btime = now ∧
        (t.dom d.val).cnt = grain (s.reg64 (A.rdGsetLo d.val) (A.rdGsetHi d.val))) ∧
    (s.domState d.val = 2 → (s.domSrc d.val = 1 ∨ (s.domSrc d.val = 2 ∧ servo < 3) ∨ (s.domSrc d.val = 3 ∧ 4 ≤ (s.dom d.val).quiet)) →
      Gives (.grainHoldover d .absent ns) s fun t =>
        t.domState d.val = 3 ∧ (t.dom d.val).cnt = (s.dom d.val).cnt ∧ Raised s t 21 d.val (s.domSrc d.val)) ∧
    (s.domState d.val = 1 → s.bit (A.rdStat d.val) 3 = false → Gives (.grainAcquireTimeout d) s fun t =>
      t.domState d.val = 1 ∧ t.bit (A.rdStat d.val) 3 = true ∧ Raised s t 35 d.val (s.domSrc d.val)) ∧
    (s.domRuns d.val = true → exec (.resync d) s = .next (s.setFld (A.rdStat d.val) 4 1 1)) ∧
    (s.domRuns d.val = true → s.bit (A.rdStat d.val) 4 = true → s.sys.fatal = false → s.sys.refLost = false →
      (s.domSrc d.val = 2 → 3 ≤ servo) → (s.domSrc d.val = 3 → (s.dom d.val).quiet < 4) → Gives (.grainStep d ns) s fun t =>
        let next := (s.dom d.val).cnt + 1
        let g' := grain next
        (t.dom d.val).cnt = g' ∧ t.domState d.val = 2 ∧ t.bit (A.rdStat d.val) 4 = false ∧
        ∃ r ∈ t.raises, r.src = 20 ∧ r.obj = BitVec.ofNat 16 d.val ∧
          r.info = BitVec.ofNat 40 (info32 ((g'.toNat : Int) - next.toNat))) ∧
    (∀ v, s.bit (A.rdCtl d.val) 0 = false →
      exec (.domainEnable d v) s = .next ((s.setReg (A.rdCtl d.val) ((v ||| 1) &&& 0x3FFF)).setReg (A.rdStat d.val) 1)) ∧
    (∀ v, s.bit (A.rdCtl d.val) 0 = true → Gives (.domainDisable d v) s fun t =>
      t.domState d.val = 0 ∧ t.rawReg (A.rdCtl d.val) = fput (s.rawReg (A.rdCtl d.val)) 0 1 0 ∧
      ∀ e, e ≠ d.val → t.dom e = s.dom e) ∧
    (∀ who : Requester, s.mainReach who.val = true →
      exec (.rdGcntRead d who) s = .next ((s.setReg (A.rdGcntHi d.val) (((s.dom d.val).cnt >>> 32).setWidth 32)).emit
        (.readData who.val ((s.dom d.val).cnt.setWidth 32))) ∧
      exec (.rdBtimeRead d who) s = .next ((s.setReg (A.rdBtimeHi d.val) (((s.dom d.val).btime >>> 32).setWidth 32)).emit
        (.readData who.val ((s.dom d.val).btime.setWidth 32)))) ∧
    (∀ who : Requester, s.mainReach who.val = false → Gives (.rdGcntRead d who) s fun t =>
      t.out = s.out ++ [.readData who.val 0] ∧ Raised s t 7 who.val ((0x10000000000 + A.rdGcntLo d.val) / 256))

/-- 02 R52-R54, R57, R58, R62, R63, R65, 05 R614: the order of a grain. The fabric grain start names the domain's grain
and goes to every bench of the domain that is up; a bench takes it; a core starts at its trigger, or at the end of
its window with TMISS; a missed deadline is counted and raises source 16, and under FINISH the program goes on. A
bench holds its grain start while an ingress word ahead of it in its channel is not yet written. The report interval
of a bench that takes no grain starts ends at the timer's. Model's choice: the rows say when a start or a deadline
comes (log entry 28). -/
def Obligations.GrainOrder : Prop :=
  ∀ s : State,
    (∀ d : DomId, s.domRuns d.val = true → s.islandUp 12 = true → (s.dom d.val).fabDue = true →
      ∀ res : Word,
        let taken (t : State) : Prop :=
          (t.dom d.val).fab = (s.dom d.val).cnt ∧ (t.dom d.val).fabOn = true ∧ (t.dom d.val).fabDue = false ∧
          ∀ b, b < 12 → t.benchDom b = d.val → t.benchUp b = true → (t.bench b).due = true
        (Gives (.fabricGrainStart d res) s fun t => t.fld A.dbgStat 0 2 = 0 → taken t) ∧
        (s.fld A.dbgStat 0 2 ≠ 1 → s.cmds.commits = [] → s.sys.thaw = [] → Gives (.fabricGrainStart d res) s taken)) ∧
    (∀ b : BenchId, (s.bench b.val).due = true → s.islandUp b.val = true → s.benchResets b.val = false →
      let ahead := (s.bench b.val).ahead.flatMap fun e => (s.wq e.1).take e.2
      ((∀ x ∈ ahead, benchOfBank (bankOf x.dst) ≠ b.val) → s.cmds.commits = [] → Gives (.benchGrainStart b) s fun t =>
        (t.bench b.val).grain = (s.dom (s.benchDom b.val)).fab ∧ (t.bench b.val).started = true ∧ (t.bench b.val).due = false) ∧
      ((∃ x ∈ ahead, benchOfBank (bankOf x.dst) = b.val) → exec (.benchGrainStart b) s = .next s)) ∧
    (∀ c : CoreId, let k := s.core c.val
      let runs (t : State) : Prop :=
        let g := (s.bench (c.val / 8)).grain
        (t.core c.val).prog = .grain ∧ (t.core c.val).grain = g ∧ (t.core c.val).gsn = g.setWidth 32 ∧
        (t.core c.val).pc = k.gentry ∧ (t.core c.val).trigWait = false ∧ ∀ c', c' ≠ c.val → t.core c' = s.core c'
      s.islandUp (c.val / 8) = true → k.halted = false → k.trigWait = true →
      (k.trigHit = true → Gives (.triggerFire c) s runs ∧ Gives (.triggerLatest c) s runs) ∧
      (k.trigHit = false → Gives (.triggerLatest c) s fun t => runs t ∧ t.bit (coreReg A.coreGstat c.val) 2 = true)) ∧
    (∀ c : CoreId, let k := s.core c.val
      let g := (s.bench (c.val / 8)).grain
      s.islandUp (c.val / 8) = true → k.halted = false → k.haltPend ≠ some 2 → k.resetting = false → k.noDl = false →
      k.missed = false → (k.prog = .grain ∨ k.trigWait = true) → bitAt k.gctl.toNat 1 = true → Gives (.coreDeadline c) s fun t =>
        t.fld (coreReg A.coreDlcnt c.val) 0 32 = incTo 0xFFFFFFFF (s.fld (coreReg A.coreDlcnt c.val) 0 32) ∧
        t.rawReg (coreReg A.coreDllast c.val) = g.setWidth 32 ∧ t.core c.val = { k with missed := true } ∧
        Raised s t 16 c.val (s.benchDom (c.val / 8) + 4)) ∧
    (∀ c : CoreId, let k := s.core c.val
      s.islandUp (c.val / 8) = true → k.halted = false → k.haltPend ≠ some 2 → k.resetting = false → k.noDl = false →
      k.missed = false → stalled k = false → inLock k = false → (k.prog = .grain ∨ k.trigWait = true) →
      bitAt k.gctl.toNat 1 = false → Gives (.coreDeadline c) s fun t =>
        (t.core c.val).prog = .none ∧ (t.core c.val).trigWait = false ∧ (t.core c.val).pc = k.gentry ∧
        (t.core c.val).lc = [] ∧ (t.core c.val).res = none) ∧
    (∀ b : BenchId, s.domRuns (s.benchDom b.val) = false →
      (s.timer / 25 ≠ (s.bench b.val).period → Gives (.reportIntervalEnd b) s fun t =>
        (∀ i, i < 32 → (t.bank (32 * b.val + i)).denied = false ∧ (t.bank (32 * b.val + i)).ueWords = []) ∧
        (t.bench b.val).period = s.timer / 25 ∧ t.mem = s.mem ∧ t.regs = s.regs) ∧
      (s.timer / 25 = (s.bench b.val).period → exec (.reportIntervalEnd b) s = .next s))

/-- 05 R171-R174, R177, R179, R180, R184, R185, 13 R431: a bank's owner, its change, its power, and the host's window
onto the banks. A write of BANK_OWN under the conditions of R179 sets PEND, and the new owner comes into effect
afterwards; the first condition that fails refuses it with source 29. A bank that goes OFF holds zeros. The host
reads and writes a bank that it owns; a write that meets an uncorrectable error of the seam is not made (17 R528). -/
def Obligations.Banks : Prop :=
  ∀ s : State,
    (∀ (n : BankId) (who : Requester) (v : Word), ownIdentity n.val who.val = some who.val →
      s.bit (bankReg A.bankOwn n.val) 16 = false → s.owner n.val = who.val → s.lender n.val = 255 →
      (fget v 24 8 < 142 ∨ fget v 24 8 = 255) → (fget v 24 8 = 255 ∨ s.eligible n.val (fget v 24 8) = true) →
      fget v 24 8 ≠ who.val → fget v 23 1 = 0 → fget v 17 6 = 0 → Gives (.bankOwnWrite n who v) s fun t =>
        t.bit (bankReg A.bankOwn n.val) 16 = true ∧ t.owner n.val = who.val ∧
        (t.bank n.val).chg = some ⟨BitVec.ofNat 8 (fget v 24 8), 255, false⟩ ∧ t.mem = s.mem) ∧
    (∀ (n : BankId) (who : Requester) (v : Word), ownIdentity n.val who.val = some who.val →
      s.bit (bankReg A.bankOwn n.val) 16 = true → exec (.bankOwnWrite n who v) s = .next (s.raise 29 n.val who.val)) ∧
    (∀ (n : BankId) (o l : BitVec 8), (s.bank n.val).chg = some ⟨o, l, false⟩ → (s.bank n.val).next = none →
      Gives (.handoverEffect n) s fun t =>
        t.owner n.val = o.toNat ∧ t.lender n.val = l.toNat ∧ t.bit (bankReg A.bankOwn n.val) 16 = false ∧
        (t.bank n.val).chg = none ∧ t.mem = s.mem) ∧
    (∀ (n : BankId) (who : Requester) (v : Word), ownIdentity n.val who.val = some who.val →
      (fget v 0 2 ≠ 3 → who.val = 141 ∨ who.val = s.owner n.val → Gives (.bankPwrWrite n who v) s fun t =>
        t.fld (bankReg A.bankPwr n.val) 0 2 = fget v 0 2 ∧ t.owner n.val = s.owner n.val ∧ t.mem = s.mem) ∧
      (who.val ≠ 141 → who.val ≠ s.owner n.val → exec (.bankPwrWrite n who v) s = .next (s.raise 29 n.val (who.val + 2 ^ 12)))) ∧
    (∀ (n : BankId) (p : BitVec 2), (s.bank n.val).pwrTo = some p → p.toNat = s.bankWants n.val → p ≠ 3 →
      Gives (.bankPowerChangeDone n) s fun t =>
        t.fld (bankReg A.bankPwr n.val) 4 2 = p.toNat ∧ (t.bank n.val).pwrTo = none ∧
        (∀ a, bankOf a = n.val → memByte t.mem a = if p = 2 then 0 else memByte s.mem a) ∧
        (∀ a, bankOf a ≠ n.val → memByte t.mem a = memByte s.mem a)) ∧
    (∀ (off : BitVec 30) (m : Fin 65), let a := off.toNat
      a < bankEnd → 0 < m.val → a % 64 + m.val ≤ 64 → s.borrowed a = false → s.awake (bankOf a) = true →
      (s.owner (bankOf a) = 140 ∨ s.hostr (bankOf a) = true → Gives (.hostWindowAccess off (.rd m) [] []) s fun t =>
        t.out = s.out ++ [.bytes 140 ((List.range m.val).map fun i => memByte s.mem (a + i))] ∧ t.mem = s.mem) ∧
      (s.owner (bankOf a) ≠ 140 → s.hostr (bankOf a) = false → Gives (.hostWindowAccess off (.rd m) [] []) s fun t =>
        t.out = s.out ++ [.bytes 140 (List.replicate m.val 0)] ∧ t.mem = s.mem)) ∧
    (∀ (off : BitVec 30) (bs : List Byte), let a := off.toNat
      a < bankEnd → 0 < bs.length → a % 64 + bs.length ≤ 64 → s.borrowed a = false → s.awake (bankOf a) = true →
      (s.owner (bankOf a) = 140 → Gives (.hostWindowAccess off (.wr bs) [] []) s fun t =>
        (∀ i (h : i < bs.length), memByte t.mem (a + i) = bs[i]) ∧
        (∀ x, x < a ∨ a + bs.length ≤ x → memByte t.mem x = memByte s.mem x)) ∧
      (s.owner (bankOf a) ≠ 140 → Gives (.hostWindowAccess off (.wr bs) [] []) s fun t => t.mem = s.mem) ∧
      exec (.hostWindowAccess off (.wr bs) [] [0]) s = .next (s.raise 6 4 0))

/-- 04 R122, R125, R126, R128-R130, R136, R137, R140: the tap fabric. A covered word goes to its wagon's queue, or is
dropped from a full one with source 24; a push with no route is discarded with source 27; the word at a queue's head
is written to its bank, or discarded with source 25 where the bank does not admit the fabric; two words of one cycle
to one word of a bank are both written, SCHED wagons first and then by rising number, with source 26; the active
route page, and a pending one, cannot be written. A word waits for a borrowed stripe and for a locked bank. -/
def Obligations.TapFabric : Prop :=
  ∀ s : State, s.islandUp 12 = true →
    (∀ (d : DomId) (entry : Fin 16384) (i : Fin 1024) (w0 w1 : Nat),
      (s.rtEntries (s.schedPg d.val)).find? (fun e => e.1 == entry.val) = some (entry.val, w0, w1) →
      rtKind w0 = 1 → rtDom w0 = d.val → i.val < rtCount w0 → s.domRuns d.val = true → s.fabFrozen = false →
      let src := (rtSrc w0 + i.val * rtSstride w1) * 4
      s.borrowed src = false → s.awake (bankOf src) = true → Gives (.schedCarry d entry i false) s fun t =>
        t.wq (rtWagon w0) = s.wq (rtWagon w0) ++
          [⟨(rtDst w1 + i.val * rtDstride w1) * 4, BitVec.ofNat 32 (memNat s.mem src 4), none⟩] ∧ t.mem = s.mem) ∧
    (∀ (b : BenchId) (c : Carry) (rest : List Carry) (dst : Nat), s.fab.carries = c :: rest → c.wagon = 52 + b.val → c.target = .bank dst →
      s.borrowed c.src = false → s.fabFrozen = false → s.awake (bankOf c.src) = true →
      ((s.wq (52 + b.val)).length < 1024 → Gives (.watchCarry b false) s fun t =>
        t.fab.carries = rest ∧ t.wq (52 + b.val) = s.wq (52 + b.val) ++ [⟨dst, BitVec.ofNat 32 (memNat s.mem c.src 4), none⟩] ∧
        t.mem = s.mem) ∧
      (1024 ≤ (s.wq (52 + b.val)).length → Gives (.watchCarry b false) s fun t =>
        t.fab.carries = rest ∧ t.wq (52 + b.val) = s.wq (52 + b.val) ∧ t.mem = s.mem ∧
        ∃ r ∈ t.raises, r.src = 24 ∧ r.obj = BitVec.ofNat 16 (52 + b.val) ∧ r.info = BitVec.ofNat 40 (dst / 4 + 2 ^ 26))) ∧
    (∀ (b : BenchId) (ch : BitVec 16) (v : Word) (rest : List (BitVec 16 × Word)),
      (s.bench b.val).fth.pushes = (ch, v) :: rest → s.fabFrozen = false →
      (∀ dst, s.pushOf b.val ch.toNat = some dst → (s.wq (52 + b.val)).length < 1024 → Gives (.pushCarry b) s fun t =>
        (t.bench b.val).fth.pushes = rest ∧ t.wq (52 + b.val) = s.wq (52 + b.val) ++ [⟨dst * 4, v, none⟩]) ∧
      (s.pushOf b.val ch.toNat = none → Gives (.pushCarry b) s fun t =>
        (t.bench b.val).fth.pushes = rest ∧ t.fab = s.fab ∧ Raised s t 27 (52 + b.val) ch.toNat)) ∧
    (∀ (w : WagonId) (x : FabWord) (rest : List FabWord), s.wq w.val = x :: rest → x.ts = none → s.borrowed x.dst = false →
      s.awake (bankOf x.dst) = true → ∀ waited,
      (s.fabw (bankOf x.dst) = true → Gives (.fabricBankWrite w none false false waited) s fun t =>
        t.wq w.val = rest ∧ memNat t.mem x.dst 4 = x.val.toNat ∧
        ∀ a, a < x.dst ∨ x.dst + 4 ≤ a → memByte t.mem a = memByte s.mem a) ∧
      (s.fabw (bankOf x.dst) = true → ∀ (o : WagonId) (y : FabWord) (orest : List FabWord), o ≠ w → s.wq o.val = y :: orest →
        y.dst = x.dst → y.ts = none → Gives (.fabricBankWrite w (some o) false false waited) s fun t =>
          let rank (k : WagonId) : Nat := if 44 ≤ k.val ∧ k.val ≤ 51 then k.val else 64 + k.val
          t.wq w.val = rest ∧ t.wq o.val = orest ∧ memNat t.mem x.dst 4 = (if rank w < rank o then y.val else x.val).toNat ∧
          ∃ r ∈ t.raises, r.src = 26) ∧
      (s.fabw (bankOf x.dst) = false → Gives (.fabricBankWrite w none false false waited) s fun t =>
        t.wq w.val = rest ∧ t.mem = s.mem ∧ Raised s t 25 w.val (x.dst / 4 + 2 ^ 26))) ∧
    (∀ (page : Fin 2) (word : Fin 65536) (v : Word),
      (page.val = s.rtPage → exec (.routePageWrite page word v) s = .next (s.setFld A.fabStat 0 1 1)) ∧
      (page.val ≠ s.rtPage → s.bit A.fabStat 2 = true → exec (.routePageWrite page word v) s = .next (s.setFld A.fabStat 1 1 1)) ∧
      (page.val ≠ s.rtPage → s.bit A.fabStat 2 = false → Gives (.routePageWrite page word v) s fun t =>
        t.rawReg (A.routePage page.val word.val) = v ∧ ∀ o, o ≠ A.routePage page.val word.val → t.rawReg o = s.rawReg o))

/-- 04 R141, R145-R147, R150-R153, R156: the Fathom engines. A group issues descriptors in order: a tap with ACC adds to
the running sum, one without ends it in an output; an output is written to its bank word by the engine that owns the
bank, or is pushed; an invalid descriptor stops the list with LIST_ERROR; a deadline missed is counted and raises
source 18, of the list that runs or of the one that waits for it, and under ABANDON that list stops; a write to the
active page has no effect. Model's choices: a running list keeps its page to its end (log entry 123), the waiting
list's misses (124), an 18-bit index in OBJ and INFO (92). -/
def Obligations.FathomEngines : Prop :=
  ∀ (s : State) (b : BenchId), let x := s.fth b.val
    let p := x.page.val
    let da := s.fthBase b.val p + x.idx * 16
    let d := memNat s.mem da 16
    s.islandUp b.val = true →
    (x.running = true → s.fthLcnt b.val p = x.idx + 1 → s.fthFrozen b.val = false → (s.wq (52 + b.val)).length < 1024 →
      x.toFeed = [] → s.groupWaits b.val p x.idx = false → s.fthOwns b.val da = true → s.awake (bankOf da) = true →
      (∀ w ∈ wordsOf da 16, s.portAWrites w = false) →
      (tdCheck d ≠ 0 → x.later = none → Gives (.fathomGroupIssue b) s fun t =>
        (t.fth b.val).running = false ∧ (t.fth b.val).outs = x.outs ∧
        ∃ r ∈ t.raises, r.src = 721 + 4 * b.val ∧ r.obj = BitVec.ofNat 16 x.idx) ∧
      (tdCheck d = 0 → tdOp d = 0 → Gives (.fathomGroupIssue b) s fun t =>
        (t.fth b.val).idx = x.idx + 1 ∧ (t.fth b.val).sum = x.sum ∧ (t.fth b.val).outs = x.outs) ∧
      (tdCheck d = 0 → tdOp d = 1 → tdAcc d = true → Gives (.fathomGroupIssue b) s fun t =>
        (t.fth b.val).idx = x.idx + 1 ∧ (t.fth b.val).outs = x.outs ∧
        ∃ y, (t.fth b.val).sum = (fpFma ⟨0, true⟩ x.sum (tdGain d) y).1) ∧
      (tdCheck d = 0 → tdOp d = 1 → tdAcc d = false → Gives (.fathomGroupIssue b) s fun t =>
        (t.fth b.val).idx = x.idx + 1 ∧ (t.fth b.val).sum = 0 ∧
        ∃ y, (t.fth b.val).outs = x.outs ++ [⟨x.idx, tdPush d, tdDest d,
          (tapOutput (s.fthLineOf b.val p (tdLine d)) (fpFma ⟨0, true⟩ x.sum (tdGain d) y).1).1⟩])) ∧
    (∀ (o : FthOut) (rest : List FthOut) (cy : BitVec 16), x.outs = o :: rest → x.later = none →
      (o.push = false → s.fthOwns b.val (o.dest * 4) = true → s.awake (bankOf (o.dest * 4)) = true →
        s.borrowed (o.dest * 4) = false →
        Gives (.fathomOutput b cy) s fun t =>
          (t.fth b.val).outs = rest ∧ memNat t.mem (o.dest * 4) 4 = o.val.toNat ∧
          ∀ a, a < o.dest * 4 ∨ o.dest * 4 + 4 ≤ a → memByte t.mem a = memByte s.mem a) ∧
      (o.push = true → Gives (.fathomOutput b cy) s fun t =>
        (t.fth b.val).outs = rest ∧ (t.fth b.val).pushes = x.pushes ++ [(BitVec.ofNat 16 o.dest, o.val)] ∧ t.mem = s.mem)) ∧
    (∀ g, x.later = some g → x.laterMissed = false → s.fthFrozen b.val = false →
      let q := s.fthPage b.val
      (s.fthFinish b.val q = true → Gives (.fathomDeadline b) s fun t =>
        t.fth b.val = { x with laterMissed := true } ∧ Raised s t 18 b.val (s.benchDom b.val + 4)) ∧
      (s.fthFinish b.val q = false → Gives (.fathomDeadline b) s fun t =>
        t.fth b.val = { x with later := none } ∧ Raised s t 18 b.val (s.benchDom b.val))) ∧
    (x.running = true → x.missed = false → x.later = none → s.fthFrozen b.val = false →
      let info := s.benchDom b.val + x.idx * 8
      (s.fthFinish b.val p = true → Gives (.fathomDeadline b) s fun t =>
        (t.fth b.val) = { x with missed := true } ∧ Raised s t 18 b.val (info + 4)) ∧
      (s.fthFinish b.val p = false → Gives (.fathomDeadline b) s fun t =>
        (t.fth b.val).running = false ∧ (t.fth b.val).sum = 0 ∧ Raised s t 18 b.val info ∧ t.mem = s.mem)) ∧
    (∀ (off : BitVec 16) (v : Word) (q e : Nat) (r : Reg), fthPaged off.toNat = some (q, e) →
      regOf (A.fthCtl b.val + off.toNat) = some r →
      (q = s.fthPage b.val → exec (.fathomPageWrite b off v) s = .next (s.setFld (A.fthStat b.val) 0 1 1)) ∧
      (q ≠ s.fthPage b.val → s.bit (A.fthStat b.val) 2 = true → exec (.fathomPageWrite b off v) s = .next (s.setFld (A.fthStat b.val) 1 1 1)) ∧
      (q ≠ s.fthPage b.val → s.bit (A.fthStat b.val) 2 = false → Gives (.fathomPageWrite b off v) s fun t =>
        t.rawReg (A.fthCtl b.val + off.toNat) = writeFields r.fields (s.rawReg (A.fthCtl b.val + off.toNat)) v ∧
        ∀ o, o ≠ A.fthCtl b.val + off.toNat → t.rawReg o = s.rawReg o))

/-- 03 R93, R94, R96, R98, R101, R104, R105, R109, R113, R119, 02 R68, R69, R94: the converter ports. A group aligns and
runs by its frame marks and loses its clock; an input slot goes to its inbox word, or directly to an egress
register; an output slot sends the word of the frame's tag, or a fallback with source 23; outbox words are carried
to egress registers; a slot-map page changes over group by group. -/
def Obligations.ConverterPorts : Prop :=
  ∀ s : State,
    (∀ (k : GroupId) (m : MarkObs) (f : DWord), s.cgEn k.val = true → s.domRuns (s.cgDom k.val) = true →
      s.islandUp (13 + k.val / 8) = true →
      let good := m.bits = s.cgSlots k.val * s.cgWidth k.val ∧ m.inPlace = true
      let n := (s.dom (s.cgDom k.val)).cnt.toNat
      let gap := (s.group k.val).frame.toNat < n ∧ n < f.toNat
      (s.cgState k.val = 2 → good → f ≠ (s.group k.val).frame → ¬ gap → Gives (.frameMark k m f) s fun t =>
        t.cgState k.val = 2 ∧ (t.group k.val).frame = f ∧ t.rawReg (cgReg A.cgFrame k.val) = f.setWidth 32 ∧ t.raises = s.raises) ∧
      (s.cgState k.val = 2 → good → gap → Gives (.frameMark k m f) s fun t =>
        t.fld (cgReg A.cgErrcnt k.val) 16 16 = incTo 0xFFFF (s.fld (cgReg A.cgErrcnt k.val) 16 16) ∧
        (t.group k.val).frame = f ∧ Raised s t (192 + 16 * (k.val / 8) + 3) k.val 0) ∧
      (s.cgState k.val = 2 → ¬ good → ¬ gap → Gives (.frameMark k m f) s fun t =>
        t.fld (cgReg A.cgErrcnt k.val) 0 16 = incTo 0xFFFF (s.fld (cgReg A.cgErrcnt k.val) 0 16) ∧
        (t.group k.val).frame = f ∧ Raised s t (192 + 16 * (k.val / 8) + 2) k.val 0) ∧
      (s.cgState k.val = 1 → s.cgMaster k.val = false → good → (s.group k.val).marks = 0 →
        exec (.frameMark k m f) s = .next ((s.setReg (cgReg A.cgFrame k.val) (f.setWidth 32)).setGroup k.val
          { s.group k.val with frame := f, marks := 1, codes := none })) ∧
      (s.cgState k.val = 1 → s.cgMaster k.val = false → good → 1 ≤ (s.group k.val).marks → Gives (.frameMark k m f) s fun t =>
        t.cgState k.val = 2 ∧ (t.group k.val).frame = f)) ∧
    (∀ k : GroupId, s.cgEn k.val = true → s.cgMaster k.val = false → s.domRuns (s.cgDom k.val) = true → s.cgState k.val = 2 →
      s.islandUp (13 + k.val / 8) = true → Gives (.bclkLoss k) s fun t => t.cgState k.val = 3 ∧ Raised s t (192 + 16 * (k.val / 8)) k.val 0) ∧
    (∀ (k : GroupId) (v : Word), s.cgEn k.val = false →
      (s.cgInvalid (v ||| 1) = false → Gives (.cgEnable k v) s fun t => t.cgEn k.val = true ∧ t.cgState k.val = 1) ∧
      (s.cgInvalid (v ||| 1) = true → Gives (.cgEnable k v) s fun t =>
        t.cgEn k.val = false ∧ t.bit (cgReg A.cgStat k.val) 2 = true)) ∧
    (∀ (k : GroupId) (v : Word), s.cgEn k.val = true → Gives (.cgDisable k v) s fun t =>
      t.cgEn k.val = false ∧ t.cgState k.val = 0 ∧ (t.group k.val).marks = 0 ∧ t.raises = s.raises) ∧
    (∀ (lane : LaneId) (slot : SlotId) (raw : Word) (edge : Fin 400) (i e : Nat), let g := lane.val / 64
      let k := lane.val / 8
      s.islandUp (13 + g) = true → s.cgState k = 2 → slot.val < s.cgSlots k → s.smDir g (s.groupPage k) (lane.val % 64) = false → s.pgFrozen g = false →
      s.smEntries g (s.groupPage k) = [(i, e)] → smLane e = lane.val % 64 → smSlot e = slot.val →
      (smOp e = 1 → smCount e = 1 → (s.wq g).length < 128 → Gives (.slotReceive lane slot raw edge) s fun t =>
        let ts := if smTs e then some (BitVec.ofNat 32 (s.utime + edge.val * 5 / 2)) else none
        t.wq g = s.wq g ++ [⟨smAddr e * 4, slotIn raw (s.cgWidth k) (smJust e), ts⟩] ∧ t.mem = s.mem) ∧
      (smOp e = 3 → smMute e = false → s.paired = false → Gives (.slotReceive lane slot raw edge) s fun t =>
        let l := 64 * g + smOlane e
        t.egrOf l (smOslot e) = (s.egrOf l (smOslot e)).put ((s.dom (s.cgDom k)).cnt.setWidth 16)
          (directGain (slotIn raw (s.cgWidth k) false) (bitsAt e 0 16)).1)) ∧
    (∀ (lane : LaneId) (slot : SlotId) (f : DWord) (e : Nat), let g := lane.val / 64
      let k := lane.val / 8
      let tag : BitVec 16 := (if smArrive e then f else f - 1).setWidth 16
      let x := s.egrOf lane.val slot.val
      let sent (v : Word) : List Out := s.out ++ [.lane lane.val slot.val (slotOut v (s.cgWidth k) (smOp e == 2 && smJust e))]
      let p := s.pageFor k f
      s.islandUp (13 + g) = true → s.cgEn k = true → s.cgState k = 2 → slot.val < s.cgSlots k → s.smDir g p (lane.val % 64) = true →
      s.pgFrozen g = false → s.smOutEntry g p (lane.val % 64) slot.val = some e → s.laneCode lane.val = 0 → x.late = none →
      (∀ v, x.peek tag = some v → Gives (.egressLoad lane slot f) s fun t =>
        t.out = sent v ∧ t.egrOf lane.val slot.val = { x.take tag with last := v, late := none } ∧ t.raises = s.raises) ∧
      (x.peek tag = none → smFb e < 2 → Gives (.egressLoad lane slot f) s fun t =>
        let v := if smFb e = 1 then 0 else x.last
        t.out = sent v ∧ (t.egrOf lane.val slot.val).last = v ∧
        Raised s t 23 lane.val (slot.val * 2 ^ 2 + smFb e * 2 ^ 8))) ∧
    (∀ (k : Nat) (f c : DWord), (s.group k).due = some (s.cgDom k, c) →
      s.pageFor k f = if c.toNat ≤ f.toNat then 1 - s.pgActive (k / 8) else (s.group k).page) ∧
    (∀ (w : WagonId) (waited : BitVec 16) (c : Carry) (rest : List Carry), s.islandUp 12 = true → s.fab.carries = c :: rest →
      c.wagon = w.val → carryToBank c = false → s.borrowed c.src = false → s.awake (bankOf c.src) = true → (s.weq w.val).length < wagonDepth w.val →
      Gives (.egressCarry w .offer false waited) s fun t =>
        t.fab.carries = rest ∧ t.weq w.val = s.weq w.val ++ [⟨c.target, c.tag, BitVec.ofNat 32 (memNat s.mem c.src 4)⟩] ∧ t.mem = s.mem) ∧
    (∀ (w : WagonId) (waited : BitVec 16) (x : EgrWord) (rest : List EgrWord) (l sl : Nat), s.islandUp 12 = true →
      s.weq w.val = x :: rest → x.target = .lane l sl → s.paired = false → Gives (.egressCarry w .deliver false waited) s fun t =>
        t.weq w.val = rest ∧ t.egrOf l sl = (s.egrOf l sl).put x.tag x.val ∧ t.out = s.out) ∧
    (∀ (e : Egr) (tag : BitVec 16) (v : Word), (e.put tag v).peek tag = some v) ∧
    (∀ (g : PortGroupId) (page : Fin 2) (word : Fin 5120) (v : Word),
      (page.val = s.pgActive g.val → exec (.slotmapPageWrite g page word v) s = .next (s.setFld (A.pgStat g.val) 0 1 1)) ∧
      (page.val ≠ s.pgActive g.val → s.pgPend g.val = true →
        exec (.slotmapPageWrite g page word v) s = .next (s.setFld (A.pgStat g.val) 1 1 1)) ∧
      (page.val ≠ s.pgActive g.val → s.pgPend g.val = false → Gives (.slotmapPageWrite g page word v) s fun t =>
        t.rawReg (smOff g.val page.val word.val) = v ∧
        ∀ o, o ≠ smOff g.val page.val word.val → t.rawReg o = s.rawReg o)) ∧
    (∀ k : GroupId, let g := k.val / 8
      s.islandUp (13 + g) = true → s.slotmapDue k.val = true → Gives (.slotmapChangeover k) s fun t =>
        (t.group k.val).page = 1 - s.pgActive g ∧ (t.group k.val).due = none ∧
        ((∃ c, c < 8 ∧ 8 * g + c ≠ k.val ∧ (s.group (8 * g + c)).due ≠ none) → t.regs = s.regs) ∧
        ((∀ c, c < 8 → 8 * g + c ≠ k.val → (s.group (8 * g + c)).due = none) →
          t.pgActive g = (1 - s.pgActive g) % 2 ∧ t.pgPend g = false ∧ Raised s t (192 + 16 * g + 4) k.val 0))

/-- 15 R486-R500, R503, R505: the event controller. A raise becomes a firing of its source, at once or when its window
ends; an idle core is sent a start, and its event program begins; a core in WAIT wakes; a claim takes the lowest
claimable source and makes it ACTIVE, and a completion returns it to IDLE; a class H record is written to its queue. -/
def Obligations.EventController : Prop :=
  ∀ s : State,
    (∀ (r : Raise) (rest : List Raise), s.raises = r :: rest → s.silencing r.src = false → s.evCtime r.src = 0 →
      (s.evCen r.src = true → s.evHen r.src = false → (s.src r.src).cstate = csIdle → Gives .eventRaise s fun t =>
        t.raises = rest ∧ t.src r.src = { s.src r.src with cstate := csPending, firing := some ⟨1, r⟩ } ∧
        ∀ n, n ≠ r.src → t.src n = s.src n) ∧
      (s.evCen r.src = true → s.evHen r.src = false → (s.src r.src).cstate = csActive → (s.src r.src).later = none →
        Gives .eventRaise s fun t =>
          t.raises = rest ∧ t.src r.src = { s.src r.src with cstate := csActivePending, later := some ⟨1, r⟩ }) ∧
      (s.evCen r.src = false → s.evHen r.src = true → Gives .eventRaise s fun t =>
        t.raises = rest ∧ (t.src r.src).cstate = (s.src r.src).cstate ∧
        (t.src r.src).hrec = joinFiring (s.src r.src).hrec ⟨1, r⟩)) ∧
    (∀ (n : SourceId) (e : Nat) (f : Firing), (s.src n.val).win = some (e, f) → e ≤ s.timer → s.evCen n.val = true →
      s.evHen n.val = false → (s.src n.val).cstate = csIdle → Gives (.coalesceWindowEnd n) s fun t =>
        t.src n.val = { s.src n.val with win := none, cstate := csPending, firing := some f }) ∧
    (∀ c, c < 96 → s.coreIdle c = true → s.bit (A.evtCentry c) 0 = true → (s.firstDeliver c).isSome = true →
      Gives .eventStart s fun t => t.evt.starts.contains c = true) ∧
    (∀ c : CoreId, s.evt.starts.contains c.val = true → s.bit (A.evtCmask c.val) 0 = false → s.coreIdle c.val = true →
      s.islandUp (c.val / 8) = true → Gives (.eventProgramStart c) s fun t =>
        (t.core c.val).prog = .event ∧ (t.core c.val).pc = s.rawReg (A.evtCofs c.val) ∧
        (t.core c.val).gsn = (s.core c.val).gsn ∧ t.bit (A.evtCstat c.val) 13 = true ∧ t.evt.starts.contains c.val = false) ∧
    (∀ (c : CoreId) (n : Nat), s.firstDeliver c.val = some n → (s.core c.val).waiting = true → (s.core c.val).halted = false →
      (s.core c.val).locks = [] → s.islandUp (c.val / 8) = true → Gives (.waitWake c) s fun t =>
        (t.core c.val) = { s.core c.val with waiting := false } ∧ t.evt.src = s.evt.src) ∧
    (∀ (c : CoreId) (who : Requester), who.val = c.val →
      (∀ n, s.holds c.val = none → s.firstClaim c.val = some n → Gives (.evtClaimRead c who) s fun t =>
        t.src n = { s.src n with cstate := csActive, holder := c.val, firing := none } ∧
        t.fld (A.evtCstat c.val) 0 10 = n % 1024 ∧ t.bit (A.evtCstat c.val) 10 = true ∧
        t.out = s.out ++ [.readData c.val (BitVec.ofNat 32 n)]) ∧
      (s.firstClaim c.val = none → exec (.evtClaimRead c who) s = .next (s.emit (.readData c.val 0xFFFF))) ∧
      (∀ n, s.holds c.val = some n → exec (.evtClaimRead c who) s = .next (s.emit (.readData c.val 0xFFFF)))) ∧
    (∀ c n, s.firstClaim c = some n → s.claimable n c = true) ∧
    (∀ (c : CoreId) (v : Word),
      (s.holds c.val = some (fget v 0 10) → (s.src (fget v 0 10)).cstate = csActive → Gives (.evtDoneWrite c v) s fun t =>
        t.src (fget v 0 10) = { s.src (fget v 0 10) with cstate := csIdle, firing := none, holder := 0 } ∧
        t.bit (A.evtCstat c.val) 10 = false ∧ ∀ o, o ≠ A.evtCstat c.val → t.rawReg o = s.rawReg o) ∧
      (s.holds c.val = some (fget v 0 10) → (s.src (fget v 0 10)).cstate = csActivePending → Gives (.evtDoneWrite c v) s fun t =>
        t.src (fget v 0 10) = { s.src (fget v 0 10) with
          cstate := csPending, firing := (s.src (fget v 0 10)).later, later := none, holder := 0 }) ∧
      (s.holds c.val ≠ some (fget v 0 10) → exec (.evtDoneWrite c v) s = .next (s.setFld (A.evtCstat c.val) 11 1 1))) ∧
    (∀ (w : Fin 32) (v : Word), Gives (.evtPendWrite w v) s fun t => ∀ i, i < 32 →
      (t.src (32 * w.val + i)).cstate =
        (let x := (s.src (32 * w.val + i)).cstate
         if v.getLsbD i then (if x = csPending then csIdle else if x = csActivePending then csActive else x) else x)) ∧
    (∀ (w : Fin 4) (v : Word), Gives (.evtGdisWrite w v) s fun t =>
      (∀ i, i < 32 → 32 * w.val + i < 98 → t.gdis (32 * w.val + i) = v.getLsbD i) ∧
      ∀ o, o ≠ A.evtGdis w.val → t.rawReg o = s.rawReg o) ∧
    (∀ g : EvtGroupId, tget 0 s.evt.chold g.val ≤ s.timer → Gives (.classCHoldoffEnd g) s fun t => t.cHold g.val = false) ∧
    (∀ g : EvtGroupId, tget 0 s.evt.hhold g.val ≤ s.timer → Gives (.classHHoldoffEnd g) s fun t => t.hHold g.val = false) ∧
    (∀ (n : Nat) (f : Firing), s.evt.src.find? (fun e => s.recReady e.1) = some (n, s.src n) → (s.src n).hrec = some f →
      let q := s.fld (A.evtEq n) 0 16
      Gives .eventRecordWrite s fun t =>
        t.out = s.out ++ [.eqEntry q (s.qTl q) (s.eventRecord n f ||| BitVec.ofNat 128 (b2n (s.bit (A.qTail q) 16) * 2 ^ 127))] ∧
        (t.src n).hrec = none ∧
        t.qTl q = (if s.qTl q + 1 < s.qLen q then s.qTl q + 1 else 0))

/-- 13 R434-R438, R440, R441, R443, R444, R446-R451, 14 R461: the host queues. A doorbell moves HEAD or TAIL of a queue
in RUN, and is otherwise refused with source 129, and reads as 0; the SQs are fetched from in turn by number, and a
fetched entry moves HEAD and its command is in progress, or a duplicate is answered from the window; a completion
goes to its queue's CQ at TAIL; a queue's signal is its MSI-X message, pending while masked; an enable leads to RUN
with an empty ring, a disable to DRAINING, and a drained queue to DISABLED; an error is recorded with source 128 and
in its function's log. Model's choice: a reset whose completion was discarded begins at the next COMPLETION_WRITE
(log entry 144). -/
def Obligations.HostQueues : Prop :=
  ∀ (s : State) (q : QueueId) (f : FnId), let n := q.val
    let turn : Prop := s.fetchedOf n < 32 ∧
      ∀ x, s.sqReady x = true → (n + 65535 - s.cmds.turn) % 65536 ≤ (x + 65535 - s.cmds.turn) % 65536
    (∀ v : DWord, s.ifrstBusy f.val = false →
      (s.qState n = 1 → s.qFn n = f.val → v.toNat < s.qLen n → s.qType n = 0 ∨ s.qType n = 3 →
        exec (.doorbell q f (.wr v)) s = .next (s.setFld (A.qTail n) 0 16 v.toNat)) ∧
      (s.qState n = 1 → s.qFn n = f.val → v.toNat < s.qLen n → s.qType n = 1 ∨ s.qType n = 2 →
        (v.toNat + s.qLen n - s.qHd n) % s.qLen n ≤ s.qUsed n → Gives (.doorbell q f (.wr v)) s fun t =>
          t.qHd n = v.toNat ∧ t.bit (A.qStat n) 3 = true ∧ t.qTl n = s.qTl n ∧ t.out = s.out) ∧
      (s.qState n ≠ 1 ∨ s.qFn n ≠ f.val ∨ s.qLen n ≤ v.toNat → Gives (.doorbell q f (.wr v)) s fun t =>
        t.qHd n = s.qHd n ∧ t.qTl n = s.qTl n ∧ Raised s t 129 n f.val ∧
        t.fld (hostDberr f.val) 0 32 = incTo 0xFFFFFFFF (s.fld (hostDberr f.val) 0 32) ∧
        (s.qState n = 1 → t.fld (A.qStat n) 4 4 = 3))) ∧
    exec (.doorbell q f .rd) s = .next (s.emit (.readData (if f.val = 0 then 140 else 143) 0)) ∧
    (∀ p : Packet, s.qState n = 1 → s.qType n = 0 → s.qHd n ≠ s.qTl n → s.qFn n < 2 → s.fnReady (s.qFn n) = true →
      s.qFull (s.qLnk n) = false →
      (s.qst n).window = [] → s.findProg (.sq q) (pkSeq p) = none → s.isTarget p = true → s.receiveCheck (.sq q) p = none →
      turn → Gives (.sqFetch q p) s fun t =>
        t.cmds.turn = n ∧ t.qHd n = (if s.qHd n + 1 < s.qLen n then s.qHd n + 1 else 0) ∧
        t.cmds.inprog = s.cmds.inprog ++ [⟨.sq q, pkSeq p, p, .ready, 0⟩] ∧ t.cmds.done = s.cmds.done) ∧
    (∀ (p : Packet) (c : Completion), s.qState n = 1 → s.qType n = 0 → s.qHd n ≠ s.qTl n → s.qFn n < 2 →
      s.fnReady (s.qFn n) = true → s.qFull (s.qLnk n) = false →
      (s.qst n).window.find? (fun e => e.1 == pkSeq p) = some (pkSeq p, c) → turn → Gives (.sqFetch q p) s fun t =>
        t.fld (A.qDupcnt n) 0 32 = incTo 0xFFFFFFFF (s.fld (A.qDupcnt n) 0 32) ∧ t.cmds.inprog = s.cmds.inprog ∧
        ∃ d ∈ t.cmds.done, d.origin = .sq q ∧ d.c = { c with cflags := c.cflags ||| 1 }) ∧
    (∀ (c : Completion) (h : Bool) (rest : List Done), s.cmds.done = ⟨.sq q, c, h⟩ :: rest → s.cmds.resets = [] →
      let k := s.qLnk n
      s.qState k = 1 → s.qFull k = false → s.fnReady (s.qFn k) = true → Gives .completionWrite s fun t =>
        t.out = s.out ++ [.cqEntry k (s.qTl k) c n (s.qHd n) (s.bit (A.qTail k) 16)] ∧
        t.qTl k = (if s.qTl k + 1 < s.qLen k then s.qTl k + 1 else 0) ∧ t.cmds.done.length = rest.length) ∧
    (∀ (o : Origin) (x : Word) (k : Nat), s.cmds.resets = [(o, x, k)] → k < 2 → s.cmds.done = [] →
      Gives .completionWrite s fun t => t.ifrstBusy k = true ∧ t.cmds.resets = [] ∧ t.out = s.out) ∧
    (s.sigDue n = true →
      let vec := s.fld (A.qIrq n) 0 11
      (s.bit (if s.qFn n = 0 then A.msixCtl0 vec else A.msixCtl1 vec) 0 = false → Gives (.queueSignal q) s fun t =>
        t.out = s.out ++ [.msix (s.qFn n) vec] ∧ t.bit (A.qStat n) 3 = false) ∧
      (s.bit (if s.qFn n = 0 then A.msixCtl0 vec else A.msixCtl1 vec) 0 = true → Gives (.queueSignal q) s fun t =>
        t.out = s.out ∧ t.bit (A.qStat n) 3 = false ∧
        t.bit (if s.qFn n = 0 then A.msixPba0 (vec / 32) else A.msixPba1 (vec / 32)) (vec % 32) = true)) ∧
    (∀ v : Word, s.qFn n = f.val → s.ifrstBusy f.val = false → s.bad 7 n = false →
      (s.enableOk f.val n = true → s.qEn n = false → fget v 1 3 = s.fld (A.qCtl n) 1 3 → fget v 4 1 = 0 →
        Gives (.queueEnableWrite q f v) s fun t =>
          t.qState n = 1 ∧ t.qEn n = true ∧ t.qHd n = 0 ∧ t.qTl n = 0 ∧ t.bit (A.qTail n) 16 = true) ∧
      (s.enableOk f.val n = false → s.qState n = 0 → s.qEn n = false → fget v 1 3 = s.fld (A.qCtl n) 1 3 → fget v 4 1 = 0 →
        Gives (.queueEnableWrite q f v) s fun t => t.qState n = 0 ∧ t.qEn n = false ∧ t.fld (A.qStat n) 4 4 = 1) ∧
      (s.qState n = 1 → s.qEn n = true → s.qType n ≠ 1 → Gives (.queueDisableWrite q f v) s fun t =>
        t.qState n = 2 ∧ t.qEn n = false) ∧
      (s.qState n = 0 → s.qEn n = false → Gives (.seqclr q f) s fun t =>
        (t.qst n).window = [] ∧ t.rawReg (A.qSeqhi n) = 0 ∧ t.qState n = 0)) ∧
    (∀ v : Word, s.qFn n ≠ f.val → Gives (.queueEnableWrite q f v) s fun t =>
      t.fld (A.qStat n) 4 4 = 5 ∧ t.qEn n = s.qEn n ∧ t.qHd n = s.qHd n ∧ t.qTl n = s.qTl n) ∧
    (s.qState n = 2 → s.cmds.inprog = [] → s.cmds.done = [] → s.frameWaits n = false → (s.qst n).wbs = [] → Gives (.queueDrained q) s fun t => t.fld (A.qStat n) 0 2 = 0) ∧
    (∀ e : HostErr, s.qState n = 1 ∨ s.qState n = 2 → Gives (.queueError q e) s fun t =>
      t.qState n = 3 ∧ (t.fn (s.qFn n)).aer = (s.fn (s.qFn n)).aer ++ [(n, e)] ∧ t.fld (A.qStat n) 4 4 = 4 ∧ Raised s t 128 n (s.qFn n))

/-- 13 R426, R445, R453, R454, R456, R457, 17 R539: the host port as a whole: interface reset by its key, which ends the
wait for forwarded commands, function level reset, PERST#, D3hot and back with PME messages, the link's state, and
host frames: queued in class 0 where their length and port allow, and received into their buffer with the stamp of
their port's clock. Model's choices: Bus Master Enable is carried by the rows (log entry 3), D0 clears PME_Status
(81), the STAMP of a frame not sent is 0 (22). -/
def Obligations.HostPort : Prop :=
  ∀ (s : State) (f : FnId), let n := f.val
    (s.ifrstBusy n = false →
      exec (.hostIfrstWrite f 0xA5) s = .next (s.setFn n { s.fn n with key := true }) ∧
      ((s.fn n).key = true → Gives (.hostIfrstWrite f 0x5A) s fun t =>
        t.ifrstBusy n = true ∧ (t.fn n).key = false ∧ (∀ d ∈ t.cmds.done, s.fromFn n d.origin = false) ∧
        (∀ x ∈ t.cmds.inprog, s.fromFn n x.origin = true → x.stage = .pair) ∧
        (∀ x ∈ s.cmds.inprog, (s.fromFn n x.origin = false ∨ x.stage = .pair) → x ∈ t.cmds.inprog) ∧
        ∀ q ∈ s.queuesOf n, t.bit (A.qCtl q) 0 = false ∧ t.fld (A.qStat q) 0 2 = 0 ∧ t.qHd q = 0 ∧ t.qTl q = 0) ∧
      ((s.fn n).key = false → exec (.hostIfrstWrite f 0x5A) s = .next (s.setFn n (s.fn n)))) ∧
    (∀ v, s.ifrstBusy n = true → exec (.hostIfrstWrite f v) s = .next s) ∧
    (Gives (.functionLevelReset f) s fun t =>
      t.ifrstBusy n = true ∧ t.fn n = ⟨false, false, false, false, 0, false, (s.fn n).aer⟩ ∧ (n = 0 → t.rawReg A.hostFmap = 0)) ∧
    (∀ bme, s.ifrstBusy n = true → Gives (.ifrstDone f bme) s fun t =>
      t.ifrstBusy n = false ∧ t.fn n = { s.fn n with bme := bme } ∧ Raised s t (130 + n) 0xFFFF n) ∧
    (Gives .perstNAssert s fun t =>
      t.sys.perst = true ∧ t.fld A.hostStat0 0 8 = 0 ∧ t.fld A.hostStat1 0 8 = 0 ∧ t.ifrstBusy n = true) ∧
    exec .perstNRelease s = .next { s with sys := { s.sys with perst := false } } ∧
    (∀ e, Gives (.d3hotEntry f e) s fun t =>
      (t.fn n).d3 = true ∧ (t.fn n).pmeEn = e ∧
      (e = true → s.recFor n = true → (t.fn n).pmeStatus = true ∧ t.out = s.out ++ [.pme n]) ∧
      (e = false → (t.fn n).pmeStatus = false ∧ t.out = s.out)) ∧
    (Gives (.d0Return f) s fun t => (t.fn n).d3 = false ∧ (t.fn n).pmeStatus = false) ∧
    ((s.fn n).d3 = true → (s.fn n).pmeStatus = true →
      ((s.fn n).pmeAt + 100000 ≤ s.timer → Gives (.pmeResend f) s fun t =>
        t.out = s.out ++ [.pme n] ∧ t.fn n = { s.fn n with pmeAt := s.timer }) ∧
      (s.timer < (s.fn n).pmeAt + 100000 → exec (.pmeResend f) s = .next s)) ∧
    (∀ (rate : BitVec 3) (width : BitVec 5) (flit b0 b1 : Bool), s.sys.perst = false →
      let w := if rate = 0 then 0 else width.toNat
      let fits : Prop := rate = 0 ∨ (width.toNat ∈ [1, 2, 4, 8, 16] ∧ (rate.toNat < 6 ∨ flit = true))
      (fits → Gives (.linkState rate width flit b0 b1) s fun t =>
        t.fld A.hostStat0 0 3 = rate.toNat ∧ t.fld A.hostStat0 3 5 = w ∧
        t.fld A.hostStat1 0 3 = rate.toNat ∧ t.fld A.hostStat1 3 5 = w ∧
        (t.fn 0).bme = b0 ∧ (t.fn 1).bme = b1 ∧
        (s.fld A.hostStat0 0 8 ≠ rate.toNat + w * 8 → Raised s t 132 0xFFFF (rate.toNat * 4 + w * 2 ^ 5)) ∧
        (s.fld A.hostStat0 0 8 = rate.toNat + w * 8 → t.raises = s.raises)) ∧
      (¬ fits → exec (.linkState rate width flit b0 b1) s = .next s)) ∧
    (∀ (q : QueueId) (len : BitVec 16) (bs : List Byte), let e := s.qLnk q.val % 8
      let h := s.qHd q.val
      let next := (h + 1) % s.qLen q.val
      s.islandUp 29 = true → s.streamReady q.val 0 = true →
      (64 ≤ len.toNat → len.toNat ≤ 1518 → s.ethEn e = true → s.ethLink e = true → Gives (.hostFrameTx q len bs false) s fun t =>
        tget [] (t.ethPort e).txq 0 = tget [] (s.ethPort e).txq 0 ++ [.host q.val h (padTo len.toNat bs)] ∧
        t.out = s.out ∧ t.qHd q.val = next) ∧
      (len.toNat < 64 ∨ 1518 < len.toNat ∨ s.ethEn e = false ∨ s.ethLink e = false → Gives (.hostFrameTx q len bs false) s fun t =>
        t.out = s.out ++ [.streamWb q.val ⟨h, 3, 0, 0⟩] ∧ t.qHd q.val = next) ∧
      (Gives (.hostFrameTx q len bs true) s fun t => t.out = s.out ++ [.streamWb q.val ⟨h, 5, 0, 0⟩] ∧ t.qHd q.val = next)) ∧
    (∀ (q : QueueId) (buf : DWord) (bufLen : BitVec 16) (bs : List Byte) (edge : NetEdge), let e := s.qLnk q.val % 8
      let h := s.qHd q.val
      s.islandUp 29 = true → s.streamReady q.val 1 = true → s.bit (A.netPctl e) 5 = true → s.ethEn e = true → s.ethLink e = true →
      (1522 ≤ bufLen.toNat → bs.length ≤ 1522 → Gives (.hostFrameRx q buf bufLen bs edge false) s fun t =>
        t.out = s.out ++ [.hostWrite buf bs, .streamWb q.val ⟨h, 1, bs.length, s.stamp e edge 0⟩] ∧
        t.qHd q.val = (h + 1) % s.qLen q.val) ∧
      (bufLen.toNat < 1522 → Gives (.hostFrameRx q buf bufLen bs edge false) s fun t =>
        t.out = s.out ++ [.streamWb q.val ⟨h, 3, 0, s.stamp e edge 0⟩]))

/-- 12 R385, R386, R389-R392: the ports of the chain link. A sequenced frame is accepted in order, and a NAK asks for
the one expected; what is not acknowledged is sent again, with RETX set and at most 8 times; a port that exhausts
its retries trains; an IDLE frame and a frame with a reserved KIND acknowledge; the round trip is halved. Model's
choice: a NAK acknowledges the frames before the one that it asks for (log entry 95). -/
def Obligations.ChainLinkPorts : Prop :=
  ∀ (s : State) (p : ChainPortId),
    let c := s.chPort p.val
    let again (h : Held) : Out := .frame p.val h.lseq c.rxSeq h.src h.dst true h.body
    let nakOut : Out := .frame p.val 0 c.rxSeq s.ownSrc 0xFF false (.nak (c.rxSeq + 1))
    (∀ (e : BitVec 16) (l r : List Held), s.portUp p.val = true → c.held = l ++ r → (∀ h ∈ r, h.lseq ≠ e - 1 ∧ h.tries < 8) →
      (l = [] ∨ ∃ l' h, l = l' ++ [h] ∧ h.lseq = e - 1 ∧ ∀ x ∈ l', x.lseq ≠ e - 1) → Gives (.nak p e) s fun t =>
        (t.chPort p.val).held = r.map (fun h => { h with tries := h.tries + 1 }) ∧ t.out = s.out ++ r.map again) ∧
    (s.portUp p.val = true → exec (.badFrame p .crc) s = .next (s.emit nakOut) ∧
      (∀ ack, exec (.badFrame p (.reserved (c.rxSeq + 1) ack)) s =
        .next (s.setChPort p.val { c with rxSeq := c.rxSeq + 1, held := ackHeld c.held ack })) ∧
      (∀ ack, exec (.badFrame p (.idle ack)) s = .next (s.setChPort p.val { c with held := ackHeld c.held ack }))) ∧
    (s.portUp p.val = true → (∀ h ∈ c.held, h.tries < 8) → Gives (.retransmitTimeout p) s fun t =>
      t.out = s.out ++ c.held.map again ∧ (t.chPort p.val).held = c.held.map (fun h => { h with tries := h.tries + 1 })) ∧
    (s.portUp p.val = true → (∃ h ∈ c.held, 8 ≤ h.tries ∨ h.sent + 2 ≤ s.timer) → Gives (.retryExhausted p) s fun t =>
      (t.chPort p.val).held = [] ∧ t.fld (A.chPstat p.val) 0 2 = 1 ∧
      t.fld (A.chPstat p.val) 16 16 = incTo 0xFFFF (s.fld (A.chPstat p.val) 16 16) ∧
      ∃ r ∈ t.raises, r.src = 65 + 2 * p.val) ∧
    (∀ n : BitVec 16, s.portUp p.val = true → exec (.portDelayMeasure p n) s =
      .next (s.setFld (A.chPdelay p.val) 0 16 (n.toNat / 2))) ∧
    (s.bit A.chCtl 0 = true → s.fld (A.chPstat p.val) 0 2 = 0 → s.islandUp 30 = true → exec (.partnerSignalDetect p) s =
      .next (s.setFld (A.chPstat p.val) 0 2 1)) ∧
    (∀ (h : ChHdr) (tag : Word), s.portUp p.val = true → h.lseq ≠ (s.chPort p.val).rxSeq + 1 →
      exec (.acc p h tag) s = .next (s.emit nakOut))

/-- 12 R385, R386, R394, R396, R397, R401, R403, R404: the chain. A port comes up and goes down; enumeration gives a
unit its index, and ends at the head; MARKs of consecutive grains, placed within 3 ns of a grain's length apart,
count as agreeing, and another begins a new run; stream words wait for their grain, and a STRM frame is sent with
what it holds. Model's choices: the instant of a MARK counts in whole ns (log entry 110), a port's numbering starts
anew as it comes up (14). -/
def Obligations.Chain : Prop :=
  ∀ s : State,
    (∀ (p : ChainPortId) (n : Nat), s.fld (A.chPstat p.val) 0 2 = 1 → n ≤ 200 → s.islandUp 30 = true → Gives (.chainPortUp p n) s fun t =>
      t.portUp p.val = true ∧ t.fld (A.chPdelay p.val) 0 16 = n * 100 / 256 ∧ (∃ r ∈ t.raises, r.src = 64 + 2 * p.val) ∧
      (p.val = 1 → s.isHead = true → s.chain.tokenSent = false → t.sentOn 1 (.enumToken 1 false))) ∧
    (∀ p : ChainPortId, Gives (.chainPortDown p) s fun t =>
      t.portUp p.val = false ∧ (t.chPort p.val).held = (s.chPort p.val).held ∧ (s.portUp p.val = true → Raised s t (64 + 2 * p.val) p.val 0)) ∧
    (∀ (h : ChHdr) (d : DomId) (g : DWord) (r : Word) (ns : SubNs), s.takes 0 h → Gives (.mark h d g r ns) s fun t =>
      let place : Int := (s.refNs ns.val : Int) - r.toNat - s.fld (A.chPdelay 0) 0 16 * 32 / 25 + 200
      ∀ e, e < 4 →
        let x := s.dom e
        let agrees : Prop := 0 < x.marks ∧ g = x.markGrain + 1 ∧
          ((place - x.markAt) * s.domHz e - 1000000000).natAbs ≤ 3 * s.domHz e
        let takes : Prop := s.domSrc e = 3 ∧ s.fld (A.rdCtl e) 12 2 = d.val ∧ s.domState e ≠ 0
        (takes → agrees → t.dom e = { x with marks := Nat.min 16 (x.marks + 1), markGrain := g, markAt := place, quiet := 0 }) ∧
        (takes → ¬ agrees → t.dom e = { x with marks := 1, markGrain := g, markAt := place, quiet := 0 }) ∧
        (¬ takes → t.dom e = x)) ∧
    (∀ (h : ChHdr) (n : BitVec 8) (o : Bool), s.takes 0 h → s.portUp 1 = true → let s1 := s.took 0 h
      (s1.isHead = true → s1.chain.requests = 0 → Gives (.enumToken h n o) s fun t =>
        t.sentOn 1 (.enumDone (if o then 64 else n) o) ∧ t.chain.tokenOut = false ∧ t.regs = s.regs) ∧
      (s1.isHead = false → s1.index = none → s1.role ≠ 2 → tokenIndex s1.role n.toNat ≤ 63 → Gives (.enumToken h n o) s fun t =>
        t.index = some (tokenIndex s1.role n.toNat) ∧ t.sentOn 1 (.enumToken (BitVec.ofNat 8 (tokenIndex s1.role n.toNat + 1)) o) ∧
        t.raises = s.raises) ∧
      Gives (.enumDone h n o) s fun t => t.fld A.chStat 16 7 = n.toNat % 128 ∧ Raised s t 72 0 0 ∧
        (s1.isHead = false → t.sentOn 1 (.enumDone n o))) ∧
    (∀ h : ChHdr, s.takes 0 h → s.portUp 1 = true →
      (s.isHead = true → s.chain.tokenOut = true → Gives (.enumRequest h) s fun t =>
        t.chain.requests = s.chain.requests + 1 ∧ t.out = s.out) ∧
      (s.isHead = true → s.chain.tokenOut = false → Gives (.enumRequest h) s fun t =>
        t.sentOn 1 (.enumToken 1 false) ∧ t.chain.tokenOut = true) ∧
      (s.isHead = false → Gives (.enumRequest h) s fun t => t.sentOn 1 .enumRequest)) ∧
    (s.portUp 1 = true → Gives .chCtlEnum s fun t =>
      (s.isHead = true → s.chain.tokenOut = false → t.sentOn 1 (.enumToken 1 false)) ∧
      (s.isHead = true → s.chain.tokenOut = true → t.chain.requests = s.chain.requests + 1 ∧ t.out = s.out) ∧
      (s.isHead = false → t.sentOn 1 .enumRequest)) ∧
    (∀ (h : ChHdr) (x : StrmEntry) (i : Nat), s.takes 0 h → let p := s.chain.page
      let e := s.chEntry 0 p i
      let sel (q : Nat) := (s.chLive 0 q).filter (fun i => cePeer (s.chEntry 0 q i) == h.src.toNat && ceSid (s.chEntry 0 q i) == x.sid.toNat)
      let r := s.tagGrain (ceDom e) x.tag + ceLink e - 1
      sel p = [i] → sel (1 - p) = [] → s.chShadow (ceDom e) r = false → x.chan.toNat < ceNch e →
      (s.lastFab (ceDom e) < r → Gives (.strm h [x]) s fun t =>
        t.chain.words = s.chain.words ++ [(64 * p + i, x.chan.toNat, r.toNat, x.word)] ∧ t.mem = s.mem) ∧
      (r ≤ s.lastFab (ceDom e) → Gives (.strm h [x]) s fun t =>
        t.chain.words = s.chain.words ∧ t.fld (A.chIstat i) 0 16 = incTo 0xFFFF (s.fld (A.chIstat i) 0 16))) ∧
    (∀ dst : BitVec 6, tget [] s.chain.filling dst.toNat ≠ [] → s.portUp 1 = true → Gives (.strmFlush dst) s fun t =>
      tget [] t.chain.filling dst.toNat = [] ∧
      t.out = s.out ++ [.frame 1 ((s.chPort 1).txSeq + 1) (s.chPort 1).rxSeq s.ownSrc (BitVec.ofNat 8 dst.toNat) false
        (.strm (tget [] s.chain.filling dst.toNat))])

/-- 12 R406, R407, R409, R411-R413, R417-R420: the twin. A member follows the HBs of its twin; a TAKE raises EPOCH; a
FENCE fences a STANDBY member; samples and digests are compared; a silenced member leaves at its frame, a drill to
STANDBY and a fault to FENCED; the drivers of a member that took over come on. -/
def Obligations.Twin : Prop :=
  ∀ s : State,
    (∀ (p : ChainPortId) (h : ChHdr) (st : BitVec 3) (drv : Bool) (e : Word) (g : DWord), s.takes p.val h →
      s.twin.lastHb.toNat ≤ g.toNat → Gives (.hb p h st drv e g) s fun t =>
        t.twin.lastHb = g ∧ t.twin.hbState = st ∧ t.twin.hbSeen = true ∧ t.rawReg A.twLasthb = g.setWidth 32 ∧
        (s.twState = twJoin → st = 3 → t.epoch = e) ∧
        (s.twState = twActive → s.epoch.toNat < e.toNat → s.silent = false → t.twState = twFenced ∧ t.drv = false)) ∧
    (∀ (p : ChainPortId) (h : ChHdr) (e : Word) (g : DWord), s.takes p.val h →
      (e.toNat ≤ s.epoch.toNat → exec (.take p h e g) s = .next (s.took p.val h)) ∧
      (s.epoch.toNat < e.toNat → s.paired = true → s.twState ≠ twActive →
        exec (.take p h e g) s = .next ((s.took p.val h).setReg A.twEpoch e))) ∧
    (∀ (p : ChainPortId) (h : ChHdr) (c : BitVec 8) (e : Word) (g : DWord), s.takes p.val h →
      (s.twState = twStandby → Gives (.fenceFrame p h c e g) s fun t =>
        t.twState = twFenced ∧ t.drv = false ∧ t.fld A.twStat 8 3 = c.toNat % 8 ∧ t.twin.inn = [] ∧
        ∃ r ∈ t.raises, r.src = 84) ∧
      (s.twState ≠ twStandby → exec (.fenceFrame p h c e g) s = .next (s.took p.val h))) ∧
    (∀ (p : ChainPortId) (h : ChHdr) (x : TSample), s.takes p.val h → s.paired = true → Gives (.tsamp p h [x]) s fun t =>
      let k := egrKey x.lane.val x.slot.val
      tget Egr.init t.twin.store k = (tget Egr.init s.twin.store k).put x.tag x.word ∧ t.out = s.out) ∧
    (∀ (p : ChainPortId) (h : ChHdr) (b : BenchId) (g : DWord) (ds : List Word), s.takes p.val h → s.paired = true →
      let k := g.toNat * 16 + b.val
      (tfind s.twin.own k = none → Gives (.tdig p h b g ds) s fun t => tfind t.twin.peer k = some ds ∧ t.raises = s.raises) ∧
      (tfind s.twin.own k = some ds → Gives (.tdig p h b g ds) s fun t =>
        tfind t.twin.peer k = none ∧ tfind t.twin.own k = none ∧ t.raises = s.raises ∧ t.regs = s.regs) ∧
      (∀ a i, tfind s.twin.own k = some a → i < 8 → a.getD i 0 ≠ ds.getD i 0 → s.twState = twStandby →
        (∀ j, j < 8 → j ≠ i → a.getD j 0 = ds.getD j 0) → Gives (.tdig p h b g ds) s fun t =>
          t.twState = twFenced ∧ t.fld A.twStat 8 3 = fcMismatch ∧
          t.fld A.twMiscnt 0 32 = incTo 0xFFFFFFFF (s.fld A.twMiscnt 0 32))) ∧
    (∀ n, s.silent = true → s.twin.h = some n → n + 3 ≤ (s.dom s.pairDom).cnt.toNat →
      (s.twin.drill = true → Gives .silencedRelease s fun t =>
        t.twState = twStandby ∧ t.drv = false ∧
        t.epoch = (if (s.epoch + 1).toNat < s.twin.recEpoch.toNat then s.twin.recEpoch else s.epoch + 1)) ∧
      (s.twin.drill = false → Gives .silencedRelease s fun t =>
        t.twState = twFenced ∧ t.drv = false ∧ t.fld A.twStat 8 3 = fcSilenced)) ∧
    (∀ n, s.twin.driveAt = some n → s.twState = twActive → Gives .twinDriveOn s fun t =>
      t.drv = true ∧ t.twin.driveAt = none ∧ t.twState = twActive)

/-- 12 R398, R399, R414-R416: commands over the chain and to a pair. A CMD frame puts a command in progress, a CPL frame
ends a forwarded one; the coordinating member sends PREP for a relayed command, its twin answers ACC, an ACC in time
is answered by COMMIT, a REJ by ABORT, and a COMMIT makes the command effective at its grain. Model's choice: what
PREP carries beyond the manual's table (log entry 37). -/
def Obligations.PairCommands : Prop :=
  ∀ (s : State) (h : ChHdr) (tag : Word) (pkt : Packet),
    (∀ (q : BitVec 16) (i : BitVec 2), s.takes 0 h → let s1 := s.took 0 h
      let o : Origin := .chain h.src q tag i
      (tget [] s.cmds.remote h.src.toNat).find? (fun e => e.1 == q && e.2.1 == pkSeq pkt) = none → s.findProg o (pkSeq pkt) = none →
      exec (.cmd h q tag i pkt) s = .next (s1.addProg ⟨o, pkSeq pkt, pkt, .ready, 0⟩)) ∧
    (∀ (q : BitVec 16) (c : BitVec 256) (rest : List InProg), s.takes 0 h →
      s.cmds.inprog = ⟨originOf q, tag, pkt, .forwarded, 0⟩ :: rest → Gives (.cpl h q tag c) s fun t =>
        t.cmds.inprog = rest ∧ ∃ d ∈ t.cmds.done, d.origin = originOf q ∧ d.c = (Completion.ofBits c).fwd) ∧
    ∀ p : ChainPortId, s.takes p.val h → let s1 := s.took p.val h
      (let r := s1.pairStep1 pkt s1.twinSrc;
        s1.isCoord pkt = true → r.1.portUp 2 = true →
        (goesOn r.2.1 = true → Gives (.relay p h tag pkt) s fun t =>
          t.twin.out = r.1.twin.out ++ [⟨r.1.twin.tag + 1, pkt, BitVec.ofNat 16 (pkOpcode pkt), none, false, r.2.2.1, r.2.2.2⟩] ∧
          t.sentOn 2 (.prep (r.1.twin.tag + 1) r.2.2.1 r.2.2.2 (r.1.rawReg A.twCfg) (r.1.dom (pkDom pkt)).cnt pkt)) ∧
        (goesOn r.2.1 = false → Gives (.relay p h tag pkt) s fun t =>
          t.twin = r.1.twin ∧ t.sentOn 2 (.rej tag (BitVec.ofNat 8 r.2.1.status)))) ∧
      (s1.isCoord pkt = false → s1.portUp 2 = true → Gives (.relay p h tag pkt) s fun t =>
        t.twin = s.twin ∧ t.sentOn 2 (.rej tag 0x60)) ∧
      (∀ c pid cfg cnt, let r := s1.twinCheck pkt c pid cfg cnt;
        r.1.portUp 2 = true →
        (r.2 = Verdict.ok → Gives (.prep p h tag c pid cfg cnt pkt) s fun t =>
          t.twin.inn = r.1.twin.inn ++ [⟨tag, pkt, BitVec.ofNat 16 (pkOpcode pkt), c, pid⟩] ∧ t.sentOn 2 (.acc tag)) ∧
        (r.2 ≠ Verdict.ok → Gives (.prep p h tag c pid cfg cnt pkt) s fun t =>
          t.twin.inn = r.1.twin.inn ∧ t.sentOn 2 (.rej tag (BitVec.ofNat 8 r.2.status)))) ∧
      (∀ (x : PrepOut) (rest : List PrepOut), s.twin.out = x :: rest → x.relayed = false → x.tag = tag → x.origin = none →
        pkOpcode x.pkt = 0x0102 → s.domRuns (pkDom x.pkt) = true → s1.portUp 2 = true →
        ((s.dom (pkDom x.pkt)).cnt.toNat + 1 < x.grain.toNat → Gives (.acc p h tag) s fun t =>
          t.twin.out = rest ∧ t.sentOn 2 (.commit tag) ∧
          ∃ src, t.cmds.commits = s.cmds.commits ++ [⟨0x0102, pkDom x.pkt, x.grain, x.pkt, pkSeq x.pkt, src, 0⟩]) ∧
        (x.grain.toNat ≤ (s.dom (pkDom x.pkt)).cnt.toNat + 1 → Gives (.acc p h tag) s fun t =>
          t.twin.out = rest ∧ t.sentOn 2 (.abort tag) ∧ t.cmds.commits = s.cmds.commits) ∧
        (∀ st, rest.all (fun y => y.tag != tag) = true → Gives (.rej p h tag st) s fun t =>
          t.twin.out = rest ∧ t.sentOn 2 (.abort tag) ∧ t.cmds.commits = s.cmds.commits)) ∧
      (∀ (x : PrepIn) (rest : List PrepIn), s.twin.inn = x :: rest → x.tag = tag → s.twin.out = [] → pkOpcode x.pkt = 0x0102 →
        (Gives (.commit p h tag) s fun t => t.twin.inn = rest ∧
          ∃ src, t.cmds.commits = s.cmds.commits ++ [⟨0x0102, pkDom x.pkt, x.grain, x.pkt, pkSeq x.pkt, src, 0⟩]) ∧
        (Gives (.abort p h tag) s fun t => t.twin.inn = rest ∧ t.cmds.commits = s.cmds.commits))

/-- 11 R356, R359, R362, R366, R373, R375-R379, R381, R382: the network. Frames that are too long are counted; a servo
listens, acquires and locks; a stream's sample waits for its release grain, or is counted as late; a media grain
joins the packet in preparation, and a complete packet its queue; the highest class that may send does; idle slopes
are bounded; a gate list switches as a whole, at a start of its cycle. An island that is down does nothing (01 R17).
Model's choice: a stamp is cut off to whole ns (log entry 22). -/
def Obligations.Network : Prop :=
  ∀ (s : State) (e : EthId) (edge : NetEdge), let n := e.val
    let up : Prop := s.islandUp 29 = true
    let ns := edgeNs edge.val
    (up → s.ethEn n = true → s.ethLink n = true →
      (∀ len tags k, 1522 < len ∨ 1 < tags → exec (.ethFrameReceive e len tags k edge) s =
        .next (s.setFld (A.netPstat n) 16 16 (incTo 0xFFFF (s.fld (A.netPstat n) 16 16)))) ∧
      (∀ len tags, len ≤ 1522 → tags ≤ 1 →
        (∀ gm dom, s.ethProto n ≠ 0 → dom.toNat = s.ethPdom n → s.ethRole n ≠ 1 → s.servo n = 1 →
          Gives (.ethFrameReceive e len tags (.ptp dom (.masterSelected gm)) edge) s fun t =>
          t.servo n = 2 ∧ (t.ethPort n).gm = gm ∧ ((s.ethPort n).gm = gm → t.raises = s.raises) ∧
          ((s.ethPort n).gm ≠ gm → Raised s t (451 + 4 * n) n 0)) ∧
        (∀ dom, s.ethProto n ≠ 0 → dom.toNat = s.ethPdom n → s.ethRole n ≠ 2 → s.servo n = 1 →
          Gives (.ethFrameReceive e len tags (.ptp dom .bmcaWon) edge) s fun t => t.servo n = 4 ∧ Raised s t (449 + 4 * n) n 0) ∧
        (∀ m dom, s.ethProto n = 0 ∨ dom.toNat ≠ s.ethPdom n → exec (.ethFrameReceive e len tags (.ptp dom m) edge) s = .next s) ∧
        (∀ (ofs : Int) (g : DWord) dom, s.ethProto n ≠ 0 → dom.toNat = s.ethPdom n → s.fld A.netCtl 0 4 ≠ n →
          (s.servo n = 2 → (s.ethPort n).syncs = 15 → ofs.natAbs ≤ 100 →
            Gives (.ethFrameReceive e len tags (.ptp dom (.sync ofs g)) edge) s fun t =>
              t.servo n = 3 ∧ t.rawReg (A.netOfs n) = BitVec.ofInt 32 ofs ∧ Raised s t (449 + 4 * n) n 0) ∧
          (s.servo n = 3 → (s.ethPort n).bad = 3 → 1000 < ofs.natAbs → (∀ d, d < 4 → s.domSrc d ≠ 2) →
            Gives (.ethFrameReceive e len tags (.ptp dom (.sync ofs g)) edge) s fun t =>
              t.servo n = 2 ∧ Raised s t (450 + 4 * n) n 0)) ∧
        (∀ (ip : Word) (port : BitVec 16) (ts : Word) (bs : List Byte) (i : Nat),
          let key := ip.toNat + port.toNat * 2 ^ 32
          let x := s.netEntry 0 s.net.page i
          let r := s.mediaGrain x true ts 0 + neLink x - 1
          s.netMatch s.net.page n 0 key = some (i, x) → s.netMatch (1 - s.net.page) n 0 key = none →
          bs.length = neNch x * sfmtBytes (neSfmt x) → bs ≠ [] → s.netShadow (neDom x) r = false →
          (s.lastFab (neDom x) < r → r < (s.dom (neDom x)).cnt.toNat + 2048 →
            (∀ y ∈ s.net.store, ¬(y.page = s.net.page ∧ y.stream = i ∧ (y.grain : Int) = r)) →
            Gives (.ethFrameReceive e len tags (.rtp ip port ts bs) edge) s fun t =>
              t.net.store = s.net.store ++ [⟨s.net.page, i, r.toNat, (List.range (neNch x)).map fun c =>
                netWord x ((bs.drop (c * sfmtBytes (neSfmt x))).take (sfmtBytes (neSfmt x)))⟩] ∧ t.regs = s.regs) ∧
          (r ≤ s.lastFab (neDom x) → Gives (.ethFrameReceive e len tags (.rtp ip port ts bs) edge) s fun t =>
            t.net.store = s.net.store ∧
            t.fld (A.netIstat0 i) 0 16 = incTo 0xFFFF (s.fld (A.netIstat0 i) 0 16))))) ∧
    (up → s.servo n = 3 → (∀ d, d < 4 → s.domSrc d ≠ 2) → Gives (.syncTimeout e) s fun t =>
      t.servo n = 2 ∧ Raised s t (450 + 4 * n) n 0) ∧
    (up → s.ethLink n = false → s.ethEn n = true → Gives (.linkChange e true) s fun t =>
      t.ethLink n = true ∧ Raised s t (448 + 4 * n) n 0 ∧
      (s.servo n = 0 → t.servo n = if s.ethProto n = 0 then 0 else 1)) ∧
    (up → s.ethLink n = true → s.servo n < 3 → Gives (.linkChange e false) s fun t =>
      t.ethLink n = false ∧ Raised s t (448 + 4 * n) n 0 ∧ t.servo n = 1) ∧
    (∀ (d : DomId) (i : Nat), let g := (s.dom d.val).fab - 1
      let p := s.netPageOf d.val g
      let x := s.netEntry 1 p i
      let word (c : Nat) : Word := ((tget Egr.init s.net.egr (i * 64 + c)).load
        ((if neArrive x then g else g - 1).setWidth 16) (neFb x) none).2.val
      up → (s.dom d.val).fabOn = true → s.netFrozen = false → s.netLive 1 p = [i] → (∀ y ∈ s.net.outstat, y.1 = i) →
      neDom x = d.val →
      ((s.outstat i).preps = [] → g.toNat % s.neSpp x = 0 → Gives (.netEgressLoad d) s fun t =>
        (t.outstat i).preps = [⟨p, g, [(List.range (neNch x)).map word]⟩] ∧ t.net.ports = s.net.ports) ∧
      (∀ a ws, (s.outstat i).preps = [⟨p, a, ws⟩] → a.toNat + ws.length = g.toNat → ws.length + 1 = s.neSpp x →
        g.toNat % s.neSpp x ≠ 0 → (∀ y ∈ s.net.ports, ∀ q ∈ y.2.txq, q.2.any (isStream i) = false) →
        let body := (ws ++ [(List.range (neNch x)).map word]).flatMap (fun y => (y.take (neNch x)).flatMap (netBytes x))
        Gives (.netEgressLoad d) s fun t =>
          (t.outstat i).preps = [] ∧ (t.outstat i).seqno = (s.outstat i).seqno + 1 ∧
          tget [] (t.ethPort (nePort x)).txq (neTc x) = tget [] (s.ethPort (nePort x)).txq (neTc x) ++
            [.stream i (s.tmplHdr (neTmpl x)) (s.pktFill x a (s.outstat i).seqno body.length) body])) ∧
    (up → s.ethEn n = true → s.ethLink n = true →
      (∀ c x, c < 8 → s.txReady n c ns = some x → (∀ u, c < u → u < 8 → s.txReady n u ns = none) →
        Gives (.ethFrameTransmit e edge) s fun t =>
          tget [] (t.ethPort n).txq c = (tget [] (s.ethPort n).txq c).drop 1 ∧
          ((∀ q h f, x ≠ .host q h f) → t.out = s.out ++ [.ethFrame n c x]) ∧
          (∀ q h f, x = .host q h f → let w : StreamWb := ⟨h, 1, f.length, s.stamp n edge 16⟩
            (s.qFn q < 2 → s.fnReady (s.qFn q) = true → s.qState q = 1 →
              t.out = s.out ++ [.ethFrame n c x, .streamWb q w]) ∧
            (¬(s.qFn q < 2 ∧ s.fnReady (s.qFn q) = true) →
              t.out = s.out ++ [.ethFrame n c x] ∧ (t.qst q).wbs = (s.qst q).wbs ++ [w]))) ∧
      ((∀ u, u < 8 → s.txReady n u ns = none) → exec (.ethFrameTransmit e edge) s = .next s)) ∧
    (∀ c x, s.txReady n c ns = some x → (tget [] (s.ethPort n).txq c).head? = some x) ∧
    (s.islandUp 29 = false → ∀ len tags k d, ∀ i ∈ [Instr.ethFrameReceive e len tags k edge, .syncTimeout e, .linkChange e true,
      .linkChange e false, .netEgressLoad d, .ethFrameTransmit e edge, .gateListSwitch e edge], exec i s = .next s) ∧
    (∀ (c : Fin 8) (v : Word),
      let total := ((List.range 8).map fun u => if u = c.val then fget v 0 17 else s.fld (A.netCbs n u) 0 17).sum
      (3 * s.ethRate n < 4 * total → exec (.netCbsWrite e c v) s = .next (s.setFld (A.netPstat n) 1 1 1)) ∧
      (4 * total ≤ 3 * s.ethRate n → Gives (.netCbsWrite e c v) s fun t =>
        t.fld (A.netCbs n c.val) 0 17 = fget v 0 17 ∧ t.bit (A.netPstat n) 1 = s.bit (A.netPstat n) 1)) ∧
    (∀ v : Word, Gives (.gclChange e v) s fun t =>
      t.bit (A.netGclCtl n) 2 = true ∧ t.fld (A.netGclCtl n) 0 1 = fget v 0 1 ∧
      t.fld (A.netGclCtl n) 3 8 = fget v 3 8) ∧
    (up → s.bit (A.netGclCtl n) 2 = true → s.cycleStart n ns = false → exec (.gateListSwitch e edge) s = .next s) ∧
    (up → s.bit (A.netGclCtl n) 2 = true → s.cycleStart n ns = true → Gives (.gateListSwitch e edge) s fun t =>
      t.bit (A.netGclCtl n) 2 = false ∧ (t.ethPort n).operOn = true ∧
      (t.ethPort n).operBase = s.reg64 (A.netGclBaseLo n) (A.netGclBaseHi n) ∧
      (t.ethPort n).operCycle = s.rawReg (A.netGclCycle n) ∧
      (t.ethPort n).operGates = (List.range (s.fld (A.netGclCtl n) 3 8 + 1)).map (fun i => s.rawReg (A.netGate n i))) ∧
    (∀ who : Requester, s.mainReach who.val = true → Gives (.netUtimeRead who) s fun t =>
      t.rawReg A.netUtimeHi = BitVec.ofNat 32 (s.utime / 2 ^ 32) ∧
      t.out = s.out ++ [.readData who.val (BitVec.ofNat 32 s.utime)])

/-- 14 R460, R462, R464, R466: a command packet ends at the first check that it fails, with that check's status, and
nothing is committed: a reserved field, a parameter, a commit grain that is not allowed, too far ahead or too late,
a limit, a COMMIT where the opcode uses none. -/
def Obligations.CommandChecks : Prop :=
  ∀ (s : State) (o : Origin) (p : Packet) (rest : List InProg) (i : Origin → Packet → Instr) (op : Nat) (x : Op),
    CommandRow i op → pkOpcode p = op → opOf op = some x → s.inHand o p rest → s.isPairCmd p = false →
    (4 ≤ pk p 2 1 → Gives (i o p) s fun t => t.ended o p ⟨0x12, 2, 0xFFFFFFFF⟩ 0 s.unitCode rest ∧ t.cmds.commits = s.cmds.commits) ∧
    (pk p 2 1 < 4 → pk p 10 6 ≠ 0 → Gives (i o p) s fun t =>
      t.ended o p ⟨0x12, 10, 0xFFFFFFFF⟩ 0 s.unitCode rest ∧ t.cmds.commits = s.cmds.commits) ∧
    (∀ b, pk p 2 1 < 4 → pk p 10 6 = 0 → paramReserved (pkFields x p) p = some b → Gives (i o p) s fun t =>
      t.ended o p ⟨0x12, b, 0xFFFFFFFF⟩ 0 s.unitCode rest ∧ t.cmds.commits = s.cmds.commits) ∧
    (∀ v, reservedAt x p = none → firstFail (s.paramRules p) = some v → Gives (i o p) s fun t =>
      t.ended o p v 0 s.unitCode rest ∧ t.cmds.commits = s.cmds.commits) ∧
    (let u := (s.checkPacket p).1;
      (s.checkPacket p).2 = Verdict.ok → x.used = true → op ≠ 0x0600 → pkCommit p ≠ 0 →
      let cur := (u.dom (pkDom p)).cnt.toNat
      (u.domRuns (pkDom p) = false → Gives (i o p) s fun t =>
        t.ended o p ⟨0x11, 2, 0xFFFFFFFF⟩ 0 u.unitCode rest ∧ t.cmds.commits = s.cmds.commits) ∧
      (u.domRuns (pkDom p) = true → cur + 2 ^ 24 < (pkCommit p).toNat → Gives (i o p) s fun t =>
        t.ended o p ⟨0x11, 16, 0xFFFFFFFF⟩ 0 u.unitCode rest ∧ t.cmds.commits = s.cmds.commits) ∧
      (u.domRuns (pkDom p) = true → (pkCommit p).toNat < cur + 2 → Gives (i o p) s fun t =>
        t.ended o p ⟨0x30, 0xFFFF, 0xFFFFFFFF⟩ 0 u.unitCode rest ∧ t.cmds.commits = s.cmds.commits) ∧
      (u.domRuns (pkDom p) = true → cur + 2 ≤ (pkCommit p).toNat → (pkCommit p).toNat ≤ cur + 2 ^ 24 → op ≠ 0x0100 →
        u.resourceBusy p (pkCommit p) = true → Gives (i o p) s fun t =>
          t.ended o p ⟨0x60, 0xFFFF, 0xFFFFFFFF⟩ 0 u.unitCode rest ∧ t.cmds.commits = s.cmds.commits)) ∧
    (s.checkPacket p = (s, Verdict.ok) → x.used = false → op / 256 ≠ 6 → op ≠ 0x0900 → pkCommit p ≠ 0 → Gives (i o p) s fun t =>
      t.ended o p ⟨0x11, 16, 0xFFFFFFFF⟩ 0 s.unitCode rest ∧ t.cmds.commits = s.cmds.commits)

/-- 14 R467, R468, R477, R482: the commands that are executed when they are validated, and what each answers. A reset
waits for its completion to be written; a queue command writes the descriptor as the host would. -/
def Obligations.CommandsNow : Prop :=
  ∀ (s : State) (o : Origin) (p : Packet) (rest : List InProg), s.inHand o p rest → pkCommit p = 0 → s.stateBusy p = false →
    s.checkPacket p = (s, Verdict.ok) →
    let okay (t : State) : Prop := t.ended o p ⟨0, 0xFFFF, 0xFFFFFFFF⟩ 0 s.unitCode rest
    let q := pk p 24 2
    let fn := s.issuerCode o
    let mine : Prop := (2 ≤ fn ∨ s.qFn q = fn) ∧ (s.qFn q < 2 → s.ifrstBusy (s.qFn q) = false)
    (pkOpcode p = 0x0000 → Gives (.cmdNop o p) s fun t => okay t ∧ t.cmds.commits = s.cmds.commits ∧ t.mem = s.mem) ∧
    (pkOpcode p = 0x0001 → Gives (.ident o p) s fun t =>
      t.ended o p ⟨0, 0xFFFF, 0xFFFFFFFF⟩ (0x9612 + (if Config.gradeE then 1 else 0) * 2 ^ 16 + Config.stepping.toNat * 2 ^ 24 +
        Config.firmware.toNat % 2 ^ 16 * 2 ^ 32 + s.index.getD 0 * 2 ^ 48 + (if s.index.isSome then 1 else 0) * 2 ^ 54 +
        s.role * 2 ^ 55 + (if s.debugOpen then 1 else 0) * 2 ^ 57) s.unitCode rest) ∧
    (pkOpcode p = 0x0002 → Gives (.time o p) s fun t =>
      let d := s.dom (pk p 24 1)
      t.ended o p ⟨0, 0xFFFF, (s.utime - d.btime.toNat) % 2 ^ 32⟩ d.cnt.toNat s.unitCode rest) ∧
    (pkOpcode p = 0x0003 → Gives (.interfaceReset o p) s fun t =>
      okay t ∧ t.cmds.resets = s.cmds.resets ++ [(o, pkSeq p, pk p 24 1)]) ∧
    (pkOpcode p = 0x0004 → Gives (.unitReset o p) s fun t => okay t ∧ t.cmds.resets = s.cmds.resets ++ [(o, pkSeq p, 2)]) ∧
    (pkOpcode p = 0x0500 → mine → s.qState q = 0 → Gives (.queueSet o p) s fun t =>
      okay t ∧ t.fld (A.qCtl q) 1 2 = pk p 26 1 % 4 ∧ t.bit (A.qCtl q) 3 = pkBit p 26 2 ∧ t.fld (A.qSize q) 0 16 = pk p 28 2 ∧
      t.fld (A.qLink q) 0 16 = pk p 40 2 ∧ t.fld (A.qIrq q) 0 12 = pk p 42 2 % 2 ^ 12 ∧
      t.fld (A.qMod q) 0 16 = pk p 44 2 ∧ t.fld (A.qMod q) 16 16 = pk p 46 2 ∧ t.qState q = 0) ∧
    (pkOpcode p = 0x0501 → mine → pkBit p 26 0 = true → s.qEn q = false → s.enableOk fn q = true →
      Gives (.queueEnable o p) s fun t => okay t ∧ t.qState q = 1 ∧ t.qEn q = true ∧ t.qHd q = 0 ∧ t.qTl q = 0) ∧
    (pkOpcode p = 0x0501 → mine → pkBit p 26 0 = true → s.bad 7 q = false → s.qEn q = false → s.enableOk fn q = false →
      Gives (.queueEnable o p) s fun t =>
        t.ended o p ⟨0x11, 26, 0xFFFFFFFF⟩ 0 s.unitCode rest ∧ t.qEn q = false ∧ t.fld (A.qStat q) 4 4 = 1) ∧
    (pkOpcode p = 0x0502 → mine → s.qState q = 0 → s.qEn q = false → (∀ x, o = .sq x → x.val ≠ q) → Gives (.queueSeqclr o p) s fun t =>
      okay t ∧ (t.qst q).window = [] ∧ t.rawReg (A.qSeqhi q) = 0) ∧
    (fn < 2 → s.qFn q ≠ fn →
      (pkOpcode p = 0x0500 → Gives (.queueSet o p) s fun t =>
        t.ended o p ⟨0x20, 24, 0xFFFFFFFF⟩ 0 s.unitCode rest ∧ t.fld (A.qStat q) 4 4 = 5) ∧
      (pkOpcode p = 0x0501 → Gives (.queueEnable o p) s fun t =>
        t.ended o p ⟨0x20, 24, 0xFFFFFFFF⟩ 0 s.unitCode rest ∧ t.qEn q = s.qEn q) ∧
      (pkOpcode p = 0x0502 → Gives (.queueSeqclr o p) s fun t => t.ended o p ⟨0x20, 24, 0xFFFFFFFF⟩ 0 s.unitCode rest)) ∧
    (pkOpcode p = 0x0800 → Gives (.spallSet o p) s fun t => okay t ∧ t.fld A.spallCtl 0 1 = pk p 24 1 % 2) ∧
    (pkOpcode p = 0x0801 → Gives (.spallStatus o p) s fun t =>
      t.ended o p ⟨0, 0xFFFF, (s.rawReg A.spallFailcnt).toNat⟩ (s.rawReg A.spallPeriods).toNat s.unitCode rest) ∧
    (pkOpcode p = 0x0901 → pk p 24 1 = 0 → Gives (.monitor o p) s fun t => okay t ∧ t.bit A.dbgStat 2 = false) ∧
    (pkOpcode p = 0x0901 → pk p 24 1 ≠ 0 → s.bit A.dbgStat 2 = false → Gives (.monitor o p) s fun t =>
      okay t ∧ t.bit A.dbgStat 2 = true ∧ t.fld A.dbgStat 3 1 = pk p 24 1 - 1)

/-- 02 R71-R73, R75, 14 R464, R469, R474, R475, 03 R108, 04 R132, R153, 11 R368, 12 R402: a command with a commit grain
that passes its checks is accepted for that grain, or, where COMMIT is 0, for the first that can be met, in order of
acceptance; its completion reports the grain; a page pair shows that a commit is pending. -/
def Obligations.CommandsCommitted : Prop :=
  ∀ (s : State) (o : Origin) (p : Packet) (rest : List InProg), let u := (s.checkPacket p).1
    s.inHand o p rest → s.isPairCmd p = false → (s.checkPacket p).2 = Verdict.ok → u.domRuns (pkDom p) = true →
    let cur := (u.dom (pkDom p)).cnt.toNat
    let c : DWord := if pkCommit p = 0 then BitVec.ofNat 64 (cur + 2) else pkCommit p
    cur + 2 ^ 25 < 2 ^ 64 → cur + 2 ≤ c.toNat → c.toNat ≤ cur + 2 ^ 24 → u.stateBusy p = false → u.resourceBusy p c = false →
    let good (op : Nat) (i : Origin → Packet → Instr) (more : State → Prop) : Prop :=
      pkOpcode p = op → Gives (i o p) s fun t =>
        t.ended o p ⟨0, 0xFFFF, 0xFFFFFFFF⟩ c.toNat u.unitCode rest ∧
        t.cmds.commits = s.cmds.commits ++ [⟨BitVec.ofNat 16 op, pkDom p, c, p, pkSeq p, u.originIndex o, 0⟩] ∧
        t.mem = s.mem ∧ more t
    (u.imageInTime p c = true → good 0x0100 .loadImage fun t => t.cmds.images = s.cmds.images ++ [⟨p, false⟩]) ∧
    (u.imageInTime p c = false → pkOpcode p = 0x0100 → Gives (.loadImage o p) s fun t =>
      t.ended o p ⟨0x30, 0xFFFF, 0xFFFFFFFF⟩ 0 u.unitCode rest ∧ t.cmds.commits = s.cmds.commits) ∧
    good 0x0101 .startCore (fun _ => True) ∧
    good 0x0102 .stopCore (fun _ => True) ∧
    good 0x0103 .bankAssign (fun _ => True) ∧
    good 0x0200 .paramWrite (fun _ => True) ∧
    good 0x0300 .routeCommit (fun t => t.bit A.fabStat 2 = true) ∧
    good 0x0301 .taplistCommit (fun t => t.bit (A.fthStat (pk p 24 1)) 2 = true) ∧
    good 0x0400 .slotmapCommit (fun t => t.bit (A.pgStat (pk p 24 1)) 3 = true) ∧
    good 0x0401 .netstreamCommit (fun t => t.bit A.netStat 2 = true) ∧
    good 0x0402 .chainstreamCommit (fun t => t.bit A.chStat 14 = true) ∧
    good 0x0403 .dmaStart (fun _ => True) ∧
    good 0x0404 .dmaStop (fun _ => True) ∧
    good 0x0405 .domainResync (fun _ => True) ∧
    good 0x0406 .timeConfig (fun _ => True) ∧
    (s.twState ≠ twSolo → good 0x0701 .unpair fun _ => True)

/-- 14 R470, R478, R480, R483, 16 R515, R516, R518-R521: protected changes. A PROPOSE waits for concurrence under the
next identifier; a CONCUR with its digest, in its window, commits it; a WITHDRAW discards it; without either it
lapses; an UNLOCK needs both authorities; an image that has been copied stands in its banks, and one whose copy
fails is skipped with source 33. Model's choices for UNLOCK: one request at a time, its digest checked when it is
opened, NOT_AUTHORISED with DETAIL 0 for the same authority (log entry 33); a failed copy is skipped at once (129). -/
def Obligations.ProtectionCommands : Prop :=
  ∀ (s : State) (o : Origin) (p : Packet) (rest : List InProg),
    let pid : Word := BitVec.ofNat 32 (pk p 24 4)
    let aux (n : Nat) : Verdict := ⟨0x21, 0xFFFF, n⟩
    (s.inHand o p rest → s.isPairCmd p = false → s.checkPacket p = (s, Verdict.ok) →
      (∀ (c : DWord) (i : Nat), pkOpcode p = 0x0600 → s.proposeCheck p (pkCommit p) = (s, none) → s.commitGrain p = (Verdict.ok, c) →
        s.proposeBusy p = false → s.stateBusy p = false → s.freeSlot = some i → Gives (.propose o p) s fun t =>
          t.ended o p (aux s.prot.nextPid.toNat) c.toNat s.unitCode rest ∧
          tget none t.prot.slots i = some ⟨s.prot.nextPid, BitVec.ofNat 8 (pk p 24 1), pkDom p, 1, pk p 26 2, pk p 28 2, c,
            s.timer + s.fld A.protCwin 0 22, BitVec.ofNat 64 (pk p 40 8), s.stagedWords p, pkSeq p, s.originIndex o, 0⟩ ∧
          t.prot.nextPid = pidNext s.prot.nextPid ∧ t.cmds.commits = s.cmds.commits) ∧
      (∀ (i : Nat) (x : Proposal), pkOpcode p = 0x0601 → s.slotOf pid = some (i, x) →
        (∀ e ∈ s.prot.slots, ∀ y, e.2 = some y → y.pid = pid → e.1 = i ∧ y = x) → x.state = 1 → pkCommit p = 0 →
        s.commitCount < 4096 → s.stateBusy p = false →
        (x.digest = BitVec.ofNat 64 (pk p 40 8) → s.tooLate x = false → Gives (.concur o p) s fun t =>
          t.ended o p ⟨0, 0xFFFF, 0xFFFFFFFF⟩ x.grain.toNat s.unitCode rest ∧
          t.cmds.commits = s.cmds.commits ++ [⟨0x0600, x.dom, x.grain, 0, x.seq, x.origin, x.pid⟩]) ∧
        (x.digest ≠ BitVec.ofNat 64 (pk p 40 8) → Gives (.concur o p) s fun t =>
          t.ended o p ⟨0x20, 40, 0xFFFFFFFF⟩ 0 s.unitCode rest ∧ t.prot.slots = s.prot.slots ∧
          t.cmds.commits = s.cmds.commits ∧ Raised s t 38 x.pid.toNat (x.kind.toNat + 256)) ∧
        (x.digest = BitVec.ofNat 64 (pk p 40 8) → s.tooLate x = true → Gives (.concur o p) s fun t =>
          t.ended o p ⟨0x30, 0xFFFF, 0xFFFFFFFF⟩ 0 s.unitCode rest ∧ tget none t.prot.slots i = none ∧
          t.cmds.commits = s.cmds.commits)) ∧
      (∀ (i : Nat) (x : Proposal), pkOpcode p = 0x0602 → s.slotOf pid = some (i, x) → pkCommit p = 0 → s.stateBusy p = false →
        (x.state ≠ 2 → Gives (.withdraw o p) s fun t =>
          t.ended o p ⟨0, 0xFFFF, 0xFFFFFFFF⟩ 0 s.unitCode rest ∧ tget none t.prot.slots i = none) ∧
        (x.state = 2 → Gives (.withdraw o p) s fun t =>
          t.ended o p ⟨0x11, 24, 0xFFFFFFFF⟩ 0 s.unitCode rest ∧ t.prot.slots = s.prot.slots)) ∧
      (pkOpcode p = 0x0900 → pkCommit p = 0 → s.stateBusy p = false → s.debugOpen = false →
        let byA : Bool := s.issuerCode o == 0
        (pk p 24 4 = 0 → s.unlockWaits = none → s.protDigest 0xFF (pkDom p) 0 0 0 [] = BitVec.ofNat 64 (pk p 40 8) →
          Gives (.unlock o p) s fun t =>
            t.ended o p (aux s.prot.nextPid.toNat) 0 s.unitCode rest ∧
            t.prot.unlock = some ⟨s.prot.nextPid, byA, BitVec.ofNat 64 (pk p 40 8), s.timer + s.fld A.protCwin 0 22⟩ ∧
            t.fld A.dbgStat 0 2 = s.fld A.dbgStat 0 2) ∧
        (∀ r : UnlockReq, pk p 24 4 ≠ 0 → s.prot.unlock = some r → r.pid.toNat = pk p 24 4 →
          (r.byA = byA → Gives (.unlock o p) s fun t =>
            t.ended o p ⟨0x20, 0, 0xFFFFFFFF⟩ 0 s.unitCode rest ∧ t.prot.unlock = some r) ∧
          (r.byA ≠ byA → r.digest.toNat = pk p 40 8 → s.timer < r.wend → s.paired = false → Gives (.unlock o p) s fun t =>
            t.prot.unlock = none ∧ t.fld A.dbgStat 0 2 = 2)))) ∧
    (∀ (i : Nat) (x : Proposal), s.slotOf x.pid = some (i, x) → x.state = 1 →
      (s.tooLate x = true → Gives (.protectLapsed x.pid) s fun t =>
        tget none t.prot.slots i = some { x with state := 3, lapsedAt := s.prot.lapses } ∧
        t.fld A.protLapcnt 0 32 = incTo 0xFFFFFFFF (s.fld A.protLapcnt 0 32) ∧ Raised s t 37 x.pid.toNat x.kind.toNat) ∧
      (s.tooLate x = false → exec (.protectLapsed x.pid) s = .next s)) ∧
    (∀ (d : BitVec 48) (im : Packet) (c : Commit), s.cmds.images = [⟨im, false⟩] → pk im 32 8 = d.toNat → c ∈ s.cmds.commits →
      c.opcode = 0x0100 → c.pkt = im → (∀ x ∈ s.cmds.commits, x.opcode = 0x0100 → x.pkt = im → x = c) → s.islandUp 33 = true →
      let src := pk im 24 8
      let n := pk im 40 4
      (Gives (.loadImageCopyDone d false) s fun t =>
        t.cmds.images = [] ∧ t.cmds.commits = s.cmds.commits.filter (fun x => x != c) ∧ t.mem = s.mem ∧
        Raised s t 33 0x0100 (c.seq.toNat + c.origin.toNat * 2 ^ 32)) ∧
      (s.rangeWaits src n = false → s.rangeWaits d.toNat n = false → src % 64 = 0 → d.toNat % 64 = 0 → n % 64 = 0 →
        (src + n ≤ d.toNat ∨ d.toNat + n ≤ src) →
        (∀ k, k < n / 64 → let a := src + 64 * k
          let b := d.toNat + 64 * k
          (inBanks b = true ∧ s.awake (bankOf b) = true ∧ s.owner (bankOf b) = 141 ∧ s.portAReads b 64 = false) ∧
          ((inBanks a = true ∧ s.awake (bankOf a) = true ∧ s.owner (bankOf a) = 141 ∧
              (wordsOf a 64).any (fun w => s.portAWrites w) = false) ∨
            (inFar a = true ∧ s.stackFailed (stackOf a) = false ∧ s.islandUp 32 = true))) →
        Gives (.loadImageCopyDone d true) s fun t => t.cmds.images = [⟨im, true⟩] ∧
          t.cmds.commits = s.cmds.commits ∧ ∀ k, k < n → memByte t.mem (d.toNat + k) = memByte s.mem (src + k)) ∧
      (s.rangeWaits src n = false → s.rangeWaits d.toNat n = false → inFar src = false → n / 64 ≠ 0 →
        (∀ k, k < n / 64 → s.awake (bankOf (d.toNat + 64 * k)) = true ∧ s.owner (bankOf (d.toNat + 64 * k)) ≠ 141) →
        Gives (.loadImageCopyDone d true) s fun t => t.cmds.images = [] ∧ t.mem = s.mem ∧
          t.cmds.commits = s.cmds.commits.filter (fun x => x != c) ∧ ∃ r ∈ t.raises, r.src = 33 ∧ r.obj = 0x0100))

/-- 12 R414, R415, 14 R481, 16 R524: a pair command received here. The ACTIVE member, or the EVEN member for a PAIR,
validates it and sends PREP; the other member relays it to the ACTIVE member. Until then it is in progress. Model's
choice: what PREP carries beyond the manual's table (log entry 37). -/
def Obligations.PairCommandsStart : Prop :=
  ∀ (s : State) (o : Origin) (p : Packet) (rest : List InProg), s.inHand o p rest → s.isPairCmd p = true →
    let starts (i : Instr) : Prop :=
      (let r := s.pairStep1 p (s.originIndex o)
        let t1 := r.1
        let c := r.2.2.1
        let pid := r.2.2.2
        s.isCoord p = true → (r.2.1.status = 0 ∨ r.2.1.status = 0x21) → t1.portUp 2 = true → Gives i s fun t =>
          t.sentOn 2 (.prep (t1.twin.tag + 1) c pid (t1.rawReg A.twCfg) (t1.dom (pkDom p)).cnt p) ∧
          t.twin.out = t1.twin.out ++ [⟨t1.twin.tag + 1, p, BitVec.ofNat 16 (pkOpcode p), some o, false, c, pid⟩] ∧
          (t.findProg o (pkSeq p)).isSome = true) ∧
      (s.isCoord p = false → s.portUp 2 = true → Gives i s fun t =>
        t.sentOn 2 (.relay (s.twin.tag + 1) p) ∧ t.cmds.done = s.cmds.done ∧
        (t.findProg o (pkSeq p)).isSome = true) ∧
      (s.isCoord p = false → s.pairPath = none → Gives i s fun t =>
        t.ended o p ⟨0x50, 0xFFFF, 0xFFFFFFFF⟩ 0 s.unitCode rest)
    (pkOpcode p = 0x0700 → starts (.pair o p)) ∧
    (pkOpcode p = 0x0702 → starts (.takeoverDrill o p)) ∧
    (∀ (i : Origin → Packet → Instr) (op : Nat), CommandRow i op → pkOpcode p = op → starts (i o p))

/-- 10 R343, R346, R348-R352, R354, 05 R179: the instructions of a DMA sequencer, each as the one at the PC. A SETI,
SETH or ALUI writes its d register; WAITG waits for its grain; DLVB opens a delivery and DLVE writes its ready word;
what must wait for the transactions does; HAND and REL write BANK_OWN; INVAL takes its benches; END leaves IDLE. An
undefined operation code is an error. Model's choice: INVAL shows in FWC_STAT (log entry 97). -/
def Obligations.DmaInstructions : Prop :=
  ∀ (s : State) (k : SeqrId) (w : DWord), let n := k.val
    let pc := s.dmaPc n
    let dD := s.dreg n (diD w)
    let sets (v : DWord) (t : State) : Prop :=
      t.dmaWent n (pc + 1) ∧ t.dreg n (diD w) = v ∧ ∀ i, i < 8 → i ≠ diD w → t.dreg n i = s.dreg n i
    (s.dmaAt n 0x01 w → Gives (.seti k w) s (sets ((w.setWidth 48).setWidth 64))) ∧
    (s.islandUp 32 = true → s.dmaState n = 1 → (s.seqr n).wait = .none → (s.seqr n).err = none → (s.seqr n).stop = false →
      s.dmaFrozen n = false → s.dmaInstr n pc = w → 0x10 ≤ diOpc w → (s.seqr n).txs = [] → Gives (.seti k w) s fun t => t.dmaErred n 1 pc 0) ∧
    (s.dmaAt n 0x02 w → Gives (.seth k w) s (sets ((dD &&& 0x0000FFFFFFFFFFFF) ||| ((w &&& 0xFFFF) <<< 48)))) ∧
    (s.dmaAt n 0x03 w → diBits w 56 2 = 0 → Gives (.aluiAdd k w) s (sets (dD + (w.setWidth 32).signExtend 64))) ∧
    (s.dmaAt n 0x03 w → diBits w 56 2 = 1 → Gives (.aluiXor k w) s (sets (dD ^^^ (w.setWidth 32).setWidth 64))) ∧
    (s.dmaAt n 0x06 w → let g := diBits w 56 2
      (s.domRuns g = true → dD.toNat ≤ (s.dom g).cnt.toNat → Gives (.waitg k w) s fun t => t.dmaWent n (pc + 1)) ∧
      (s.domState g ≠ 0 → (s.dom g).cnt.toNat < dD.toNat → Gives (.waitg k w) s fun t =>
        t.dmaState n = 2 ∧ t.dmaPc n = pc ∧ (t.seqr n).wait = .grain g dD) ∧
      (s.domState g = 0 → (s.seqr n).txs = [] → Gives (.waitg k w) s fun t => t.dmaErred n 7 pc 0)) ∧
    (∀ d g, s.islandUp 32 = true → (s.seqr n).wait = .grain d g → (s.seqr n).stop = false → s.domRuns d = true → (s.dom d).fabOn = true →
      g.toNat ≤ (s.dom d).fab.toNat → s.dmaFrozen n = false → Gives (.waitgEnd k) s fun t => t.dmaWent n (pc + 1)) ∧
    (s.dmaAt n 0x07 w → (s.seqr n).dlv = none → diBits w 46 4 < 12 → s.domState (s.benchDom (diBits w 46 4)) ≠ 0 →
      Gives (.dlvb k w false) s fun t => t.dmaWent n (pc + 1) ∧ (t.seqr n).dlv = some ⟨dD, diBits w 46 4, s.benchDom (diBits w 46 4), false⟩) ∧
    (∀ d : Delivery, let a := dD.toNat
      s.dmaAt n 0x08 w → (s.seqr n).txs = [] → (s.seqr n).dlv = some d → a % 4 = 0 → inBanks a = true →
      benchOfBank (bankOf a) = d.bench → s.awake (bankOf a) = true → s.owner (bankOf a) = 108 + n → Gives (.dlve k w) s fun t =>
        t.dmaWent n (pc + 1) ∧ (t.seqr n).dlv = none ∧ t.rawReg (A.dmaLastg n) = d.grain.setWidth 32 ∧
        (∀ x, memByte t.mem x = if a ≤ x ∧ x < a + 4 then BitVec.ofNat 8 (d.grain.toNat / 256 ^ (x - a)) else memByte s.mem x) ∧
        (diBits w 0 1 = 1 → ∃ r ∈ t.raises, r.src = 515 + 4 * n ∧ r.obj = BitVec.ofNat 16 pc)) ∧
    (s.dmaAt n 0x08 w → (s.seqr n).dlv = none → (s.seqr n).txs = [] → Gives (.dlve k w) s fun t => t.dmaErred n 8 pc 0) ∧
    (s.dmaAt n 0x09 w →
      ((s.seqr n).txs = [] → Gives (.dmaFence k w) s fun t => t.dmaWent n (pc + 1) ∧ t.mem = s.mem) ∧
      ((s.seqr n).txs ≠ [] → Gives (.dmaFence k w) s fun t => t.dmaPc n = pc ∧ (t.seqr n).wait = .txs w)) ∧
    (s.dmaAt n 0x0A w → Gives (.jmp k w) s fun t => t.dmaWent n (diBits w 0 8) ∧ ∀ i, i < 8 → t.dreg n i = s.dreg n i) ∧
    (s.dmaAt n 0x0B w → Gives (.loopd k w) s fun t =>
      t.dmaWent n (if dD = 1 then pc + 1 else diBits w 0 8) ∧ t.dreg n (diD w) = dD - 1) ∧
    (s.dmaAt n 0x0C w → (s.seqr n).txs = [] → inBanks dD.toNat = true → let b := bankOf dD.toNat
      (s.ownFails b (108 + n) (BitVec.ofNat 32 (diBits w 0 32)) = none → diBits w 24 8 ≠ s.owner b →
        Gives (.hand k w) s fun t => t.dmaWent n (pc + 1) ∧ t.bit (bankReg A.bankOwn b) 16 = true ∧
          (t.bank b).chg = some ⟨BitVec.ofNat 8 (diBits w 24 8), BitVec.ofNat 8 (if diBits w 23 1 = 1 then s.owner b else 255), false⟩) ∧
      (s.ownFails b (108 + n) (BitVec.ofNat 32 (diBits w 0 32)) ≠ none →
        Gives (.hand k w) s fun t => t.dmaErred n 6 pc dD.toNat ∧ t.owner b = s.owner b)) ∧
    (s.dmaAt n 0x0D w → (s.seqr n).txs = [] → inBanks dD.toNat = true → let b := bankOf dD.toNat
      s.bit (bankReg A.bankOwn b) 16 = false → s.owner b = 108 + n → s.lender b ≠ 255 → s.lender b < 142 →
      s.eligible b (s.lender b) = true → s.lender b ≠ 108 + n → Gives (.rel k w) s fun t =>
        t.dmaWent n (pc + 1) ∧ t.bit (bankReg A.bankOwn b) 16 = true ∧
        (t.bank b).chg = some ⟨BitVec.ofNat 8 (s.lender b), 255, false⟩) ∧
    (s.dmaAt n 0x0E w → Gives (.signal k w) s fun t =>
      t.dmaWent n (pc + 1) ∧ Raised s t (512 + 4 * n) pc (diBits w 0 8)) ∧
    (s.dmaAt n 0x0F w → (s.seqr n).txs = [] → let bs := (List.range 12).filter (fun b => w.getLsbD (28 + b))
      (bs = [] ∨ s.dreg n (diT w) = 0 → Gives (.inval k w) s fun t => t.dmaWent n (pc + 1)) ∧
      (bs ≠ [] → s.dreg n (diT w) ≠ 0 → Gives (.inval k w) s fun t =>
        (t.seqr n).wait = .inval bs ∧ t.dmaPc n = pc ∧ ∀ b, b ∈ bs → t.bit (A.fwcStat b) 0 = true)) ∧
    (s.dmaAt n 0x00 w → (s.seqr n).txs = [] → Gives (.dmaEnd k w) s fun t =>
      t.dmaState n = 0 ∧ (t.seqr n).wait = .none ∧
      (diBits w 0 1 = 1 → ∃ r ∈ t.raises, r.src = 513 + 4 * n ∧ r.obj = BitVec.ofNat 16 pc) ∧
      (diBits w 0 1 = 0 → t.raises = s.raises))

/-- 10 R341, R342, R344, R345, R348, R351: copies. A copy's rows become transactions in increasing order, and INC moves
its registers; a completed transaction has brought its words from the source to the destination; a host error ends
the program; GO starts a program and STOP ends it; a delivery that misses its deadline is counted. Model's choice:
after a missed deadline the program goes on past the next DLVE in the store (log entry 17). -/
def Obligations.DmaTransfers : Prop :=
  ∀ (s : State) (k : SeqrId), let n := k.val
    let pc := s.dmaPc n
    (∀ w : DWord, s.dmaAt n 0x04 w → (s.seqr n).txs = [] → let m := diBits w 0 22 + 1
      let a := s.dreg n (diD w)
      let b := s.dreg n (diT w)
      (diSrcHost w = false ∨ diDstHost w = false) → a.toNat % 4 = 0 → b.toNat % 4 = 0 → a.toNat % 64 + 4 * m ≤ 64 →
      b.toNat % 64 + 4 * m ≤ 64 → Gives (.move k w) s fun t =>
        t.dmaWent n (pc + 1) ∧ t.mem = s.mem ∧
        (t.seqr n).txs = [⟨a.toNat, b.toNat, m, diSrcHost w, diDstHost w, diBits w 43 1 == 1, pc⟩] ∧
        (diBits w 42 1 = 1 → diD w ≠ diT w → t.dreg n (diD w) = a + BitVec.ofNat 64 (4 * m) ∧
          t.dreg n (diT w) = b + BitVec.ofNat 64 (4 * m)) ∧
        (diBits w 42 1 = 0 → ∀ i, i < 8 → t.dreg n i = s.dreg n i)) ∧
    (∀ w : DWord, s.dmaAt n 0x04 w → (s.seqr n).txs = [] →
      (diSrcHost w = true → diDstHost w = true → Gives (.move k w) s fun t => t.dmaErred n 8 pc 0) ∧
      (diSrcHost w = false → (s.dreg n (diD w)).toNat % 4 ≠ 0 → Gives (.move k w) s fun t =>
        t.dmaErred n 8 pc (s.dreg n (diD w)).toNat)) ∧
    (∀ w : DWord, s.dmaAt n 0x05 w → (s.seqr n).txs = [] → let m := diBits w 0 16 + 1
      let rows := diBits w 16 16 + 1
      let g := s.dreg n (diG w)
      let a (r : Nat) : DWord := s.dreg n (diD w) + BitVec.ofNat 64 r * (g.setWidth 32).signExtend 64
      let b (r : Nat) : DWord := s.dreg n (diT w) + BitVec.ofNat 64 r * ((g >>> 32).setWidth 32).signExtend 64
      ((diSrcHost w = false ∨ diDstHost w = false) → rows < 104 →
        (∀ r, r < rows → (a r).toNat % 4 = 0 ∧ (b r).toNat % 4 = 0 ∧ (a r).toNat % 64 + 4 * m ≤ 64 ∧ (b r).toNat % 64 + 4 * m ≤ 64) →
        Gives (.move2d k w) s fun t =>
          t.dmaWent n (pc + 1) ∧ (t.seqr n).txs = (List.range rows).map fun r =>
            ⟨(a r).toNat, (b r).toNat, m, diSrcHost w, diDstHost w, diBits w 43 1 == 1, pc⟩) ∧
      (diSrcHost w = false → (a 0).toNat % 4 ≠ 0 → Gives (.move2d k w) s fun t => t.dmaErred n 8 pc (a 0).toNat)) ∧
    (∀ (x : DmaTx) (hd : List Byte) (cyc : Word), s.islandUp 32 = true → (s.seqr n).txs = [x] → (s.seqr n).wait = .none →
      (s.seqr n).err = none → (s.seqr n).stop = false →
      let readable : Prop := inBanks x.src = true ∧ s.borrowed x.src = false ∧ s.awake (bankOf x.src) = true ∧
        s.owner (bankOf x.src) = 108 + n
      (x.srcHost = false → x.dstHost = false → readable → inBanks x.dst = true → s.borrowed x.dst = false →
        s.awake (bankOf x.dst) = true → s.owner (bankOf x.dst) = 108 + n →
        Gives (.dmaTransactionComplete k 0 .ok hd cyc) s fun t =>
          (t.seqr n).txs = [] ∧ t.dmaPc n = pc ∧
          (∀ i, i < 4 * x.words → memByte t.mem (x.dst + i) = memByte s.mem (x.src + i)) ∧
          (∀ a, a < x.dst ∨ x.dst + 4 * x.words ≤ a → memByte t.mem a = memByte s.mem a)) ∧
      (x.srcHost = false → x.dstHost = true → readable → s.hostOk = true →
        Gives (.dmaTransactionComplete k 0 .ok hd cyc) s fun t => (t.seqr n).txs = [] ∧ t.mem = s.mem ∧
          t.out = s.out ++ [.hostWrite (BitVec.ofNat 64 x.dst) ((List.range (4 * x.words)).map fun i => memByte s.mem (x.src + i))]) ∧
      (x.srcHost = false → (x.dstHost = true ∨ s.borrowed x.dst = false) → inBanks x.src = true → s.borrowed x.src = false →
        s.awake (bankOf x.src) = true → s.owner (bankOf x.src) ≠ 108 + n → x.pc < 256 →
        Gives (.dmaTransactionComplete k 0 .ok hd cyc) s fun t => t.dmaErred n 3 x.pc x.src ∧ t.mem = s.mem) ∧
      (x.srcHost = true → x.pc < 256 → (x.dstHost = true ∨ s.borrowed x.dst = false) →
        Gives (.dmaTransactionComplete k 0 .hostError hd cyc) s fun t => t.dmaErred n 4 x.pc x.src ∧ t.mem = s.mem)) ∧
    (∀ v : Word, fget v 1 1 = 0 →
      (s.dmaState n = 0 ∨ s.dmaState n = 3 → Gives (.dmaGo k v) s fun t =>
        t.dmaWent n (fget v 8 8) ∧ t.fld (A.dmaStat n) 16 4 = 0 ∧ (t.seqr n).dlv = none) ∧
      (s.dmaState n = 1 ∨ s.dmaState n = 2 → Gives (.dmaGo k v) s fun t =>
        t.dmaState n = s.dmaState n ∧ t.dmaPc n = pc ∧ t.seqr n = s.seqr n)) ∧
    (∀ v : Word, fget v 0 1 = 0 →
      (s.dmaState n = 1 → (s.seqr n).wait = .none → (s.seqr n).err = none → (s.seqr n).txs = [] →
        Gives (.dmaCtlStop k v) s fun t => t.dmaState n = 0) ∧
      (∀ d g, s.dmaState n = 2 → (s.seqr n).wait = .grain d g → (s.seqr n).err = none → Gives (.dmaCtlStop k v) s fun t =>
        t.dmaState n = 2 ∧ (t.seqr n).stop = true)) ∧
    (∀ d : Delivery, s.islandUp 32 = true → (s.seqr n).dlv = some d → d.late = false → s.dmaFrozen n = false →
      let counted (t : State) : Prop := t.fld (A.dmaDlcnt n) 0 32 = incTo 0xFFFFFFFF (s.fld (A.dmaDlcnt n) 0 32) ∧
        ∃ r ∈ t.raises, r.src = 19 ∧ r.obj = BitVec.ofNat 16 n
      (s.bit (A.dmaCtl n) 2 = true → Gives (.dmaDeadline k) s fun t =>
        counted t ∧ (t.seqr n).dlv = some { d with late := true } ∧ t.bit (A.dmaStat n) 4 = true ∧ t.dmaPc n = pc) ∧
      (s.bit (A.dmaCtl n) 2 = false → s.dmaState n = 1 → (s.seqr n).stop = false → ∀ j, s.nextDlve n 256 pc = some j →
        Gives (.dmaDeadline k) s fun t => counted t ∧ (t.seqr n).dlv = none ∧ t.dmaWent n (j + 1))) ∧
    (∀ who : Requester, s.mainReach who.val = true → Gives (.dmaErraddrRead k who) s fun t =>
      t.out = s.out ++ [.readData who.val ((s.seqr n).erraddr.setWidth 32)] ∧
      t.rawReg (A.dmaErraddrHi n) = ((s.seqr n).erraddr >>> 32).setWidth 32)

/-- 10 R333-R336, R339, R340, R353: far memory and the far-window cache. INV takes the whole cache, which misses until
the invalidation is done; an INVAL ends with its last bench; a scrub read, of each line once in a period, corrects
what can be corrected; a failed stack is recorded with source 41. Model's choice: scrub rests while the spall domain
counts no grains (log entry 127). -/
def Obligations.FarMemory : Prop :=
  ∀ s : State,
    (∀ b : BenchId, s.fwcBusy b.val = false → Gives (.fwcInv b) s fun t =>
      t.fwcBusy b.val = true ∧ (∀ l, t.fwcFind b.val l = none) ∧ t.mem = s.mem) ∧
    (∀ b : BenchId, s.fwcBusy b.val = true → exec (.fwcInv b) s = .next s) ∧
    (∀ b : BenchId, Gives (.fwcInvalidateDone b) s fun t =>
      t.fwcBusy b.val = false ∧ ∀ k, k < 32 → (s.seqr k).wait = .inval [b.val] → (s.seqr k).stop = false →
        t.dmaWent k (s.dmaPc k + 1)) ∧
    (∀ line : BitVec 48, let a := line.toNat / 64 * 64
      inFar a = true → s.bit (A.fmScrub (stackOf a)) 0 = true → s.stackFailed (stackOf a) = false → s.islandUp 32 = true →
      s.domRuns (s.fld A.spallCtl 1 2) = true →
      (s.scrubDone.contains a = true → exec (.scrubRead line) s = .next s) ∧
      (s.scrubDone.contains a = false → s.farBad a = false → Gives (.scrubRead line) s fun t =>
        t.scrubDone = s.scrubDone ++ [a] ∧ t.mem = s.mem ∧ t.ue = s.ue ∧ ∀ w, w ∈ t.ce ↔ w ∈ s.ce ∧ ¬(a ≤ w ∧ w < a + 64)) ∧
      (s.scrubDone.contains a = false → s.farBad a = true → Gives (.scrubRead line) s fun t =>
        t.scrubDone = s.scrubDone ++ [a] ∧ t.mem = s.mem ∧ t.ue = s.ue ∧ t.ce = s.ce ∧ Raised s t 40 (stackOf a) 0 ∧ tget 0 t.fmUe (stackOf a) = a)) ∧
    (∀ q : StackId, Gives (.farStack q) s fun t => t.stackFailed q.val = true ∧ Raised s t 41 q.val 0) ∧
    (∀ (q : StackId) (who : Requester), s.mainReach who.val = true → Gives (.fmUeaddrRead q who) s fun t =>
      t.out = s.out ++ [.readData who.val (BitVec.ofNat 32 (tget 0 s.fmUe q.val))] ∧
      t.fld (A.fmUeaddrHi q.val) 0 16 = tget 0 s.fmUe q.val / 2 ^ 32 % 2 ^ 16)

/-- 18 R542, R543, R545-R550, 17 R530: resets. A power-on reset leaves every register at its reset value with the straps
sampled, and memory zero; a unit reset keeps far memory, the fault latch, the straps and the host link, and records
its cause; the boot ends in READY; a core and a bench leave their resets. Model's choices: the boot is one row (log
entry 100), and what R549 does not name is reset (21). -/
def Obligations.Resets : Prop :=
  ∀ s : State,
    let derived (o : Nat) : Prop := o = A.sysStrap ∨ o = A.sysRstcause ∨ o = A.chStat ∨ ∃ i, i < 64 ∧ o = A.twLane i
    let wasReset (cause : Nat) (t : State) : Prop :=
      t.rawReg A.sysRstcause = BitVec.ofNat 32 cause ∧
      (∀ a, memByte t.mem a = if inFar a then memByte s.mem a else 0) ∧
      (∀ o, resetKeeps o = true → o ≠ A.sysRstcause → t.rawReg o = s.rawReg o) ∧
      (∀ o, resetKeeps o = false → ¬derived o → t.rawReg o = resetOf o) ∧
      t.cores = [] ∧ t.doms = [] ∧ t.groups = [] ∧ t.banks = [] ∧ t.cmds = State.reset.cmds ∧ t.twin = State.reset.twin ∧
      t.prot = State.reset.prot ∧ t.evt = State.reset.evt ∧ t.timer = s.timer ∧ t.utime = s.utime
    (∀ p : StrapPins, Gives (.powerOnReset p) s fun t =>
      t.mem = [] ∧ t.timer = 0 ∧ t.utime = 0 ∧ t.cores = [] ∧ t.cmds = State.reset.cmds ∧
      t.bit A.sysStrap 0 = p.head ∧ t.bit A.sysStrap 3 = p.authb ∧
      t.fld A.sysStrap 1 2 = (if p.twinroleMv < 300 then 1 else if 1500 < p.twinroleMv then 2 else 0) ∧
      t.isHead = p.head ∧ t.role = t.fld A.sysStrap 1 2 ∧ t.rawReg A.ufLatchLo = 0 ∧
      ∀ o, ¬derived o → t.rawReg o = resetOf o) ∧
    (∀ n, 1000 ≤ n → Gives (.resetNAssert n) s (wasReset 1)) ∧
    (∀ n, n < 500 → exec (.resetNAssert n) s = .next s) ∧
    (s.sys.refLost = true → Gives .referenceReturn s (wasReset 4)) ∧
    (s.sys.booting = true → s.sys.fatal = false → s.sys.thermalHold = false → s.sys.refLost = false → Gives .bootReady s fun t =>
      t.fld A.sysStat 0 2 = 3 ∧ t.sys.booting = false ∧ (∀ q, q < 4 → s.stackFailed q = false → t.fld (A.fmStat q) 0 2 = 2) ∧
      (s.isHead = true → s.role ≠ 2 → t.index = some 0) ∧ (s.isHead = false → t.index = s.index)) ∧
    (∀ c : CoreId, (s.core c.val).resetting = true → (s.core c.val).sb = [] → (s.core c.val).sbWait = [] →
      s.benchUp (c.val / 8) = true → Gives (.coreResetDone c) s fun t =>
        (∀ i, t.sreg c.val i = 0) ∧ (∀ i, t.vreg c.val i = 0) ∧ (t.core c.val).flg = 0 ∧ (t.core c.val).resetting = false ∧
        (t.core c.val).pc = s.rawReg (coreReg A.coreGentry c.val) ∧ (t.core c.val).res = none ∧
        t.fld (coreReg A.coreCfgact c.val) 0 3 = s.fld (coreReg A.coreCfg c.val) 0 3 ∧
        ∀ d, d ≠ c.val → t.core d = s.core d) ∧
    (∀ b : BenchId, s.benchResets b.val = false → s.benchUp b.val = true → Gives (.benchRst b) s fun t =>
      t.benchResets b.val = true ∧ t.fwcBusy b.val = true ∧ (∀ i, i < 8 → (t.core (8 * b.val + i)).resetting = true) ∧
      t.mem = s.mem ∧ t.bit (A.fthStat b.val) 3 = false) ∧
    (∀ b : BenchId, s.benchResets b.val = true → (∀ i, i < 8 → (s.core (8 * b.val + i)).resetting = false) →
      Gives (.benchResetDone b) s fun t => t.benchResets b.val = false ∧ t.fwcBusy b.val = false)

/-- 18 R551-R556, 05 R185: power states. STANDBY is refused while a domain is enabled; a change reads CHANGING until it
is done; a bench leaves RUN only from IDLE and loses its cores' state, and its banks' contents in OFF; a new
frequency comes into effect after the PLL has locked. -/
def Obligations.PowerStates : Prop :=
  ∀ s : State,
    (∀ v : Word, fget v 1 1 = 0 →
      (fget v 0 1 = 1 → s.standbyOk = false → exec (.sysPwrWrite v) s = .next (s.setFld A.sysPwr 1 1 1)) ∧
      (fget v 0 1 = 1 → s.standbyOk = true → s.fld A.sysPwr 2 2 = 2 → s.sys.fatal = false → Gives (.sysPwrWrite v) s fun t =>
        t.fld A.sysPwr 2 2 = 3 ∧ t.bit A.sysPwr 0 = true ∧ t.sys.pwrTo = some true ∧
        ((∀ c, c < 96 → (s.core c).sb = [] ∧ (s.core c).sbWait = []) → t.mem = s.mem)) ∧
      (fget v 0 1 = 0 → s.fld A.sysPwr 2 2 = 1 → s.sys.fatal = false → Gives (.sysPwrWrite v) s fun t =>
        t.fld A.sysPwr 2 2 = 3 ∧ t.bit A.sysPwr 0 = false ∧ t.sys.pwrTo = some false)) ∧
    (s.sys.pwrTo = some true → s.bit A.sysPwr 0 = true → Gives .powerStateChangeDone s fun t => t.fld A.sysPwr 2 2 = 1 ∧
      ∀ q, q < 4 → s.stackFailed q = false → t.bit (A.fmStat q) 2 = true) ∧
    (s.sys.pwrTo = some false → s.bit A.sysPwr 0 = false → Gives .powerStateChangeDone s fun t =>
      t.fld A.sysPwr 2 2 = 2 ∧ (∀ q, q < 4 → s.stackFailed q = false → t.bit (A.fmStat q) 2 = false) ∧ ∀ b, b < 12 → s.fld (A.benchPwr b) 0 2 = 0 → s.benchUp b = false →
        t.fld (A.benchPwr b) 4 3 = 4 ∧ (t.bench b).pwrTo = some 1) ∧
    (∀ (b : BenchId) (v : Word), let n := b.val
      let r := fget v 0 2
      fget v 2 1 = 0 →
      (r = 3 → exec (.benchPwrWrite b v) s = .next s) ∧
      (r = 1 ∨ r = 2 → s.benchIdle n = true → Gives (.benchPwrWrite b v) s fun t =>
        t.fld (A.benchPwr n) 0 2 = r ∧ t.fld (A.benchPwr n) 4 3 = 4 ∧
        (t.bench n).pwrTo = some (BitVec.ofNat 2 (r + 1)) ∧
        ((∀ i, i < 8 → (s.core (8 * n + i)).sb = [] ∧ (s.core (8 * n + i)).sbWait = []) → t.mem = s.mem) ∧ t.bit (A.benchClkstat n) 11 = false ∧
        (∀ j, j < 32 → t.awake (32 * n + j) = false) ∧ ∀ i, i < 8 → (t.core (8 * n + i)).resetting = true) ∧
      (r = 1 ∨ r = 2 → s.benchUp n = true → s.benchIdle n = false → exec (.benchPwrWrite b v) s =
        .next (s.setFld (A.benchPwr n) 2 1 1)) ∧
      (r = 0 → s.benchUp n = false → s.fld (A.benchPwr n) 4 3 ≠ 4 → s.fld A.sysPwr 2 2 = 2 → Gives (.benchPwrWrite b v) s fun t =>
        t.fld (A.benchPwr n) 0 2 = 0 ∧ t.fld (A.benchPwr n) 4 3 = 4 ∧ (t.bench n).pwrTo = some 1) ∧
      (r ≠ 3 → s.fld (A.benchPwr n) 4 3 = 4 → Gives (.benchPwrWrite b v) s fun t =>
        (t.bench n).pwrNext = some (BitVec.ofNat 2 r) ∧ t.regs = s.regs)) ∧
    (∀ (b : BenchId) (x : BitVec 2), let n := b.val
      (s.bench n).pwrTo = some x → (s.bench n).pwrNext = none → Gives (.benchPowerChangeDone b) s fun t =>
        t.fld (A.benchPwr n) 4 3 = x.toNat ∧ (t.bench n).pwrTo = none ∧
        (x = 1 → t.fld (A.benchClkstat n) 0 11 = s.fld (A.benchClk n) 0 11 ∧ t.bit (A.benchClkstat n) 11 = true) ∧
        (x = 3 → (∀ a, a / 0x1000000 = n → memByte t.mem a = 0) ∧ ∀ l, t.fwcFind n l = none) ∧
        ∀ a, a / 0x1000000 ≠ n → memByte t.mem a = memByte s.mem a) ∧
    (∀ (b : BenchId) (v : Word), let n := b.val
      let f := fget v 0 11
      (f < 400 ∨ 2000 < f ∨ f % 25 ≠ 0 → exec (.benchClkWrite b v) s = .next s) ∧
      (400 ≤ f → f ≤ 2000 → f % 25 = 0 → Gives (.benchClkWrite b v) s fun t =>
        t.fld (A.benchClk n) 0 11 = f ∧ t.fld (A.benchClkstat n) 0 11 = s.fld (A.benchClkstat n) 0 11 ∧
        (s.benchUp n = true → t.bit (A.benchClkstat n) 12 = (f != s.fld (A.benchClkstat n) 0 11)))) ∧
    (∀ b : BenchId, let n := b.val
      s.bit (A.benchClkstat n) 12 = true → s.benchUp n = true →
      (s.benchIdle n = true → Gives (.benchPllLock b) s fun t =>
        t.fld (A.benchClkstat n) 0 11 = s.fld (A.benchClk n) 0 11 ∧ t.bit (A.benchClkstat n) 12 = false) ∧
      (s.benchIdle n = false → Gives (.benchPllLock b) s fun t => (t.bench n).pllLocked = true ∧ t.regs = s.regs)) ∧
    exec .thermalResetHoldEnd s = .next { s with sys := { s.sys with thermalHold := false } }

/-- 17 R528, R530, 13 R461: the unit faults 0 to 5 and 10, with the fault latch. A warning is raised at most once in 100
ms; a trip stops the unit in STANDBY; a rail fault resets it; an island stops while its PLL is out of lock; the
reference's loss is recorded; a foreman restart ends its commands with INTERNAL_FAULT; a bad configuration entry
acts as the catalogue says. Model's choices: the numbers of entries (log entry 9), the islands' resuming (101), the
effect of BANK_ELIG's error (103). -/
def Obligations.UnitFaults : Prop :=
  ∀ s : State,
    (∀ (k : Fin 32) (temp : BitVec 16),
      ((s.fld A.ufTwarn 0 8 : Int) * 16 ≤ temp.toInt → (∀ t0, s.sys.lastWarn = some t0 → t0 + 100000 ≤ s.timer) →
        Gives (.thermalWarn k temp) s fun t =>
          Raised s t 0 k.val temp.toNat ∧ t.bit A.ufLatchLo 0 = true ∧ t.sys.lastWarn = some s.timer) ∧
      (∀ t0, s.sys.lastWarn = some t0 → s.timer < t0 + 100000 → Gives (.thermalWarn k temp) s fun t => t.raises = s.raises) ∧
      (1680 ≤ temp.toInt → Gives (.thermalTrip k temp) s fun t =>
        t.bit A.ufLatchLo 1 = true ∧ (∃ r ∈ t.raises, r.src = 1 ∧ r.obj = BitVec.ofNat 16 k.val) ∧
        t.fld A.sysPwr 2 2 = 1 ∧ t.sys.fatal = true ∧ t.sys.thermalHold = true ∧ ∀ b, b < 12 → s.benchUp b = true → t.benchUp b = false)) ∧
    (∀ r : Fin 9, Gives (.railFault r) s fun t =>
      t.bit A.ufLatchLo 2 = true ∧ t.rawReg A.sysRstcause = 3 ∧ t.cores = [] ∧ t.sys.fatal = decide (r.val < 2)) ∧
    (∀ i : IslandId, s.sys.stopped.contains i.val = false → Gives (.clockUnlock i) s fun t =>
      Raised s t 3 i.val 0 ∧ t.sys.stopped.contains i.val = true ∧ t.bit A.ufLatchLo 3 = true ∧ t.mem = s.mem) ∧
    (∀ i : IslandId, s.sys.stopped.contains i.val = true → i.val ≠ 33 → Gives (.clockRelock i) s fun t =>
      t.sys.stopped.contains i.val = false ∧ t.raises = s.raises ∧
      (i.val < 12 → s.benchUp i.val = true → t.bit (A.benchClkstat i.val) 11 = true)) ∧
    (Gives .refLoss s fun t => Raised s t 4 0 0 ∧ t.sys.refLost = true) ∧
    (∀ (code : Word) (o : Origin) (p : Packet), s.inHand o p [] → s.twin.out = [] → Gives (.foremanRestart code) s fun t =>
      t.ended o p ⟨0x70, 0xFFFF, 0xFFFFFFFF⟩ 0 s.unitCode [] ∧ t.bit A.dbgStat 2 = false ∧
      (∃ r ∈ t.raises, r.src = 5 ∧ r.info = code.setWidth 40) ∧
      ∃ r ∈ t.raises, r.src = 8 ∧ r.obj = BitVec.ofNat 16 (pkOpcode p) ∧ r.info = (pkSeq p).setWidth 40) ∧
    (∀ (st : BitVec 3) (e : BitVec 16), let n := e.toNat
      Gives (.configUe st e) s fun t =>
        (∃ r ∈ t.raises, r.src = 10 ∧ r.obj = BitVec.ofNat 16 st.toNat ∧ r.info = e.setWidth 40) ∧
        (st ≠ 4 → t.bad st.toNat n = true) ∧ (st = 7 → t.qState n = 3 ∧ t.fld (A.qStat n) 4 4 = 4) ∧
        (st = 4 → n < 384 → (∀ j, j < 8 → t.rawReg (A.bankElig n j) = resetOf (A.bankElig n j)) ∧ t.rawReg (A.bankEligF n) = 0))

/-- 19 R559-R567, R569-R575: the resident monitor on the management serial port and the mailbox. A frame on the line is
escaped; the requests of the serial port are answered in order of arrival, each by its own command. A request is
refused while debug is sealed or no session is open on its channel; READ and WRITE reach memory; a core halts at its
halt point, and a halted core is resumed, stepped or fed, and its registers are read and written; when the erase
ends, debug is open. Model's choices: the order of the statuses (log entry 50), the channel's turn (23), what the
erase clears beyond R567's list (55, 132). -/
def Obligations.ResidentMonitor : Prop :=
  ∀ s : State,
    let reply (op tag mstat : Byte) (data : List Word) : Out :=
      .serial (serialFrame 4 ([op, tag, mstat, 0] ++ data.flatMap (fun w => bytesOf w.toNat 4)))
    let said (t : State) (op tag mstat : Byte) (data : List Word) : Prop :=
      t.out = s.out ++ [reply op tag mstat data] ∧ t.sys.monQ = s.sys.monQ.drop 1
    let waits (t : State) : Prop := t.out = s.out ∧ t.sys.monQ = s.sys.monQ.drop 1
    let turn (req : List Byte) : Prop := s.monTurn .serial req = true ∧ ∀ r ∈ s.sys.monQ, monRowed r = true
    let opened : Prop := s.debugOpen = true ∧ s.sessionOn .serial = true
    (∀ bs : List Byte, unescape (escape bs) = some bs) ∧
    (∀ f : SerialFrame, frameOf f = none → exec (.mspFrameReceive f) s =
      .next (s.setFld A.mspCfg 16 16 (incTo 0xFFFF (s.fld A.mspCfg 16 16)))) ∧
    (∀ (f : SerialFrame) (g : List Byte), frameOf f = some g → g.getD 0 0 = 3 → let r := (g.drop 3).take (g.length - 7)
      (monRowed r = true → (∀ x ∈ s.sys.monQ, monRowed x = true) → Gives (.mspFrameReceive f) s fun t =>
        t.sys.monQ = s.sys.monQ ++ [r] ∧ t.out = s.out) ∧
      (9 < (r.getD 0 0).toNat → s.sys.monQ = [] → s.monBusy .serial = false → Gives (.mspFrameReceive f) s fun t =>
        said t (r.getD 0 0) (r.getD 1 0) 6 [])) ∧
    (∀ v : Word, fget v 0 1 = 1 →
      (s.bit A.mbxStat 0 = true → exec (.mbxGo v) s = .next s) ∧
      (s.bit A.mbxStat 0 = false → (s.mbxRequest.getD 0 0).toNat ≤ 9 → monFormed s.mbxRequest = true →
        exec (.mbxGo v) s = .next (s.setFld A.mbxStat 0 1 1))) ∧
    (∀ (ch : MonChan) (tag : Byte), s.monTurn ch (monHead 0 tag) = false → exec (.info ch tag) s = .next s) ∧
    (∀ tag : Byte, turn (monHead 0 tag) → Gives (.info .serial tag) s fun t => ∃ d0 d1, said t 0 tag 0
      [s.regValue A.dbgStat, d0, d1] ∧ d0.toNat + d1.toNat * 2 ^ 32 = s.identWord % 2 ^ 64) ∧
    (∀ tag : Byte, s.monTurn .mailbox (monHead 0 tag) = true → s.bit A.mbxIrq 8 = false → Gives (.info .mailbox tag) s fun t =>
      t.bit A.mbxStat 0 = false ∧ t.bit A.mbxStat 1 = true ∧ t.rawReg A.mbxRpllen = 16 ∧
      t.rawReg (A.mbxRpl 0) = BitVec.ofNat 32 (tag.toNat * 256) ∧ t.out = s.out) ∧
    (∀ (tag : Byte) (a : BitVec 48) (n : BitVec 16) (l : Bool) (bs : List Nat), turn (reqRead tag a n l) →
      (s.debugOpen = false → Gives (.read .serial tag a n l bs) s fun t => said t 1 tag 1 [] ∧ t.mem = s.mem) ∧
      (s.debugOpen = true → s.sessionOn .serial = false → Gives (.read .serial tag a n l bs) s fun t => said t 1 tag 2 []) ∧
      (opened → a.toNat % 4 ≠ 0 ∨ n = 0 ∨ 1024 < n.toNat → Gives (.read .serial tag a n l bs) s fun t => said t 1 tag 3 [])) ∧
    (∀ (tag : Byte) (a : BitVec 48) (l : Bool), turn (reqRead tag a 1 l) → opened → a.toNat % 4 = 0 → inBanks a.toNat = true → s.awake (bankOf a.toNat) = true →
      s.borrowed a.toNat = false → Gives (.read .serial tag a 1 l []) s fun t =>
        said t 1 tag 0 [BitVec.ofNat 32 (memNat s.mem a.toNat 4)] ∧ t.mem = s.mem) ∧
    (∀ (tag : Byte) (a : BitVec 48), turn (reqRead tag a 1 false) → opened → a.toNat % 4 = 0 → inCtl a.toNat = true → s.reaches 144 (ctlOff a.toNat) = true →
      s.borrowed a.toNat = false → Gives (.read .serial tag a 1 false []) s fun t =>
        said t 1 tag 0 [s.regValue (ctlOff a.toNat)] ∧ t.regs = s.regs) ∧
    (∀ (tag : Byte) (a : BitVec 48) (v : Word), turn (reqWrite tag a 1 [v]) → opened → a.toNat % 4 = 0 → inBanks a.toNat = true → s.awake (bankOf a.toNat) = true →
      s.borrowed a.toNat = false → Gives (.write .serial tag a 1 [v] []) s fun t =>
        said t 2 tag 0 [] ∧ memNat t.mem a.toNat 4 = v.toNat ∧
        ∀ x, x < a.toNat ∨ a.toNat + 4 ≤ x → memByte t.mem x = memByte s.mem x) ∧
    (∀ (tag core : Byte), opened → core.toNat < 96 → let c := core.toNat
      let asks (op : Nat) (rest : List Byte) : Prop := turn (reqCore op tag core rest)
      (asks 3 [] → (s.core c).halted = true → Gives (.halt .serial tag core) s fun t => said t 3 tag 0 [(s.core c).pc] ∧ t.cores = s.cores) ∧
      (asks 3 [] → (s.core c).halted = false → (s.core c).haltPend = none → Gives (.halt .serial tag core) s fun t =>
        (t.core c).haltPend = some 0 ∧ (t.core c).mon = some ⟨.serial, 3, tag, false⟩ ∧ waits t) ∧
      (asks 4 [] → (s.core c).halted = true → Gives (.resume .serial tag core) s fun t =>
        said t 4 tag 0 [] ∧ (t.core c).halted = false ∧ (t.core c).fpath = [] ∧ (t.core c).pc = (s.core c).pc) ∧
      (asks 4 [] → (s.core c).halted = false → Gives (.resume .serial tag core) s fun t => said t 4 tag 4 [] ∧ t.cores = s.cores) ∧
      (∀ n : BitVec 16, asks 5 (0 :: bytesOf n.toNat 2) → (s.core c).halted = true →
        (n ≠ 0 → Gives (.step .serial tag core n) s fun t =>
          (t.core c).steps = n.toNat ∧ (t.core c).mon = some ⟨.serial, 5, tag, false⟩ ∧ waits t) ∧
        (n = 0 → Gives (.step .serial tag core n) s fun t => said t 5 tag 3 [] ∧ t.cores = s.cores)) ∧
      (∀ num : Byte, (s.core c).halted = true →
        (asks 7 [0, num] → num.toNat < 64 → Gives (.regget .serial tag core 0 num) s fun t => said t 7 tag 0 [s.sreg c num.toNat]) ∧
        (asks 7 [6, num] → Gives (.regget .serial tag core 6 num) s fun t => said t 7 tag 0 [(s.core c).pc]) ∧
        (∀ cls : Byte, asks 7 [cls, num] → 6 < cls.toNat → Gives (.regget .serial tag core cls num) s fun t => said t 7 tag 3 []) ∧
        (∀ v : BitVec 1152, asks 8 (0 :: num :: 0 :: bytesOf v.toNat 4) → num.toNat < 64 → Gives (.regset .serial tag core 0 num v) s fun t =>
          said t 8 tag 0 [] ∧ t.sreg c num.toNat = v.setWidth 32 ∧ ∀ i, i ≠ num.toNat → t.sreg c i = s.sreg c i) ∧
        (∀ v : BitVec 1152, asks 8 (6 :: num :: 0 :: bytesOf v.toNat 4) → Gives (.regset .serial tag core 6 num v) s fun t => said t 8 tag 0 [] ∧ (t.core c).pc = v.setWidth 32) ∧
        (∀ v : BitVec 1152, asks 8 (3 :: num :: 0 :: bytesOf v.toNat 8) → num = 0 → Gives (.regset .serial tag core 3 num v) s fun t => said t 8 tag 3 [] ∧ t.cores = s.cores)) ∧
      (∀ (h : c < 96) (w : BitVec 256), let ops := rawOps 8 (bundleParcels (fun o => (w >>> (8 * o)).setWidth 16) 8 0)
        let u := s.monPop.feedBundle ⟨c, h⟩ ops ⟨.serial, 6, tag, false⟩
        asks 6 (bytesOf 0 3 ++ bytesOf w.toNat 32) → (s.core c).halted = true →
        (ops.any (fun r => badFeed ⟨c, h⟩ r) = true → Gives (.feed .serial tag core w) s fun t => said t 6 tag 3 [] ∧ t.cores = s.cores) ∧
        (ops.any (fun r => badFeed ⟨c, h⟩ r) = false → settled (u.core c) = true → (u.core c).resetting = false →
          (u.core c).haltPend = none → (u.core c).halted = true → (u.core c).mon = some ⟨.serial, 6, tag, false⟩ →
          (∀ r ∈ u.sys.monQ, monRowed r = true) →
          Gives (.feed .serial tag core w) s fun t => t.out = u.out ++ [reply 6 tag 0 []] ∧
            (t.core c).pc = (s.core c).pc ∧ (t.core c).mon = none ∧ t.mem = u.mem))) ∧
    (∀ (c : CoreId) (q : BitVec 2), (s.core c.val).resetting = false → settled (s.core c.val) = true → (s.core c.val).mon = none →
      inLock (s.core c.val) = false → slotOwed (s.core c.val) = false → (s.core c.val).haltPend = some q →
      Gives (.coreHalted c) s fun t => (t.core c.val).halted = true ∧ (t.core c.val).haltPend = none ∧ (t.core c.val).res = none ∧
        Raised s t 1017 c.val q.toNat ∧ t.mem = s.mem) ∧
    (∀ (tag rate : Byte), turn (monHead 9 tag ++ [rate]) → s.sessionOn .serial = true →
      (rate.toNat ≤ 4 → Gives (.baud .serial tag rate) s fun t => said t 9 tag 0 [] ∧ t.fld A.mspCfg 0 3 = rate.toNat) ∧
      (4 < rate.toNat → Gives (.baud .serial tag rate) s fun t => said t 9 tag 3 [] ∧ t.regs = s.regs)) ∧
    (s.fld A.dbgStat 0 2 = 2 → Gives .debugOpened s fun t =>
      t.debugOpen = true ∧ (∀ a, inBanks a = true ∨ inFar a = true → memByte t.mem a = 0) ∧
      (∀ n, n < 384 → t.owner n = 255) ∧ (∀ i, i < 49152 → t.rawReg (A.desc i) = 0) ∧ t.sys.keys = [] ∧
      (∀ b l, b < 12 → t.fwcFind b l = none) ∧ (∀ c, (t.core c).res = none) ∧ Raised s t 1016 0 0)

/-- 20 R581-R588, R590: the spall engine. A chunk runs on an idle core and a failing vector is recorded; a stripe is
borrowed with its contents kept aside, and comes back as it stood or, where the restore fails, is recorded; a probe
goes out with its pattern and its return is compared. Model's choices: the order of the probes' patterns and of the
two failures (log entry 53), of the stripes (109). -/
def Obligations.SpallTest : Prop :=
  ∀ s : State,
    let failed (t : State) (kind obj detail : Nat) : Prop :=
      t.fld A.spallFailcnt 0 32 = incTo 0xFFFFFFFF (s.fld A.spallFailcnt 0 32) ∧
      t.rawReg A.spallLastf0 = BitVec.ofNat 32 (obj + kind * 2 ^ 16) ∧ t.rawReg A.spallLastf1 = BitVec.ofNat 32 detail ∧
      ∃ r ∈ t.raises, r.src = 9 ∧ r.obj = BitVec.ofNat 16 obj
    (∀ c : CoreId, s.spallRuns = true → s.spall.katCore = none → s.coreIdle c.val = true → s.islandUp (c.val / 8) = true →
      tget 0 s.spall.katNext c.val < 128 → Gives (.katChunkStart c) s fun t =>
        t.spall.katCore = some c.val ∧ t.cores = s.cores ∧ t.regs = s.regs) ∧
    (∀ c : CoreId, s.spallRuns = false ∨ s.spall.katCore ≠ none ∨ s.coreIdle c.val = false → exec (.katChunkStart c) s = .next s) ∧
    (∀ c : CoreId, s.spall.katCore = some c.val → let n := tget 0 s.spall.katNext c.val
      (Gives (.katChunkDone c none) s fun t =>
        t.spall.katCore = none ∧ tget 0 t.spall.katNext c.val = n + 1 ∧ t.raises = s.raises) ∧
      ∀ v : Fin 32, Gives (.katChunkDone c (some v)) s fun t =>
        t.spall.katCore = none ∧ tget 0 t.spall.katNext c.val = n + 1 ∧ failed t 0 c.val (n * 32 + v.val)) ∧
    (∀ (n : BankId) (st : Fin 128), let a := n.val * 0x80000 + st.val * 0x1000
      s.borrowOk n.val = true → s.nextStripe n.val st.val = true → (∀ w, a ≤ w → w < a + 0x1000 → w ∉ s.ue) →
      Gives (.stripeBorrow n st) s fun t =>
        t.spall.borrow = some (n.val, st.val) ∧ t.spall.lastBorrow = s.timer ∧ t.mem = s.mem ∧
        (∀ x, a ≤ x → x < a + 0x1000 → tget 0 t.spall.shadow x = memByte s.mem x) ∧
        t.fld A.spallStat 2 9 = n.val ∧ t.fld A.spallStat 11 7 = st.val ∧
        t.owner n.val = (if s.owner n.val = 255 then 142 else s.owner n.val)) ∧
    (∀ (n st : Nat), n < 384 → st < 128 → let a := n * 0x80000 + st * 0x1000
      s.spall.borrow = some (n, st) → s.awake n = true → tblWf 0 s.spall.shadow = true →
      (∀ e ∈ s.spall.shadow, a ≤ e.1 ∧ e.1 < a + 0x1000) → (∀ i, i < 8 → (s.core (n / 32 * 8 + i)).jobs = []) →
      (∀ i, i < 8 → (s.core (n / 32 * 8 + i)).drain = .none) → s.fab.stores = [] →
      (Gives (.stripeRelease .pass) s fun t =>
        t.spall.borrow = none ∧ (n, st) ∈ t.spall.tested ∧ t.raises = s.raises ∧
        (∀ x, memByte t.mem x = if a ≤ x ∧ x < a + 0x1000 then tget 0 s.spall.shadow x else memByte s.mem x)) ∧
      (∀ cyc : BitVec 8, Gives (.stripeRelease (.march cyc)) s fun t =>
        t.spall.borrow = none ∧ failed t 1 n (st + cyc.toNat * 256) ∧
        (∀ x, memByte t.mem x = if a ≤ x ∧ x < a + 0x1000 then tget 0 s.spall.shadow x else memByte s.mem x)) ∧
      (Gives (.stripeRelease .restoreFailed) s fun t =>
        t.spall.borrow = none ∧ failed t 2 n st ∧ ∀ x, x < a ∨ a + 0x1000 ≤ x → memByte t.mem x = memByte s.mem x)) ∧
    (∀ (w : Fin 8) (dest : Fin 30), s.spallRuns = true → s.islandUp 12 = true → s.domRuns (s.wagonDom (44 + w.val)) = true →
      tget none s.spall.probe w.val = none →
      let d := s.wagonDom (44 + w.val)
      let g := (s.dom d).cnt.toNat + 1
      (tget 0 s.spall.probeAt d ≠ g → Gives (.fabricProbe w dest) s fun t =>
        let v := probePattern (s.spall.probeNext / 240)
        t.out = s.out ++ [.probe (44 + w.val) dest.val v] ∧ tget none t.spall.probe w.val = some (dest.val, v) ∧
        t.spall.probeNext = s.spall.probeNext + 1 ∧ tget 0 t.spall.probeAt d = g) ∧
      (tget 0 s.spall.probeAt d = g → exec (.fabricProbe w dest) s = .next s)) ∧
    (∀ (w : Fin 8) (dest : Nat) (v x : Word) (rt : BitVec 32), tget none s.spall.probe w.val = some (dest, v) →
      (Gives (.probeReturn w v rt true) s fun t => tget none t.spall.probe w.val = none ∧ t.raises = s.raises) ∧
      (x ≠ v → ∀ b, Gives (.probeReturn w x rt b) s fun t => failed t 3 (dest * 8 + w.val) x.toNat) ∧
      (Gives (.probeReturn w v rt false) s fun t => failed t 4 (dest * 8 + w.val) rt.toNat))

/-- 00 R12-R14, 01 R30, R31, 02 R43, 10 R341, 13 R453, 16 R518, 17 R530: the control registers as the paths read and
write them. A read by who reaches the register returns its value, and clears an RC field; a write changes only what
may be written; a requester that does not reach a register reads 0 and writes nothing, with source 7. 13 R430: 8
bytes at an offset that is a multiple of 8 are two accesses in increasing address order; any other size or alignment
is refused as an access that reaches no register. -/
def Obligations.ControlRegisters : Prop :=
  ∀ (s : State) (who : Requester) (off : BitVec 33), let w := who.val
    let a := off.toNat
    let read (n : RegSize) : Instr := .counterReadClear off who n
    let none_ (t : State) : Prop := t.out = s.out ++ [.readData w 0] ∧ Raised s t 7 w ((0x10000000000 + a) / 256)
    let unmade (t : State) : Prop :=
      Raised s t 7 w ((0x10000000000 + a) / 256) ∧ t.mem = s.mem ∧ ∀ o, o < 0x2000 ∨ 0x200C < o → t.rawReg o = s.rawReg o
    (a % 4 = 0 → s.reaches w a = true → Gives (read .word) s fun t =>
      t.out = s.out ++ [.readData w (s.regValue a)] ∧ t.mem = s.mem) ∧
    (a % 4 ≠ 0 ∨ s.reaches w a = false → Gives (read .word) s none_) ∧
    (a % 8 ≠ 0 → Gives (read .pair) s none_) ∧ Gives (read .other) s none_ ∧
    (a % 8 = 0 → ∃ u, exec (read .word) s = .next u ∧ exec (read .pair) s = exec (.counterReadClear (off + 4) who .word) u) ∧
    (a = A.protAppcnt → s.reaches w a = true → Gives (read .word) s fun t => t.rawReg a = 0) ∧
    (a = A.sysStat → s.reaches w a = true → Gives (read .word) s fun t => t.rawReg a = s.rawReg a) ∧
    (∀ v : Word, a % 4 ≠ 0 ∨ s.reaches w a = false → Gives (.registerWrite off who (.word v)) s unmade) ∧
    (∀ v : DWord, (a % 8 ≠ 0 → Gives (.registerWrite off who (.pair v)) s unmade) ∧
      (a % 8 = 0 → ∃ u, exec (.registerWrite off who (.word (v.setWidth 32))) s = .next u ∧
        exec (.registerWrite off who (.pair v)) s = exec (.registerWrite (off + 4) who (.word ((v >>> 32).setWidth 32))) u)) ∧
    Gives (.registerWrite off who .other) s unmade ∧
    (∀ v : Word, s.reaches w a = true →
      (a = A.sysStat → Gives (.registerWrite off who (.word v)) s fun t => t.rawReg a = s.rawReg a ∧ t.raises = s.raises) ∧
      (a = A.protCwin → Gives (.registerWrite off who (.word v)) s fun t =>
        t.fld a 0 22 = if fget v 0 22 < 1000 ∨ 2000000 < fget v 0 22 then s.fld a 0 22 else fget v 0 22) ∧
      (a = A.ufTwarn → Gives (.registerWrite off who (.word v)) s fun t =>
        t.fld a 0 8 = if fget v 0 8 < 60 ∨ 104 < fget v 0 8 then s.fld a 0 8 else fget v 0 8) ∧
      (a = A.twCfg → Gives (.registerWrite off who (.word v)) s fun t =>
        t.fld a 0 2 = if s.twState = twSolo ∨ s.twState = twFenced then fget v 0 2 else s.fld a 0 2) ∧
      (a = A.dbgCtl → s.debugOpen = false → Gives (.registerWrite off who (.word v)) s fun t => t.rawReg a = s.rawReg a) ∧
      (∀ (k : SeqrId) (i : Fin 16), a = A.dmaD k.val i.val → Gives (.registerWrite off who (.word v)) s fun t =>
        (s.dmaState k.val = 0 ∨ s.dmaState k.val = 3 → t.rawReg a = v) ∧
        (s.dmaState k.val = 1 ∨ s.dmaState k.val = 2 → t.rawReg a = s.rawReg a ∧ t.bit (A.dmaStat k.val) 2 = true)))

/-- 07 R245, R246, R248, R249, 09 R304, R314, R316, R318: the scalar loads. A byte or halfword is extended with its sign
or with zeros; LDD and LDDP write a pair, low word first; the post-modifying forms access at a[AREG] and add DISP
times the size to it. -/
def Obligations.ScalarLoads : Prop :=
  let disp (size : Nat) (s : State) (c : CoreId) (x : LArgs) : Int := ((s.areg c.val x.areg.toNat).toNat : Int) + x.ext.toInt * size
  let post (s : State) (c : CoreId) (x : LArgs) : Int := ((s.areg c.val x.areg.toNat).toNat : Int)
  let idx (s : State) (c : CoreId) (x : LArgs) : Int :=
    ((s.areg c.val x.areg.toNat).toNat : Int) + 4 * (s.sreg c.val x.ext.toNat).toInt
  let word (f : Nat → Word) (x : LArgs) (m : Nat) : List (Tgt × Word) := [(.s x.rt, f m)]
  let pair (x : LArgs) (m : Nat) : List (Tgt × Word) := [(.s x.rt, BitVec.ofNat 32 m), (.s (x.rt + 1), BitVec.ofNat 32 (m / 2 ^ 32))]
  let any (_ : LArgs) : Prop := True
  let even (x : LArgs) : Prop := x.rt.toNat % 2 = 0
  LoadRowIs .ldb 1 (disp 1) any (word fun m => (BitVec.ofNat 8 m).signExtend 32) false ∧
  LoadRowIs .ldbu 1 (disp 1) any (word fun m => (BitVec.ofNat 8 m).setWidth 32) false ∧
  LoadRowIs .ldh 2 (disp 2) any (word fun m => (BitVec.ofNat 16 m).signExtend 32) false ∧
  LoadRowIs .ldhu 2 (disp 2) any (word fun m => (BitVec.ofNat 16 m).setWidth 32) false ∧
  LoadRowIs .ldw 4 (disp 4) any (word fun m => BitVec.ofNat 32 m) false ∧
  LoadRowIs .ldd 8 (disp 8) even pair false ∧
  LoadRowIs .ldwp 4 post any (word fun m => BitVec.ofNat 32 m) true ∧
  LoadRowIs .lddp 8 post even pair true ∧
  LoadRowIs .ldwx 4 idx any (word fun m => BitVec.ofNat 32 m) false

/-- 07 R245-R247, 09 R319, R320, 05 R172: the scalar stores, which go through the store buffer, and the write of its
head: the bytes of the entry and no other byte of memory. -/
def Obligations.ScalarStores : Prop :=
  let disp (size : Nat) (s : State) (c : CoreId) (x : LArgs) : Int := ((s.areg c.val x.areg.toNat).toNat : Int) + x.ext.toInt * size
  let post (s : State) (c : CoreId) (x : LArgs) : Int := ((s.areg c.val x.areg.toNat).toNat : Int)
  let idx (s : State) (c : CoreId) (x : LArgs) : Int :=
    ((s.areg c.val x.areg.toNat).toNat : Int) + 4 * (s.sreg c.val x.ext.toNat).toInt
  let one (s : State) (c : CoreId) (x : LArgs) : DWord := (s.sreg c.val x.rt.toNat).setWidth 64
  let two (s : State) (c : CoreId) (x : LArgs) : DWord := s.sreg c.val (x.rt.toNat + 1) ++ s.sreg c.val x.rt.toNat
  let any (_ : LArgs) : Prop := True
  let even (x : LArgs) : Prop := x.rt.toNat % 2 = 0
  StoreRowIs .stb 1 (disp 1) any one false ∧
  StoreRowIs .sth 2 (disp 2) any one false ∧
  StoreRowIs .stw 4 (disp 4) any one false ∧
  StoreRowIs .std 8 (disp 8) even two false ∧
  StoreRowIs .stwp 4 post any one true ∧
  StoreRowIs .stdp 8 post even two true ∧
  StoreRowIs .stwx 4 idx any one false ∧
  (∀ (s : State) (c : CoreId) (p : StPart) (g n : Nat) (rest : List SbEntry),
    let k := s.core c.val
    k.sb = ⟨[p], false, g, n⟩ :: rest → k.drain = .none → s.islandUp (c.val / 8) = true → inBanks p.addr = true →
    s.coreWaits c.val p.addr = false → s.fab.stores = [] →
    (s.awake (bankOf p.addr) = true → s.owner (bankOf p.addr) = c.val → Gives (.storeBufferWrite c) s fun t =>
      (t.core c.val).sb ++ (t.core c.val).sbWait = rest ++ k.sbWait ∧
      ∀ a, memByte t.mem a = if p.addr ≤ a ∧ a < p.addr + p.size then BitVec.ofNat 8 (p.data.toNat / 256 ^ (a - p.addr))
        else memByte s.mem a) ∧
    ((s.awake (bankOf p.addr) = false ∨ s.owner (bankOf p.addr) ≠ c.val) → Gives (.storeBufferWrite c) s fun t =>
      (t.core c.val).sb ++ (t.core c.val).sbWait = rest ++ k.sbWait ∧ t.mem = s.mem))

/-- 09 R321: a load whose bytes all lie in the youngest older store that overlaps it takes them from the store buffer,
and no bank is read; one that the store holds only in part waits. 09 R314, R316, R318: what a stalled load waits for
comes, and its result is written at its exposed latency: the far line, the word of another bench, the control
register after the older stores; the core's stall ends. 17 R528: what the seam lost reads 0. Model's choices:
whether a write of its bank's own bench meets an other-bench word, whose bytes are then old or new, is free (log
entry 32), and so is the reason under which a lost word is refused (87). -/
def Obligations.WaitingLoads : Prop :=
  (∀ (s : State) (c : CoreId) (x : LArgs) (pre post : List SbEntry) (e : SbEntry) (p : StPart),
      let o : Int := ((s.areg c.val x.areg.toNat).toNat : Int) + x.ext.toInt * 4
      let a := dBase (s.segReg c.val x.seg.toNat).desc + o.toNat
      let k := s.core c.val
      OpRuns s c x.short x.cond → s.accessOk c.val x.seg.toNat o 4 false → inBanks a = true →
      k.sb ++ k.sbWait = pre ++ e :: post → e.parts = [p] → e.ctl = false → e.bundle < k.t →
      (∀ y ∈ post, ∀ q ∈ y.parts, q.addr + q.size ≤ a ∨ a + 4 ≤ q.addr) →
      (p.addr ≤ a → a + 4 ≤ p.addr + p.size → Gives (.ldw c x) s fun t =>
        (t.core c.val).pws = pwInsert ⟨k.t + (regionOf c.val a).latency, k.t, x.slot.val, .s x.rt,
          (BitVec.ofNat 32 (p.data.toNat / 256 ^ (a - p.addr))).setWidth 512⟩ k.pws ∧
        (t.core c.val).jobs = k.jobs ∧ t.raises = s.raises) ∧
      (p.addr < a + 4 → a < p.addr + p.size → (a < p.addr ∨ p.addr + p.size < a + 4) → Gives (.ldw c x) s fun t =>
        (t.core c.val).pws = k.pws ∧ (t.core c.val).jobs.length = k.jobs.length + 1)) ∧
  (∀ (s : State) (c : CoreId) (a due n slot : Nat) (r : BitVec 6),
      let k := s.core c.val
      let job (lines : List Nat) : LoadJob := ⟨due, n, slot, [⟨a, 4, .s r 32 false, none⟩], lines, false⟩
      let gets (v : Word) (t : State) : Prop :=
        (t.core c.val).jobs = [] ∧ (t.core c.val).pws = pwInsert ⟨due, n, slot, .s r, v.setWidth 512⟩ k.pws ∧ t.mem = s.mem
      k.dlPend = false → a % 4 = 0 →
      (k.jobs = [job [a / 64]] → inFar a = true → s.islandUp 32 = true → s.islandUp (c.val / 8) = true →
        s.stackFailed (stackOf a) = false →
        Gives (.farWindowFill c) s fun t => gets (BitVec.ofNat 32 (memNat s.mem a 4)) t ∧
          (s.farBad a = false → s.fwcBusy (c.val / 8) = false → s.fwcSet (c.val / 8) (fwcIndex (a / 64)) = FwcSet.init → (s.bench (c.val / 8)).noInstall.contains (a / 64) = false →
            t.fwcFind (c.val / 8) (a / 64) = some (BitVec.ofNat 512 (memNat s.mem (a / 64 * 64) 64)))) ∧
      (k.jobs = [job []] → regionOf c.val a = .other → s.islandUp (c.val / 8) = true → s.islandUp 12 = true →
        s.coreWaits c.val a = false → s.notQueued c.val a 4 →
        (s.awake (bankOf a) = true → s.owner (bankOf a) = c.val → s.portAWrites a = false →
          Gives (.otherBenchReturn c false) s (gets (BitVec.ofNat 32 (memNat s.mem a 4)))) ∧
        (s.awake (bankOf a) = false ∨ s.owner (bankOf a) ≠ c.val → Gives (.otherBenchReturn c false) s (gets 0)) ∧
        Gives (.otherBenchReturn c true) s fun t => gets 0 t ∧ ∃ r ∈ t.raises, r.src = 6 ∧ r.obj = 4) ∧
      (k.jobs = [job []] → inCtl a = true → s.islandUp (c.val / 8) = true → (∀ e ∈ k.sb ++ k.sbWait, n ≤ e.bundle) →
        a - ctlBase = coreReg A.coreDllast c.val →
        Gives (.controlLoadReturn c) s (gets (s.rawReg (coreReg A.coreDllast c.val)))))

/-- 08 R293-R298: the vector loads and stores. VLD and VST take lane i at o + 4i, VLDBC one word for every active lane,
the structure forms field j of lane i at o + 4(NF × i + j), the gather and the scatter lane i at o + 4 × lane i of
VI, signed. With PM the base grows by 64, by 32 at half width, and by 4 for VLDBC. -/
def Obligations.VectorMemory : Prop :=
  let o (s : State) (c : CoreId) (x : VMemArgs) : Int := ((s.areg c.val x.areg.toNat).toNat : Int)
  let whole (s : State) (c : CoreId) (x : VMemArgs) (l _ : Nat) : Int := o s c x + 4 * (l : Nat)
  let same (s : State) (c : CoreId) (x : VMemArgs) (_ _ : Nat) : Int := o s c x
  let struct (s : State) (c : CoreId) (x : VMemArgs) (l j : Nat) : Int := o s c x + 4 * (((x.nf.toNat + 1) * l + j : Nat) : Int)
  let index (s : State) (c : CoreId) (x : VMemArgs) (l _ : Nat) : Int := o s c x + 4 * (lane (s.vreg c.val x.vi.toNat) l).toInt
  let any (_ : VMemArgs) : Prop := True
  let fields (x : VMemArgs) : Prop := x.nf ≠ 0 ∧ x.vt.toNat + x.nf.toNat ≤ 31 ∧ x.pm = false
  let l0 (x : VMemArgs) : Prop := x.slot = 0 ∧ x.pm = false
  let one (_ : VMemArgs) : Nat := 1
  let nf (x : VMemArgs) : Nat := x.nf.toNat + 1
  let width (s : State) (c : CoreId) : Nat := if s.halfWidth c.val then 32 else 64
  VLoadRowIs .vld any one whole width ∧
  VStoreRowIs .vst any one whole width ∧
  VLoadRowIs .vlds fields nf struct width ∧
  VStoreRowIs .vsts fields nf struct width ∧
  VLoadRowIs .vgth l0 one index width ∧
  VStoreRowIs .vsct l0 one index width ∧
  VLoadRowIs .vldbc any one same (fun _ _ => 4)

/-- 06 R213-R216, 07 R250, R265-R268: SEGLD caches the descriptor that its selector names; LDX sets the reservation on
its line; STX stores where the reservation covers the line, and clears it; LOCK takes the bank's lock for its
bundles where the core may, or waits for another core's sequence; the lock ends when the sequence's stores are
written. The lock is held until the last bundle of the sequence has issued; then a core that waits with a LOCK tests
the bank. Model's choices: LOCK needs no permission (log entry 48), STX reports its reservation (69). -/
def Obligations.SegmentsAndExclusion : Prop :=
  (∀ (s : State) (c : CoreId) (x : LArgs), OpRuns s c false x.cond → x.short = false → s.inSeq c.val = false →
      let k := s.core c.val
      let sel := s.sreg c.val x.rt.toNat
      let d := s.descOf c.val (sel.toNat % 128)
      let base := dBase (s.segReg c.val x.seg.toNat).desc
      let o := (s.areg c.val x.areg.toNat).toNat
      let a := base + o
      (x.ext = 0 → x.areg = 0 → sel &&& 0xFF80 = 0 → (dClass d = 2 → x.seg = 7) →
        (sel >>> 16 = 0 ∨ (sel >>> 16).toNat = dGen d) → ∃ v, exec (.segld c x) s = .next (s.sched c.val x.slot.val 4 (.seg x.seg) v) ∧
          (applyPW false k ⟨k.t + 4, k.t, x.slot.val, .seg x.seg, v⟩).segs =
            tset Seg.null k.segs x.seg.toNat ⟨sel.setWidth 7, d, true⟩) ∧
      (x.slot = 0 → x.ext = 0 → s.accessOk c.val x.seg.toNat (o : Int) 4 false → s.bankReady c.val a → s.notQueued c.val a 4 →
        Gives (.ldx c x) s fun t => (t.core c.val).res = some (a / 64) ∧ (t.core c.val).pws =
          pwInsert ⟨k.t + 4, k.t, 0, .s x.rt, (BitVec.ofNat 32 (memNat s.mem a 4)).setWidth 512⟩ k.pws ∧ t.mem = s.mem) ∧
      (x.slot = 0 → s.accessOk c.val x.seg.toNat (o : Int) 4 true → inBanks a = true → s.coreWaits c.val a = false → k.sb = [] →
        k.sbWait = [] → k.ownStore = false → k.prog ≠ .none → k.waiting = false →
        let status (b : Nat) (t : State) : Prop := (t.core c.val).res = none ∧ (t.core c.val).pws =
          pwInsert ⟨k.t + 4, k.t, 0, .s (x.ext.setWidth 6), BitVec.ofNat 512 b⟩ k.pws
        (k.res = some (a / 64) → s.awake (bankOf a) = true → s.owner (bankOf a) = c.val → Gives (.stx c x) s fun t =>
          status 1 t ∧ memNat t.mem a 4 = sel.toNat ∧ ∀ b, b < a ∨ a + 4 ≤ b → memByte t.mem b = memByte s.mem b) ∧
        (k.res ≠ some (a / 64) → Gives (.stx c x) s fun t => status 0 t ∧ t.mem = s.mem)) ∧
      (x.slot = 0 → s.accessOk c.val x.seg.toNat (o : Int) 4 true → (k.sb ++ k.sbWait ≠ [] ∨ k.ownStore = true) →
        Gives (.stx c x) s fun t => (t.core c.val).drain = .stx x a (k.t + 4) sel ∧ t.mem = s.mem ∧ (t.core c.val).res = k.res) ∧
      (∀ n, x.slot = 0 → x.ext.toNat = n → n < 4 → dV (s.segReg c.val x.seg.toNat).desc = true →
        o + 3 ≤ dLimit (s.segReg c.val x.seg.toNat).desc → o % 4 = 0 →
        let mine : Prop := regionOf c.val a = .own ∧ s.owner (bankOf a) = c.val ∧ s.awake (bankOf a) = true
        let took (b : Bool) (t : State) : Prop :=
          (t.core c.val).locks = k.locks ++ [⟨bankOf a, k.t + 1, k.t + n + 1, b⟩] ∧ (t.core c.val).pws =
            pwInsert ⟨k.t + 1, k.t, 0, .s x.rt, BitVec.ofNat 512 b.toNat⟩ k.pws
        (s.lockedFor (bankOf a) c.val = false → mine → Gives (.lock c x) s (took true)) ∧
        (s.lockedFor (bankOf a) c.val = false → ¬ mine → Gives (.lock c x) s (took false)) ∧
        (inBanks a = true → s.lockedFor (bankOf a) c.val = true → Gives (.lock c x) s fun t =>
          (t.core c.val).lockWait = some ⟨x.rt, a, n + 1, k.t, 0⟩ ∧ (t.core c.val).locks = k.locks ∧ stalled (t.core c.val) = true))) ∧
  (∀ (s : State) (c : CoreId) (l : LockSt),
      let k := s.core c.val
      k.locks = [l] → l.taken = true → benchOfBank l.bank = c.val / 8 → s.islandUp (c.val / 8) = true → k.lockWait = none →
      (l.last ≤ k.t → (∀ e ∈ k.sb ++ k.sbWait, e.touches l.bank = false) → Gives (.lockEnd c) s fun t =>
        (t.core c.val).locks = [] ∧
        ∀ (e : CoreId) (w : LockWait), e.val / 8 = c.val / 8 → e ≠ c → (s.core e.val).lockWait = some w → (s.core e.val).dlPend = false →
          bankOf w.addr = l.bank → inBanks w.addr = true → (∀ y : CoreId, y.val / 8 = c.val / 8 → y ≠ c → (s.core y.val).locks = [] ∧
            (y ≠ e → (s.core y.val).lockWait = none)) → s.owner l.bank = e.val → s.awake l.bank = true →
          (t.core e.val).lockWait = none ∧ (t.core e.val).locks = [⟨l.bank, w.bundle + 1, w.bundle + w.n, true⟩]) ∧
      (k.t < l.last → exec (.lockEnd c) s = .next s) ∧
      ((∃ e ∈ k.sb ++ k.sbWait, l.first ≤ e.bundle ∧ e.bundle ≤ l.last ∧ e.touches l.bank = true) → exec (.lockEnd c) s = .next s))

/-- 06 R223-R226, 07 R254-R262, R269: branches, calls, returns and loops. A transfer resolves in its bundle and its
target follows one delay slot; CALL stores the return offset and the masked registers below a15 and RET restores
them; LOOP sets the counter and the bounds of its level, and skips the body where the count is 0. Model's choices:
RET's target is open where it is not taken (log entry 60), a LOOP of count 0 makes no end test (63), CALL's return
point uses the delay slot's size as the fetch path holds it (66). -/
def Obligations.ControlTransfers : Prop :=
  ∀ (s : State) (c : CoreId),
    let k := s.core c.val
    let on (cond : BitVec 4) : Bool := s.condTrue c.val cond.toNat
    let rel (d : Int) : Word := (k.bpc &&& 0xFFFFFFFC) + BitVec.ofInt 32 (4 * d)
    let regs (m : BitVec 16) : List Nat := ((List.range 16).filter (fun i => m.getLsbD i)).map (fun i => 16 + i)
    let size (m : BitVec 16) : Nat := 4 * ((regs m).length + 1)
    let d7 := (s.segReg c.val 7).desc
    let frameOk (o : Int) (m : BitVec 16) : Prop := dV d7 = true ∧ dR d7 = true ∧ dW d7 = true ∧ dF d7 = false ∧ dClass d7 = 2 ∧
      0 ≤ o ∧ o + size m ≤ dLimit d7 + 1 ∧ o % 4 = 0
    let back : Nat := k.npc.toNat + (s.bundleAt c.val k.npc.toNat).size
    (∀ x : BrArgs, BFree s c x.cond → Gives (.br c x) s fun t =>
      s.resolved t c.val x.cond x.annul (on x.cond) (rel x.disp.toInt) false ∧ t.mem = s.mem ∧ (t.core c.val).pws = k.pws) ∧
    (∀ x : BriArgs, BFree s c x.cond → Gives (.bri c x) s fun t =>
      s.resolved t c.val x.cond x.annul (on x.cond) (s.sreg c.val x.rs.toNat) true ∧ t.mem = s.mem ∧ (t.core c.val).pws = k.pws) ∧
    (∀ x : BrsArgs, BFree s c 0 → Gives (.brs c x) s fun t =>
      s.resolved t c.val 0 false true (rel x.disp.toInt) false ∧ t.mem = s.mem ∧ (t.core c.val).pws = k.pws) ∧
    (∀ x : CallArgs, BFree s c x.cond →
      let o : Int := (s.areg c.val 15).toNat - size x.mask
      (on x.cond = false → Gives (.call c x) s fun t =>
        s.resolved t c.val x.cond false false (s.areg c.val x.at_.toNat) true ∧ (t.core c.val).sb = k.sb ∧ (t.core c.val).pws = k.pws) ∧
      (on x.cond = true → frameOk o x.mask → back % 4 = 0 → Gives (.call c x) s fun t =>
        s.resolved t c.val x.cond false true (s.areg c.val x.at_.toNat) true ∧
        (t.core c.val).pws = pwInsert ⟨k.t + 1, k.t, 6, .a 15, (BitVec.ofInt 32 o).setWidth 512⟩ k.pws ∧
        (∃ es, (t.core c.val).sb ++ (t.core c.val).sbWait = k.sb ++ k.sbWait ++ es ∧
          es.flatMap (fun e => e.parts) = (BitVec.ofNat 32 back :: (regs x.mask).map (fun n => s.sreg c.val n)).zipIdx.map
            (fun v => ⟨dBase d7 + o.toNat + 4 * v.2, 4, v.1.setWidth 64⟩)) ∧ t.mem = s.mem)) ∧
    (∀ x : RetArgs, BFree s c x.cond →
      let o : Nat := (s.areg c.val 15).toNat
      let at_ (i : Nat) : Nat := dBase d7 + o + 4 * i
      (on x.cond = false → Gives (.ret c x) s fun t => ∃ tgt,
        s.resolved t c.val x.cond false false tgt true ∧ (t.core c.val).pws = k.pws ∧ (t.core c.val).jobs = k.jobs) ∧
      (on x.cond = true → frameOk (o : Int) x.mask →
        (∀ i, i ≤ (regs x.mask).length → s.bankReady c.val (at_ i) ∧ s.notQueued c.val (at_ i) 4) → Gives (.ret c x) s fun t =>
          s.resolved t c.val x.cond false true (BitVec.ofNat 32 (memNat s.mem (at_ 0) 4)) true ∧
          (t.core c.val).pws = joins k.pws (((regs x.mask).zipIdx.map fun n =>
            (⟨k.t + 4, k.t, 6, .s (BitVec.ofNat 6 n.1), (BitVec.ofNat 32 (memNat s.mem (at_ (n.2 + 1)) 4)).setWidth 512⟩ : PW)) ++
            [⟨k.t + 1, k.t, 6, .a 15, (s.areg c.val 15 + BitVec.ofNat 32 (size x.mask)).setWidth 512⟩]) ∧
          (t.core c.val).jobs = k.jobs ∧ t.mem = s.mem)) ∧
    (∀ x : LoopArgs, BFree s c x.cond → x.lv ≠ 3 → (x.ci = true ∨ x.cnt.toNat < 64) → on x.cond = true → k.npc.toNat % 4 = 0 →
      let n : Word := if x.ci then x.cnt.setWidth 32 else s.sreg c.val x.cnt.toNat
      let le : Word := k.npc + BitVec.ofNat 32 (2 * x.len.toNat)
      Gives (.loop c x) s fun t =>
        (t.core c.val).pws = joins k.pws [⟨k.t + 1, k.t, 6, .lc x.lv, n.setWidth 512⟩,
          ⟨k.t + 1, k.t, 6, .ls x.lv, k.npc.setWidth 512⟩, ⟨k.t + 1, k.t, 6, .le x.lv, le.setWidth 512⟩] ∧
        (t.core c.val).pc = (if n = 0 then le + BitVec.ofNat 32 (s.bundleAt c.val le.toNat).size else k.pc) ∧ t.mem = s.mem)

/-- 02 R55, R62, 07 R257, R263, R264, R266, 09 R307, 15 R486, 19 R569, R570: the system operations. NOP may stand in a
delay slot and in a LOCK sequence; GEND ends the program; WAIT stops issue; FENCE and ISYNC wait for the store
buffer; SWEV raises its source; BRK halts where debug is open, and is a NOP on a sealed unit. -/
def Obligations.SystemOperations : Prop :=
  ∀ (s : State) (c : CoreId) (x : SysArgs),
    let k := s.core c.val
    OpRuns s c x.short x.cond →
    let empty : Prop := k.sb = [] ∧ k.sbWait = []
    (x.imm = 0 → exec (.nop c x) s = .next s) ∧
    (x.imm = 0 → k.ds = none → s.inSeq c.val = false →
      (∀ cycle, Gives (.gend c x cycle) s fun t => t.mem = s.mem ∧
        (k.halted = true ∨ k.prog ≠ .grain ∨ k.grain = (s.bench (c.val / 8)).grain →
          (t.core c.val).prog = .none ∧ (t.core c.val).pc = k.gentry ∧ (t.core c.val).waiting = false ∧
          t.fld (coreReg A.perfGend c.val) 0 16 = cycle.toNat ∧
          (k.drain = .none → (t.core c.val).res = none) ∧ (t.core c.val).dslot = none ∧ (t.core c.val).sb = k.sb)) ∧
      (Gives (.wait c x) s fun t => (t.core c.val).waiting = true ∧ (t.core c.val).prog = k.prog ∧ (t.core c.val).pc = k.pc ∧
        t.mem = s.mem ∧ t.regs = s.regs) ∧
      (s.debugOpen = false → exec (.brk c x) s = .next s) ∧
      (s.debugOpen = true → k.brkNop = true → exec (.brk c x) s = .next s) ∧
      (s.debugOpen = true → k.brkNop = false → Gives (.brk c x) s fun t =>
        (t.core c.val).haltPend = some 1 ∧ (t.core c.val).pc = k.bpc ∧ (t.core c.val).squash = true ∧ t.mem = s.mem)) ∧
    (x.imm = 0 → s.inSeq c.val = false →
      (empty → exec (.fence c x) s = .next s) ∧
      (¬ empty → Gives (.fence c x) s fun t => (t.core c.val).drain = .fence ∧ (t.core c.val).sb = k.sb ∧ t.mem = s.mem) ∧
      (empty → Gives (.isync c x) s fun t => (t.core c.val).fpath = [] ∧ (t.core c.val).drain = k.drain ∧ t.mem = s.mem) ∧
      (¬ empty → Gives (.isync c x) s fun t => (t.core c.val).drain = .isync ∧ (t.core c.val).fpath = k.fpath ∧ t.mem = s.mem)) ∧
    (x.short = false → x.imm.toNat < 192 → s.inSeq c.val = false →
      exec (.swev c x) s = .next (s.raise (768 + x.imm.toNat) c.val 0))

/-- 06 R217, R220, R222, 07 R256, R261, R264, 09 R302-R304: a bundle issues. It takes the next number and the results
whose write point has come reach their registers; after a delay slot of a taken transfer the target follows, at a
loop's end its start, with the new count a result at latency 1, else the next bundle in sequence; an annulled delay
slot issues squashed. Model's choice: how far fetch runs ahead is the row's operand (log entry 49). -/
def Obligations.BundleIssues : Prop :=
  ∀ (s : State) (c : CoreId) (ahead : Fin 9) (b : FBundle), s.fetches c b →
    let k := s.core c.val
    let now := takeDue (s.halfWidth c.val) k (k.t + 1)
    let next : Word := k.pc + BitVec.ofNat 32 b.size
    let s1 := s.beginBundle c.val b
    let at_ (ps : List PW) (t : State) : Prop := let j := t.core c.val
      j.t = k.t + 1 ∧ j.bpc = k.pc ∧ j.npc = next ∧ j.ds = k.dslot ∧ j.dslot = none ∧ j.squash = k.annul ∧ j.annul = false ∧
      j.s = now.s ∧ j.a = now.a ∧ j.v = now.v ∧ j.p = now.p ∧ j.va = now.va ∧ j.flg = now.flg ∧ j.segs = now.segs ∧
      j.lc = now.lc ∧ j.pws = ps ∧ j.accs = now.accs ∧ j.sb = k.sb ∧ t.mem = s.mem
    let counted (lv : Nat) (n : Word) : List PW := pwInsert ⟨k.t + 2, k.t + 1, 0, .lc (BitVec.ofNat 2 lv), n.setWidth 512⟩ now.pws
    let noEnd (lv : Nat) : Prop := tget 0 now.lc lv = 0 ∨ tget 0 now.le lv ≠ k.pc
    (∀ is, k.annul = false → s1.sound c b is → (∀ i ∈ is, s1.redirects c.val i = false) →
      (∀ tgt, k.dslot = some (true, tgt) → Gives (.bundleIssue c ahead) s fun t => at_ now.pws t ∧ (t.core c.val).pc = tgt) ∧
      ((∀ tgt, k.dslot ≠ some (true, tgt)) →
        (noEnd 0 → noEnd 1 → noEnd 2 → Gives (.bundleIssue c ahead) s fun t => at_ now.pws t ∧ (t.core c.val).pc = next) ∧
        (∀ lv n, lv < 3 → (∀ l, lv < l → l < 3 → noEnd l) → tget 0 now.le lv = k.pc → tget 0 now.lc lv = n → 1 < n.toNat →
          Gives (.bundleIssue c ahead) s fun t => at_ (counted lv (n - 1)) t ∧ (t.core c.val).pc = tget 0 now.ls lv) ∧
        (∀ lv, lv < 3 → (∀ l, l < 3 → l ≠ lv → noEnd l) → tget 0 now.le lv = k.pc → tget 0 now.lc lv = 1 →
          Gives (.bundleIssue c ahead) s fun t => at_ (counted lv 0) t ∧ (t.core c.val).pc = next))) ∧
    (∀ is, k.annul = false → s1.sound c b is → (∃ i ∈ is, s1.redirects c.val i = true) → (∀ tgt, k.dslot ≠ some (true, tgt)) →
      Gives (.bundleIssue c ahead) s fun t => at_ now.pws t ∧ (t.core c.val).pc = next) ∧
    (∀ tgt, k.annul = true → k.dslot = some (false, tgt) → noEnd 0 → noEnd 1 → noEnd 2 →
      Gives (.bundleIssue c ahead) s fun t => at_ now.pws t ∧ (t.core c.val).pc = next) ∧
    (s.perfOn c.val = true → k.annul = true → Gives (.bundleIssue c ahead) s fun t =>
      (t.rawReg (coreReg A.perfBundles c.val)).toNat = min 0xFFFFFFFF ((s.rawReg (coreReg A.perfBundles c.val)).toNat + 1))

/-- 06 R193, R194, 08 R275, 09 R304: where a due result goes: its register, the active lanes within the width, the
fields of FLG that it names; an accumulator change adds its product, saturated to 72 bits. -/
def Obligations.ResultsReachRegisters : Prop :=
  ∀ (half : Bool) (k : Core) (t : Nat) (x : PW), x.due ≤ t → k.pws = [x] → k.accs = [] →
    let j := takeDue half k t
    let v : Word := x.val.setWidth 32
    j.pws = [] ∧ j.accs = [] ∧ j.pc = k.pc ∧ j.sb = k.sb ∧
    (∀ n, x.tgt = .s n → ∀ m, tget 0 j.s m = if m = n.toNat then v else tget 0 k.s m) ∧
    (∀ n, x.tgt = .a n → ∀ m, tget 0 j.a m = if m = n.toNat then v else tget 0 k.a m) ∧
    (∀ n, x.tgt = .p n → ∀ m, tget 0 j.p m = if m = n.toNat then x.val.setWidth 64 else tget 0 k.p m) ∧
    (∀ n on, x.tgt = .v n on → ∀ m, m ≠ n.toNat → tget 0 j.v m = tget 0 k.v m) ∧
    (∀ n on i, x.tgt = .v n on → i < 16 → lane (tget 0 j.v n.toNat) i =
      if on.getLsbD i = true ∧ (half = false ∨ i < 8) then lane x.val i else lane (tget 0 k.v n.toNat) i) ∧
    (∀ bits, x.tgt = .flg bits → ∀ i, i < 32 → j.flg.getLsbD i = if bits.getLsbD i then v.getLsbD i else k.flg.getLsbD i) ∧
    ((∀ bits, x.tgt ≠ .flg bits) → j.flg = k.flg) ∧
    (∀ (y : AccChg) (i : Nat), y.due ≤ t → i < 16 → (half = false ∨ i < 8) → y.lanes.getLsbD i = true → y.fn = .mac →
      let r := accLane (tget 0 k.va y.n.toNat) i + (lane y.x i).toInt * (lane y.y i).toInt
      let z := takeDue half { k with pws := [], accs := [y] } t
      accLane (tget 0 z.va y.n.toNat) i = max (-2 ^ 71) (min (2 ^ 71 - 1) r) ∧
      (¬ (-2 ^ 71 ≤ r ∧ r < 2 ^ 71) → z.flg.getLsbD 4 = true))

/-- 06 R201, R222, R228: an operation of a squashed bundle has no effect. 06 R201: a long operation whose condition is
false and whose encoding is defined has no effect; a transfer that is not taken has its own statement. 06 R228: an
operation that faults has no effect of its own: its command takes the fault. -/
def Obligations.OperationGate : Prop :=
  (∀ (s : State) (p : Bool) (i : Instr) (c : CoreId) (r : RawOp), encodeOp p i = some (c, r) →
      (s.core c.val).squash = true → exec i s = .next s) ∧
  (∀ (s : State) (p : Bool) (i : Instr) (c : CoreId) (r : RawOp), encodeOp p i = some (c, r) → i.wf = true → r.long = true →
      s.opFault c.val i = none → s.condTrue c.val (r.w / 32 % 16) = false →
      (∀ x, i ≠ .br c x) → (∀ x, i ≠ .bri c x) → (∀ x, i ≠ .call c x) → (∀ x, i ≠ .ret c x) → exec i s = .next s) ∧
  (∀ (s : State) (p : Bool) (i : Instr) (c : CoreId) (r : RawOp) (f : FltRec), encodeOp p i = some (c, r) →
      (s.core c.val).squash = false → s.opFault c.val i = some f → exec i s = .next (s.opFaulted c.val f))

/-- 06 R190, R192, R195, R197, R199, R200, 07 R238, R240, R243, R245, R250, R257, R266, R270, 08 R280, R281, R284, R295:
what raises ILLEGAL, whether the condition is true or false, and the division by zero that traps. -/
def Obligations.IllegalOperations : Prop :=
  ∀ (s : State) (c : CoreId),
    let k := s.core c.val
    let bad (i : Instr) (slot : Nat) : Prop := ∃ f, s.opFault c.val i = some f ∧ f.cause = 0x01 ∧ f.slot = some slot
    (∀ (p : Bool) (i : Instr) (r : RawOp), encodeOp p i = some (c, r) → i.wf = true → r.long = true →
      (s.predMode c.val = false ∧ r.w / 32 % 16 = 0xF ∨ s.predMode c.val = true ∧ r.w / 32 % 16 = 0x8) → bad i r.slot) ∧
    (∀ x : XArgs, (x.rd.toNat % 2 = 1 → bad (.mulw c x) (4 + x.slot.val)) ∧
      (x.slot = 1 → bad (.div c x) 5 ∧ bad (.divs c x) 5 ∧ bad (.divu c x) 5 ∧ bad (.rem c x) 5 ∧ bad (.remu c x) 5) ∧
      (OpRuns s c x.short x.cond → x.slot = 0 → s.sreg c.val x.rb.toNat = 0 → s.dzt c.val = true →
        s.opFault c.val (.div c x) = some ⟨0x0B, some 4, none, none⟩ ∧ s.opFault c.val (.remu c x) = some ⟨0x0B, some 4, none, none⟩)) ∧
    (∀ x : LArgs, (x.rt.toNat % 2 = 1 → bad (.ldd c x) x.slot.val ∧ bad (.std c x) x.slot.val ∧ bad (.lddp c x) x.slot.val ∧
        bad (.stdp c x) x.slot.val) ∧
      (x.slot = 1 → bad (.ldx c x) 1 ∧ bad (.stx c x) 1 ∧ bad (.lock c x) 1) ∧
      (s.sreg c.val x.rt.toNat &&& 0xFF80 ≠ 0 → bad (.segld c x) x.slot.val) ∧
      (s.inSeq c.val = true → bad (.segld c x) x.slot.val ∧ bad (.ldx c x) x.slot.val ∧ bad (.stx c x) x.slot.val ∧
        bad (.lock c x) x.slot.val)) ∧
    (∀ x : CmpArgs, x.pd = 0 ∨ x.cc = 7 → bad (.cmp c x) (4 + x.slot.val)) ∧
    (∀ x : MCmpArgs, (x.pd = 0 ∨ x.cc = 7 → bad (.vcmp c x) (2 + x.slot.val)) ∧
      (x.pd = 0 ∨ 5 ≤ x.cc.toNat → bad (.vfcmp c x) (2 + x.slot.val))) ∧
    (∀ x : AccMovArgs, (64 ≤ x.sh.toNat → bad (.vacx c x) (2 + x.slot.val)) ∧ (41 ≤ x.sh.toNat → bad (.vacr c x) (2 + x.slot.val))) ∧
    (∀ x : PopArgs, x.pd = 0 → bad (.pop c x) 7) ∧
    (∀ x : PnotArgs, x.pd = 0 → bad (.pnot c x) 7) ∧
    (∀ x : MovsrArgs, (x.dir = true → x.sr.toNat ∈ [1, 2, 3, 7, 11, 15] ∨ 16 ≤ x.sr.toNat → bad (.movsr c x) 7) ∧
      (x.dir = false → x.sr.toNat ∈ [7, 11, 15] ∨ 24 ≤ x.sr.toNat → bad (.movsr c x) 7) ∧
      (x.dir = true → x.sr = 0 → s.sreg c.val x.r.toNat &&& 0xFFFCF0C0 ≠ 0 → bad (.movsr c x) 7)) ∧
    (∀ x : VMemArgs, (x.nf = 0 ∨ 31 < x.vt.toNat + x.nf.toNat → bad (.vlds c x) x.slot.val ∧ bad (.vsts c x) x.slot.val) ∧
      (x.slot = 1 → bad (.vgth c x) 1 ∧ bad (.vsct c x) 1)) ∧
    (k.ds.isSome = true ∨ s.inSeq c.val = true → (∀ x, bad (.br c x) 6) ∧ (∀ x, bad (.bri c x) 6) ∧ (∀ x, bad (.brs c x) 6) ∧
      (∀ x, bad (.call c x) 6) ∧ (∀ x, bad (.ret c x) 6) ∧ (∀ x, bad (.loop c x) 6) ∧ (∀ x n, bad (.gend c x n) 6) ∧
      (∀ x, bad (.wait c x) 6) ∧ (∀ x, bad (.brk c x) 6)) ∧
    (s.inSeq c.val = true → (∀ x, bad (.fence c x) 6) ∧ (∀ x, bad (.isync c x) 6) ∧ (∀ x, bad (.swev c x) 6))

/-- 06 R228-R234, 02 R64: a fault of an operation. The record takes it if it is the first, source 32 is raised, queued
stores and memory stay, and the core takes the action in FACT. 06 R217, R227, R230, 07 R255: a fetch that faults:
beyond the limit or from a segment that is null or not executable, of a word with an uncorrectable error, of a
register target that is not aligned. Model's choices: FLT_NPC of a fetch fault and in a delay slot (log entry 60),
other fields that a fault does not have are free (43). -/
def Obligations.CoreFaults : Prop :=
  (∀ (s : State) (c : CoreId) (f : FltRec),
      let k := s.core c.val
      let t := s.opFaulted c.val f
      let st := coreReg A.fltStat c.val
      k.halted = false → f.cause < 256 → (∀ sl, f.slot = some sl → sl < 8) → (∀ e, f.elem = some e → e < 16) →
      t.mem = s.mem ∧ (t.core c.val).sb = k.sb ∧ (t.core c.val).squash = true ∧
      (k.lockWait = none → (∀ x ∈ k.pws, x.due ≤ k.t + 16) → (t.core c.val).pws = []) ∧
      (t.core c.val).res = none ∧
      (t.rawReg (coreReg A.coreFltcnt c.val)).toNat = min 0xFFFFFFFF ((s.rawReg (coreReg A.coreFltcnt c.val)).toNat + 1) ∧
      (∃ r ∈ t.raises, r.src = 32 ∧ r.obj = BitVec.ofNat 16 c.val ∧ r.info = BitVec.ofNat 40 f.cause) ∧
      (s.bit st 0 = true → t.bit st 1 = true ∧ t.fld st 8 24 = s.fld st 8 24 ∧ t.rawReg (coreReg A.fltPc c.val) = s.rawReg (coreReg A.fltPc c.val) ∧
        t.rawReg (coreReg A.fltNpc c.val) = s.rawReg (coreReg A.fltNpc c.val)) ∧
      (s.bit st 0 = false → t.bit st 0 = true ∧ t.fld st 8 8 = f.cause ∧ t.bit st 19 = k.ds.isSome ∧
        t.rawReg (coreReg A.fltPc c.val) = k.bpc ∧ t.rawReg (coreReg A.fltGsn c.val) = k.gsn ∧
        t.rawReg (coreReg A.fltNpc c.val) = (match k.ds with | some x => x.2 | none => k.npc) ∧
        (∀ sl, f.slot = some sl → t.fld st 16 3 = sl) ∧
        (∀ a : FltAcc, f.acc = some a → a.seg < 8 → t.fld st 26 3 = a.seg ∧ t.bit st 20 = a.wr ∧
          t.fld (coreReg A.fltDesc c.val) 0 7 = (s.segReg c.val a.seg).idx.toNat ∧
          t.fld (coreReg A.fltDesc c.val) 16 16 = dGen (s.segReg c.val a.seg).desc ∧
          ∀ o, a.addr = some o → t.rawReg (coreReg A.fltAddr c.val) = o)) ∧
      (s.fact c.val = 0 → (t.core c.val).prog = .none ∧ (t.core c.val).pc = k.gentry ∧ (t.core c.val).lc = [] ∧
        t.fld (coreReg A.coreGctl c.val) 0 1 = s.fld (coreReg A.coreGctl c.val) 0 1) ∧
      (s.fact c.val = 1 ∨ (s.fact c.val = 2 ∧ s.debugOpen = false) → (t.core c.val).prog = .none ∧ (t.core c.val).pc = k.gentry ∧
        t.fld (coreReg A.coreGctl c.val) 0 1 = 0 ∧ bitAt (t.core c.val).gctl.toNat 0 = false) ∧
      (s.fact c.val = 2 → s.debugOpen = true → (t.core c.val).haltPend = some 2 ∧ (t.core c.val).pc = k.bpc)) ∧
  (∀ (s : State) (c : CoreId) (ahead : Fin 9),
      let k := s.core c.val
      let b := s.bundleAt c.val k.pc.toNat
      let st := coreReg A.fltStat c.val
      let flt (cause : Nat) (t : State) : Prop := t.bit st 0 = true ∧ t.fld st 8 8 = cause ∧ t.rawReg (coreReg A.fltPc c.val) = k.pc ∧
        t.mem = s.mem ∧ (t.core c.val).t = k.t ∧ ∃ r ∈ t.raises, r.src = 32 ∧ r.obj = BitVec.ofNat 16 c.val ∧ r.info = BitVec.ofNat 40 cause
      s.islandUp (c.val / 8) = true → canIssue k = true → s.bit st 0 = false →
      (k.regTgt = true → k.dslot = none → k.pc.toNat % 4 ≠ 0 → Gives (.bundleIssue c ahead) s (flt 0x0A)) ∧
      (k.pc.toNat % 4 = 0 → s.coreWaits c.val (dBase k.code.desc + k.pc.toNat) = false →
        let flt (cause : Nat) (t : State) : Prop := flt cause t ∧ t.rawReg (coreReg A.fltAddr c.val) = k.pc
        (dV k.code.desc = false ∨ dX k.code.desc = false ∨ dLimit k.code.desc + 1 < k.pc.toNat + b.size →
          Gives (.bundleIssue c ahead) s (flt 0x02)) ∧
        (dV k.code.desc = true → dX k.code.desc = true → k.pc.toNat + b.size ≤ dLimit k.code.desc + 1 → b.ue = true →
          Gives (.bundleIssue c ahead) s (flt 0x03))))

/-- 06 R208, R216, R227, R229, 01 R30, R32, 07 R247: the causes of an access through a segment, the first that holds in
the order of the table. 08 R299, R300, 06 R229, R232: a vector memory operation of which an active element would
fault loads and stores nothing; the record names the lowest such lane and its offset. -/
def Obligations.AccessFaults : Prop :=
  (∀ (c : Nat) (d : BitVec 128) (o : Int) (size : Nat) (wr : Bool), 0 < size →
      let cause := accessCause c d o size wr
      (dV d = false → cause = some 0x04) ∧
      (dV d = true → (wr = true ∧ (dW d = false ∨ dF d = true) ∨ wr = false ∧ dR d = false) → cause = some 0x07) ∧
      (dV d = true → (wr = true → dW d = true ∧ dF d = false) → (wr = false → dR d = true) →
        ((o < 0 ∨ (dLimit d : Int) < o + size - 1) → cause = some 0x08) ∧
        (0 ≤ o → o + size - 1 ≤ dLimit d →
          (dClass d = 1 → coreCtlOk c (dBase d + o.toNat) = false → cause = some 0x09) ∧
          ((dClass d = 1 → coreCtlOk c (dBase d + o.toNat) = true) →
            (o % size ≠ 0 ∨ (dClass d = 1 ∧ size ≠ 4) → cause = some 0x0A) ∧
            (o % size = 0 → (dClass d = 1 → size = 4) → cause = none))))) ∧
  (∀ (s : State) (c : CoreId) (x : VMemArgs) (l : Nat),
      let d := (s.segReg c.val x.seg.toNat).desc
      let m := s.active c.val x.pg.toNat
      let o (i : Nat) : Int := ((s.areg c.val x.areg.toNat).toNat : Int) + 4 * (i : Nat)
      OpRuns s c false x.cond → (s.areg c.val x.areg.toNat).toNat % 4 = 0 → l < 16 → m.getLsbD l = true → dV d = true →
      dR d = true → dClass d ≠ 1 → s.bit (coreReg A.fltStat c.val) 0 = false →
      (∀ i, i < l → m.getLsbD i = true → o i + 3 ≤ dLimit d) → (dLimit d : Int) < o l + 3 →
      Gives (.vld c x) s fun t =>
        t.mem = s.mem ∧ (t.core c.val).sb = (s.core c.val).sb ∧
        t.fld (coreReg A.fltStat c.val) 8 8 = 0x08 ∧ t.fld (coreReg A.fltStat c.val) 16 3 = x.slot.val ∧
        t.bit (coreReg A.fltStat c.val) 21 = true ∧ t.fld (coreReg A.fltStat c.val) 22 4 = l ∧
        t.fld (coreReg A.fltStat c.val) 26 3 = x.seg.toNat ∧ t.bit (coreReg A.fltStat c.val) 20 = false ∧
        t.rawReg (coreReg A.fltAddr c.val) = BitVec.ofInt 32 (o l) ∧
        ∃ r ∈ t.raises, r.src = 32 ∧ r.obj = BitVec.ofNat 16 c.val ∧ r.info = 0x08)

/-- 12 R412, R413: the tally digests. A bench sends those of its oldest unsent grain over the twin link, or chain-out
where that is down, once its eight cores have ended the grain; the digest of an entry runs CRC-32C over the records
of its stores. Model's choices: digests take the path of the samples (log entry 15), in the order of the grains
(106). -/
def Obligations.TallyDigests : Prop :=
  (∀ (s : State) (b : BenchId),
    let x := s.bench b.val
    let g := x.tdigNext
    let cs := (List.range 8).map (fun i => 8 * b.val + i)
    let ds := cs.map (fun c => tget 0 (s.core c).digs g)
    s.paired = true → x.started = true → g ≤ x.grain.toNat → s.islandUp 30 = true →
    ((∀ c ∈ cs, s.endedGrain c g = true) →
      (s.portUp 2 = true → Gives (.tdigSend b) s fun t =>
        t.sentOn 2 (.tdig b.val (BitVec.ofNat 64 g) ds) ∧ (t.bench b.val).tdigNext = g + 1 ∧ t.mem = s.mem) ∧
      (s.portUp 2 = false → s.portUp 3 = true → Gives (.tdigSend b) s fun t =>
        t.sentOn 3 (.tdig b.val (BitVec.ofNat 64 g) ds) ∧ (t.bench b.val).tdigNext = g + 1 ∧ t.mem = s.mem)) ∧
    ((∃ c ∈ cs, s.endedGrain c g = false) → exec (.tdigSend b) s = .next s)) ∧
  (∀ (k : Core) (e : SbEntry) (g : Nat), tget 0 (digestEntry k e).digs g =
    if g = e.digGrain then crc32cFrom (tget 0 k.digs g) (e.parts.flatMap (fun p => p.record)) else tget 0 k.digs g) ∧
  (∀ p : StPart, p.record.length = 16)

/-- The block takes the command at the front of its queue and runs it with the rest; on an empty queue time passes (log
entry 1). Every command answers a next state, and its effect is on everything but the queue. -/
def Obligations.StepRunsFront : Prop :=
  ((∀ (s : State) (i : Instr) (q : List Instr), step { s with pending := i :: q } = exec i { s with pending := q }) ∧
    (∀ s : State, s.pending = [] → step s = .next (idleTick s))) ∧
  (∀ (i : Instr) (s : State), ∃ t, exec i s = .next t ∧ t.pending = s.pending)

/-- 18 R543, R544, R549, 02 R49, 05 R177, R184, 06 R205, 16 R521, 17 R530, 19 R577: the unit right after power-on reset.
Every register holds its reset value, memory reads 0, the rate domains are OFF, every bank is ON, has no owner and
is not on loan, the cores are STOPPED, nothing is latched, debug is sealed, no command waits. Model's choices: 0
where the manual gives no reset value (log entry 2), unconnected straps (4), memory zero before READY (112). -/
def Obligations.ResetState : Prop :=
  let r := State.reset
  (∀ o, r.rawReg o = resetOf o) ∧ (∀ a, memByte r.mem a = 0) ∧ Memory.wf r.mem = true ∧ r.pending = [] ∧ r.raises = [] ∧
  (∀ d : DomId, r.domState d.val = 0 ∧ r.domRuns d.val = false) ∧
  (∀ n : BankId, r.owner n.val = 255 ∧ r.lender n.val = 255 ∧ r.awake n.val = true) ∧
  (∀ c : CoreId, r.coreState c.val = 0 ∧ (∀ i, r.sreg c.val i = 0) ∧ ∀ i, (r.segReg c.val i).desc = 0) ∧
  r.rawReg A.ufLatchLo = 0 ∧ r.rawReg A.ufLatchHi = 0 ∧ r.debugOpen = false ∧ r.fld A.protCwin 0 22 = 2000000 ∧
  r.fld A.sysStat 0 2 = 0 ∧ r.index = none

/-- Memory keeps its one canonical form, so that equal memories are equal data: no step ends it. -/
def Obligations.StepKeepsMemoryCanonical : Prop :=
  ∀ s t : State, Memory.wf s.mem = true → step s = .next t → Memory.wf t.mem = true

/-- No row outside `mayWriteMemory` changes a byte of memory. -/
def Obligations.OtherRowsKeepMemory : Prop :=
  ∀ (i : Instr) (s t : State), mayWriteMemory i = false → exec i s = .next t →
    t.mem = s.mem ∧ ∀ a, memByte t.mem a = memByte s.mem a

/-- 06 R189, 07 R237, R249, R265: an operation of a core changes no register, program counter or accumulator of another
core. -/
def Obligations.OtherCoresKept : Prop :=
  ∀ (s t : State) (p : Bool) (i : Instr) (c : CoreId) (r : RawOp), encodeOp p i = some (c, r) → exec i s = .next t →
    ∀ d, d ≠ c.val → (t.core d).s = (s.core d).s ∧ (t.core d).a = (s.core d).a ∧ (t.core d).v = (s.core d).v ∧
      (t.core d).p = (s.core d).p ∧ (t.core d).va = (s.core d).va ∧ (t.core d).flg = (s.core d).flg ∧
      (t.core d).pc = (s.core d).pc ∧ (t.core d).lc = (s.core d).lc ∧ (t.core d).segs = (s.core d).segs ∧
      (t.core d).sb = (s.core d).sb

/-- 06 R219, R220, 07 R235-R251, 08 R276, R293: the words that the manual writes out decode to the operations it names. -/
def Obligations.EncodingWords : Prop :=
  ∀ c : CoreId,
    decodeOp c ⟨true, true, 0, 0x42A13403⟩ = some (.vlds c ⟨0, 0, 4, 0, 2, 5, false, 1, 0⟩) ∧
    decodeOp c ⟨false, true, 2, 0xA800000A⟩ = some (.vacz c ⟨0, 0, false, 0, 0, 0, 0⟩) ∧
    decodeOp c ⟨true, true, 2, 0x8041000B⟩ = some (.vmacq c ⟨0, 0, false, 0, 4, 8, 0⟩) ∧
    decodeOp c ⟨false, true, 2, 0x981F140A⟩ = some (.vacx c ⟨0, 0, 10, 0, 31, 0⟩) ∧
    decodeOp c ⟨false, true, 6, 0x02024A1A⟩ = some (.loop c ⟨0, 0, true, 4, 4⟩)

/-- 06 R218, R219, 07 R235-R269, 08 R276-R293: decode and encode agree. A well-formed operation's words decode to it,
with every operand as it was; GEND's cycle is no part of its words. -/
def Obligations.DecodeEncode : Prop :=
  ∀ (p : Bool) (i : Instr) (c : CoreId) (r : RawOp), i.wf = true → encodeOp p i = some (c, r) → decodeOp c r = some (asCoded i)

/-- The words say all: an operation that decodes is well-formed, and encoding it gives the same words back, so no
reserved bit is passed over and no two words spell one operation. -/
def Obligations.EncodeDecode : Prop :=
  ∀ (c : CoreId) (r : RawOp) (i : Instr), r.w < (if r.long then 2 ^ 32 else 2 ^ 16) → r.w % 2 = r.p.toNat →
    r.w / 2 % 2 = r.long.toNat → r.w / 4 % 8 = r.slot → decodeOp c r = some i →
    i.wf = true ∧ asCoded i = i ∧ encodeOp r.p i = some (c, r)
end

