-- ==== Sys2Proof/Laws/Table.lean ====
section
/-! SUPPORT. The laws of tables, of bit fields and of the register file: a read after a write to the same place gives the
value written, a write leaves every other place alone, and every operation on a table keeps its canonical form. -/

namespace Sys2Proof.Machine

/-! ### Tables: read after write -/

theorem tfind_tdel_self {α : Type} (t : Tbl α) (n : Nat) : tfind (tdel t n) n = none := by
  induction t with
  | nil => rfl
  | cons e t ih =>
    obtain ⟨k, v⟩ := e
    unfold tdel at ih ⊢
    rw [List.filter_cons]
    split
    · rename_i h
      simp only [bne_iff_ne, ne_eq] at h
      simp only [tfind, if_neg h, ih]
    · exact ih

theorem tfind_tdel_ne {α : Type} (t : Tbl α) (n m : Nat) (h : m ≠ n) : tfind (tdel t n) m = tfind t m := by
  induction t with
  | nil => rfl
  | cons e t ih =>
    obtain ⟨k, v⟩ := e
    unfold tdel at ih ⊢
    rw [List.filter_cons]
    split
    · simp only [tfind, ih]
    · rename_i hk
      have hk : k = n := by simpa using hk
      have : k ≠ m := fun e => h (e.symm.trans hk)
      simp only [tfind, if_neg this, ih]

theorem tfind_tput_self {α : Type} (t : Tbl α) (n : Nat) (x : α) : tfind (tput t n x) n = some x := by
  induction t with
  | nil => simp [tput, tfind]
  | cons e t ih =>
    obtain ⟨k, v⟩ := e
    simp only [tput]
    split
    · simp [tfind]
    · split
      · simp [tfind]
      · rename_i hne
        simp only [tfind, if_neg (Ne.symm hne), ih]

theorem tfind_tput_ne {α : Type} (t : Tbl α) (n m : Nat) (x : α) (h : m ≠ n) : tfind (tput t n x) m = tfind t m := by
  induction t with
  | nil => simp [tput, tfind, Ne.symm h]
  | cons e t ih =>
    obtain ⟨k, v⟩ := e
    simp only [tput]
    split
    · simp [tfind, Ne.symm h]
    · split
      · rename_i heq
        subst heq
        simp [tfind, Ne.symm h]
      · simp only [tfind, ih]

/-- A read after a write of the same entry gives the value written. -/
@[simp] theorem tget_tset_self {α : Type} [DecidableEq α] (d : α) (t : Tbl α) (n : Nat) (x : α) :
    tget d (tset d t n x) n = x := by
  unfold tset tget
  split
  · rename_i h
    rw [tfind_tdel_self, h]; rfl
  · rw [tfind_tput_self]; rfl

/-- A write leaves every other entry alone. -/
@[simp] theorem tget_tset_ne {α : Type} [DecidableEq α] (d : α) (t : Tbl α) (n m : Nat) (x : α) (h : m ≠ n) :
    tget d (tset d t n x) m = tget d t m := by
  unfold tset tget
  split
  · rw [tfind_tdel_ne _ _ _ h]
  · rw [tfind_tput_ne _ _ _ _ h]

/-- Whatever default an entry is read with, a write of another entry leaves it alone. -/
@[simp] theorem tget_tset_ne' {α : Type} [DecidableEq α] (d d' : α) (t : Tbl α) (n m : Nat) (x : α) (h : m ≠ n) :
    tget d (tset d' t n x) m = tget d t m := by
  unfold tset tget
  split
  · rw [tfind_tdel_ne _ _ _ h]
  · rw [tfind_tput_ne _ _ _ _ h]

theorem tget_tset {α : Type} [DecidableEq α] (d : α) (t : Tbl α) (n m : Nat) (x : α) :
    tget d (tset d t n x) m = if m = n then x else tget d t m := by
  split
  · rename_i h; subst h; exact tget_tset_self ..
  · rename_i h; exact tget_tset_ne _ _ _ _ _ h

@[simp] theorem tget_nil {α : Type} (d : α) (n : Nat) : tget d [] n = d := rfl

/-! ### Tables: the canonical form -/

theorem tblWf_cons {α : Type} [DecidableEq α] (d : α) (k : Nat) (v : α) (t : Tbl α) :
    tblWf d ((k, v) :: t) = true ↔ v ≠ d ∧ (∀ e ∈ t, k < e.1) ∧ tblWf d t = true := by
  induction t generalizing k v with
  | nil => simp [tblWf]
  | cons e t ih =>
    obtain ⟨k', v'⟩ := e
    simp only [tblWf, Bool.and_eq_true, decide_eq_true_eq]
    rw [ih]
    constructor
    · rintro ⟨⟨h1, h2⟩, h3, h4, h5⟩
      refine ⟨h1, ?_, h3, h4, h5⟩
      intro e he
      rcases List.mem_cons.1 he with rfl | he
      · exact h2
      · exact Nat.lt_trans h2 (h4 e he)
    · rintro ⟨h1, h2, h3, h4, h5⟩
      exact ⟨⟨h1, h2 _ (List.mem_cons_self ..)⟩, h3, h4, h5⟩

theorem tblWf_filter {α : Type} [DecidableEq α] (d : α) (p : Nat × α → Bool) (t : Tbl α) (h : tblWf d t = true) :
    tblWf d (t.filter p) = true := by
  induction t with
  | nil => rfl
  | cons e t ih =>
    obtain ⟨k, v⟩ := e
    rw [tblWf_cons] at h
    rw [List.filter_cons]
    split
    · rw [tblWf_cons]
      exact ⟨h.1, fun e he => h.2.1 e (List.mem_filter.1 he).1, ih h.2.2⟩
    · exact ih h.2.2

theorem mem_tput {α : Type} (t : Tbl α) (n : Nat) (x : α) : ∀ e ∈ tput t n x, e = (n, x) ∨ e ∈ t := by
  induction t with
  | nil => intro e he; simp [tput] at he; exact .inl he
  | cons a t ih =>
    obtain ⟨k, v⟩ := a
    intro e he
    simp only [tput] at he
    split at he
    · rcases List.mem_cons.1 he with h | h
      · exact .inl h
      · exact .inr h
    · split at he
      · rcases List.mem_cons.1 he with h | h
        · exact .inl h
        · exact .inr (List.mem_cons_of_mem _ h)
      · rcases List.mem_cons.1 he with h | h
        · exact .inr (h ▸ List.mem_cons_self ..)
        · rcases ih e h with h | h
          · exact .inl h
          · exact .inr (List.mem_cons_of_mem _ h)

theorem tblWf_tput {α : Type} [DecidableEq α] (d : α) (t : Tbl α) (n : Nat) (x : α) (hx : x ≠ d) (h : tblWf d t = true) :
    tblWf d (tput t n x) = true := by
  induction t with
  | nil => simp [tput, tblWf, hx]
  | cons a t ih =>
    obtain ⟨k, v⟩ := a
    have h' := h
    rw [tblWf_cons] at h
    simp only [tput]
    split
    · rename_i hlt
      rw [tblWf_cons]
      refine ⟨hx, ?_, h'⟩
      intro e he
      rcases List.mem_cons.1 he with rfl | he
      · exact hlt
      · exact Nat.lt_trans hlt (h.2.1 e he)
    · split
      · rename_i heq
        subst heq
        rw [tblWf_cons]
        exact ⟨hx, h.2.1, h.2.2⟩
      · rw [tblWf_cons]
        refine ⟨h.1, ?_, ih h.2.2⟩
        intro e he
        rcases mem_tput t n x e he with rfl | he
        · simp; omega
        · exact h.2.1 e he

theorem tblWf_tset {α : Type} [DecidableEq α] (d : α) (t : Tbl α) (n : Nat) (x : α) (h : tblWf d t = true) :
    tblWf d (tset d t n x) = true := by
  unfold tset
  split
  · exact tblWf_filter d _ t h
  · rename_i hx; exact tblWf_tput d t n x hx h

@[simp] theorem memPut_memWf (m : Mem) (a : Nat) (bs : List Byte) (h : Memory.wf m = true) : Memory.wf (memPut m a bs) = true := by
  induction bs generalizing m a with
  | nil => exact h
  | cons b bs ih => exact ih _ _ (tblWf_tset 0 m a b h)

@[simp] theorem filter_memWf (m : Mem) (p : Nat × Byte → Bool) (h : Memory.wf m = true) : Memory.wf (m.filter p) = true := tblWf_filter 0 p m h

@[simp] theorem foldl_tset_memWf (l : List (Nat × Byte)) (m : Mem) (h : Memory.wf m = true) : Memory.wf (l.foldl (fun m e => tset 0 m e.1 e.2) m) = true := by
  induction l generalizing m with
  | nil => exact h
  | cons x l ih => exact ih _ (tblWf_tset 0 m x.1 x.2 h)

/-! ### Folds over the state -/

@[simp] theorem ite_mem {c : Prop} [Decidable c] (a b : State) : (if c then a else b).mem = if c then a.mem else b.mem := by split <;> rfl

@[simp] theorem ite_fst_mem {α : Type} {c : Prop} [Decidable c] (a b : State × α) : (if c then a else b).1.mem = if c then a.1.mem else b.1.mem := by split <;> rfl

@[simp] theorem foldl_mem {α : Type} (g : State → α → State) (h : ∀ s x, (g s x).mem = s.mem) (l : List α) (s : State) : (l.foldl g s).mem = s.mem := by
  induction l generalizing s with
  | nil => rfl
  | cons x l ih => simp [ih, h]

@[simp] theorem foldl_fst_mem {α β : Type} (g : State × β → α → State × β) (h : ∀ s x, (g s x).1.mem = s.1.mem) (l : List α) (s : State × β) : (l.foldl g s).1.mem = s.1.mem := by
  induction l generalizing s with
  | nil => rfl
  | cons x l ih => simp [ih, h]

@[simp] theorem foldl_memWf {α : Type} (g : State → α → State) (h : ∀ s x, Memory.wf s.mem = true → Memory.wf (g s x).mem = true) (l : List α) (s : State) (hw : Memory.wf s.mem = true) : Memory.wf (l.foldl g s).mem = true := by
  induction l generalizing s with
  | nil => exact hw
  | cons x l ih => exact ih _ (h _ _ hw)

@[simp] theorem foldl_fst_memWf {α β : Type} (g : State × β → α → State × β) (h : ∀ s x, Memory.wf s.1.mem = true → Memory.wf (g s x).1.mem = true) (l : List α) (s : State × β) (hw : Memory.wf s.1.mem = true) : Memory.wf (l.foldl g s).1.mem = true := by
  induction l generalizing s with
  | nil => exact hw
  | cons x l ih => exact ih _ (h _ _ hw)

/-! ### Bytes of memory -/

/-- Memory with nothing listed is in canonical form. -/
@[simp] theorem memWf_nil : Memory.wf [] = true := rfl

/-- Writing bytes at rising addresses: outside them every byte is as it was. -/
theorem memByte_memPut_out (m : Mem) (a : Nat) (bs : List Byte) (x : Nat) (h : x < a ∨ a + bs.length ≤ x) :
    memByte (memPut m a bs) x = memByte m x := by
  induction bs generalizing m a with
  | nil => rfl
  | cons b bs ih =>
    simp only [memPut]
    rw [ih]
    · exact tget_tset_ne _ _ _ _ _ (by simp at h; omega)
    · simp at h; omega

/-- Writing bytes at rising addresses: each address holds its byte. -/
theorem memByte_memPut_in (m : Mem) (a : Nat) (bs : List Byte) (i : Nat) (h : i < bs.length) :
    memByte (memPut m a bs) (a + i) = bs[i] := by
  induction bs generalizing m a i with
  | nil => simp at h
  | cons b bs ih =>
    simp only [memPut]
    cases i with
    | zero =>
      rw [memByte_memPut_out _ _ _ _ (by omega)]
      exact tget_tset_self ..
    | succ i =>
      have h' : i < bs.length := by simpa using h
      have := ih (tset 0 m a b) (a + 1) i h'
      rw [Nat.add_assoc, Nat.add_comm 1 i] at this
      simpa using this

/-! ### Bit fields -/

theorem bitsAt_lt (x lo w : Nat) : bitsAt x lo w < 2 ^ w := Nat.mod_lt _ (Nat.two_pow_pos w)

theorem fget_lt (v : Word) (lo w : Nat) : fget v lo w < 2 ^ w := bitsAt_lt ..

/-! ### The register file -/

@[simp] theorem State.rawReg_setReg_self (s : State) (off : Nat) (v : Word) : (s.setReg off v).rawReg off = v :=
  tget_tset_self ..

@[simp] theorem State.rawReg_setReg_ne (s : State) (off off' : Nat) (v : Word) (h : off' ≠ off) :
    (s.setReg off v).rawReg off' = s.rawReg off' := tget_tset_ne' _ _ _ _ _ _ h

theorem State.rawReg_setReg (s : State) (off off' : Nat) (v : Word) :
    (s.setReg off v).rawReg off' = if off' = off then v else s.rawReg off' := by
  split
  · rename_i h; subst h; simp
  · rename_i h; simp [h]

@[simp] theorem State.rawReg_setFld_ne (s : State) (off off' lo w x : Nat) (h : off' ≠ off) :
    (s.setFld off lo w x).rawReg off' = s.rawReg off' := State.rawReg_setReg_ne _ _ _ _ h

@[simp] theorem State.fld_setReg_ne (s : State) (off off' lo w : Nat) (v : Word) (h : off' ≠ off) :
    (s.setReg off v).fld off' lo w = s.fld off' lo w := by simp [State.fld, h]

@[simp] theorem State.fld_setFld_ne (s : State) (off off' lo w lo' w' x : Nat) (h : off' ≠ off) :
    (s.setFld off lo w x).fld off' lo' w' = s.fld off' lo' w' := by simp [State.fld, h]

@[simp] theorem State.fld_setReg_self (s : State) (off lo w : Nat) (v : Word) :
    (s.setReg off v).fld off lo w = fget v lo w := by simp [State.fld]

/-- The same field read back. -/
theorem fget_fput_self (v : Word) (lo w x : Nat) (h : lo + w ≤ 32) : fget (fput v lo w x) lo w = x % 2 ^ w := by
  unfold fget fput bitsAt bitsPut bitsAt
  have hw : 0 < 2 ^ w := Nat.two_pow_pos w
  have hl : 0 < 2 ^ lo := Nat.two_pow_pos lo
  have hpow : 2 ^ 32 = 2 ^ lo * 2 ^ w * 2 ^ (32 - (lo + w)) := by rw [← Nat.pow_add, ← Nat.pow_add]; congr 1; omega
  generalize v.toNat = n
  rw [BitVec.toNat_ofNat]
  have hn : n = n % 2 ^ lo + 2 ^ lo * (n / 2 ^ lo % 2 ^ w + 2 ^ w * (n / 2 ^ lo / 2 ^ w)) := by
    rw [Nat.mod_add_div (n / 2 ^ lo) (2 ^ w), Nat.mod_add_div]
  have e : n - n / 2 ^ lo % 2 ^ w * 2 ^ lo + x % 2 ^ w * 2 ^ lo =
      n % 2 ^ lo + 2 ^ lo * (x % 2 ^ w + 2 ^ w * (n / 2 ^ lo / 2 ^ w)) := by
    generalize x % 2 ^ w = y
    have h1 : n / 2 ^ lo % 2 ^ w * 2 ^ lo ≤ n := by
      calc n / 2 ^ lo % 2 ^ w * 2 ^ lo ≤ n / 2 ^ lo * 2 ^ lo := Nat.mul_le_mul_right _ (Nat.mod_le _ _)
        _ ≤ n := Nat.div_mul_le_self _ _
    generalize hq : n / 2 ^ lo % 2 ^ w = q at *
    generalize n / 2 ^ lo / 2 ^ w = r at *
    generalize n % 2 ^ lo = m at *
    rw [Nat.mul_add] at hn ⊢
    have : q * 2 ^ lo = 2 ^ lo * q := Nat.mul_comm ..
    have : y * 2 ^ lo = 2 ^ lo * y := Nat.mul_comm ..
    omega
  rw [e, hpow, Nat.mul_assoc, Nat.mod_mul_right_div_self, Nat.add_mul_div_left _ _ hl, Nat.div_eq_of_lt (Nat.mod_lt _ hl),
    Nat.zero_add, Nat.mod_mul_right_mod, Nat.add_mul_mod_self_left, Nat.mod_mod]

@[simp] theorem State.fld_setFld_self (s : State) (off lo w x : Nat) (h : lo + w ≤ 32) :
    (s.setFld off lo w x).fld off lo w = x % 2 ^ w := by
  simp [State.fld, State.setFld, fget_fput_self _ _ _ _ h]

theorem bitsPut_eq (n lo w x : Nat) :
    bitsPut n lo w x = n % 2 ^ lo + 2 ^ lo * (x % 2 ^ w + 2 ^ w * (n / 2 ^ (lo + w))) := by
  unfold bitsPut bitsAt
  have hn : n = n % 2 ^ lo + 2 ^ lo * (n / 2 ^ lo % 2 ^ w + 2 ^ w * (n / 2 ^ (lo + w))) := by
    rw [Nat.pow_add, ← Nat.div_div_eq_div_mul, Nat.mod_add_div, Nat.mod_add_div]
  generalize hq : n / 2 ^ lo % 2 ^ w = q at *
  generalize n / 2 ^ (lo + w) = r at *
  generalize n % 2 ^ lo = m at *
  generalize x % 2 ^ w = y at *
  rw [Nat.mul_add] at hn ⊢
  have : q * 2 ^ lo = 2 ^ lo * q := Nat.mul_comm ..
  have : y * 2 ^ lo = 2 ^ lo * y := Nat.mul_comm ..
  omega

/-- A number with a field replaced: a bit outside the field is as it was, one inside is the new value's. -/
theorem testBit_bitsPut (n lo w x i : Nat) :
    (bitsPut n lo w x).testBit i = if lo ≤ i ∧ i < lo + w then x.testBit (i - lo) else n.testBit i := by
  rw [bitsPut_eq, Nat.add_comm, Nat.testBit_two_pow_mul_add _ (Nat.mod_lt _ (Nat.two_pow_pos lo))]
  by_cases h : i < lo
  · simp [h, Nat.not_le.2 h, Nat.testBit_mod_two_pow]
  · have h' : lo ≤ i := Nat.le_of_not_lt h
    simp only [h, h', if_false, true_and]
    rw [Nat.add_comm, Nat.testBit_two_pow_mul_add _ (Nat.mod_lt _ (Nat.two_pow_pos w))]
    by_cases h2 : i - lo < w
    · have : i < lo + w := by omega
      simp [h2, this, Nat.testBit_mod_two_pow]
    · have : ¬ i < lo + w := by omega
      simp only [h2, this, if_false]
      rw [Nat.testBit_div_two_pow]; congr 1; omega

theorem testBit_bitsAt (n lo w i : Nat) : (bitsAt n lo w).testBit i = (decide (i < w) && n.testBit (lo + i)) := by
  unfold bitsAt; rw [Nat.testBit_mod_two_pow, Nat.testBit_div_two_pow, Nat.add_comm]

/-- Another field read back. -/
theorem fget_fput_ne (v : Word) (lo w x lo' w' : Nat) (h : lo' + w' ≤ lo ∨ lo + w ≤ lo') :
    fget (fput v lo w x) lo' w' = fget v lo' w' := by
  unfold fget fput
  apply Nat.eq_of_testBit_eq
  intro i
  rw [testBit_bitsAt, testBit_bitsAt, BitVec.toNat_ofNat, Nat.testBit_mod_two_pow, testBit_bitsPut]
  by_cases hi : i < w'
  · have : ¬ (lo ≤ lo' + i ∧ lo' + i < lo + w) := by omega
    simp only [hi, this, if_false]
    by_cases h3 : lo' + i < 32
    · simp [h3]
    · have : v.toNat.testBit (lo' + i) = false := Nat.testBit_lt_two_pow (Nat.lt_of_lt_of_le v.isLt (Nat.pow_le_pow_right (by decide) (by omega)))
      simp [this]
  · simp [hi]

/-- Another field of the same register. -/
theorem State.fld_setFld_disj (s : State) (off lo w x lo' w' : Nat) (h : lo' + w' ≤ lo ∨ lo + w ≤ lo') :
    (s.setFld off lo w x).fld off lo' w' = s.fld off lo' w' := by
  simp [State.fld, State.setFld, fget_fput_ne _ _ _ _ _ _ h]

end Sys2Proof.Machine
end

