-- ==== Sys2Proof/Laws/State.lean ====
section
/-! SUPPORT. One lemma per field of State and per update of one part of it, each true by unfolding, so that no later proof
unfolds a record update (those for the field `mem` stand in Laws/MemBase.lean), and the parts read back. -/

namespace Sys2Proof.Machine

/-! ### State.setReg -/

@[simp] theorem State.setReg_pending (s : State) (off : Nat) (v : Word) : (s.setReg off v).pending = s.pending := (rfl)
@[simp] theorem State.setReg_fresh (s : State) (off : Nat) (v : Word) : (s.setReg off v).fresh = s.fresh := (rfl)
@[simp] theorem State.setReg_timer (s : State) (off : Nat) (v : Word) : (s.setReg off v).timer = s.timer := (rfl)
@[simp] theorem State.setReg_utime (s : State) (off : Nat) (v : Word) : (s.setReg off v).utime = s.utime := (rfl)
@[simp] theorem State.setReg_ce (s : State) (off : Nat) (v : Word) : (s.setReg off v).ce = s.ce := (rfl)
@[simp] theorem State.setReg_ue (s : State) (off : Nat) (v : Word) : (s.setReg off v).ue = s.ue := (rfl)
@[simp] theorem State.setReg_fmUe (s : State) (off : Nat) (v : Word) : (s.setReg off v).fmUe = s.fmUe := (rfl)
@[simp] theorem State.setReg_cfgUe (s : State) (off : Nat) (v : Word) : (s.setReg off v).cfgUe = s.cfgUe := (rfl)
@[simp] theorem State.setReg_doms (s : State) (off : Nat) (v : Word) : (s.setReg off v).doms = s.doms := (rfl)
@[simp] theorem State.setReg_cores (s : State) (off : Nat) (v : Word) : (s.setReg off v).cores = s.cores := (rfl)
@[simp] theorem State.setReg_benches (s : State) (off : Nat) (v : Word) : (s.setReg off v).benches = s.benches := (rfl)
@[simp] theorem State.setReg_banks (s : State) (off : Nat) (v : Word) : (s.setReg off v).banks = s.banks := (rfl)
@[simp] theorem State.setReg_fab (s : State) (off : Nat) (v : Word) : (s.setReg off v).fab = s.fab := (rfl)
@[simp] theorem State.setReg_groups (s : State) (off : Nat) (v : Word) : (s.setReg off v).groups = s.groups := (rfl)
@[simp] theorem State.setReg_smap (s : State) (off : Nat) (v : Word) : (s.setReg off v).smap = s.smap := (rfl)
@[simp] theorem State.setReg_egr (s : State) (off : Nat) (v : Word) : (s.setReg off v).egr = s.egr := (rfl)
@[simp] theorem State.setReg_dma (s : State) (off : Nat) (v : Word) : (s.setReg off v).dma = s.dma := (rfl)
@[simp] theorem State.setReg_net (s : State) (off : Nat) (v : Word) : (s.setReg off v).net = s.net := (rfl)
@[simp] theorem State.setReg_chain (s : State) (off : Nat) (v : Word) : (s.setReg off v).chain = s.chain := (rfl)
@[simp] theorem State.setReg_twin (s : State) (off : Nat) (v : Word) : (s.setReg off v).twin = s.twin := (rfl)
@[simp] theorem State.setReg_queues (s : State) (off : Nat) (v : Word) : (s.setReg off v).queues = s.queues := (rfl)
@[simp] theorem State.setReg_fns (s : State) (off : Nat) (v : Word) : (s.setReg off v).fns = s.fns := (rfl)
@[simp] theorem State.setReg_cmds (s : State) (off : Nat) (v : Word) : (s.setReg off v).cmds = s.cmds := (rfl)
@[simp] theorem State.setReg_prot (s : State) (off : Nat) (v : Word) : (s.setReg off v).prot = s.prot := (rfl)
@[simp] theorem State.setReg_evt (s : State) (off : Nat) (v : Word) : (s.setReg off v).evt = s.evt := (rfl)
@[simp] theorem State.setReg_raises (s : State) (off : Nat) (v : Word) : (s.setReg off v).raises = s.raises := (rfl)
@[simp] theorem State.setReg_spall (s : State) (off : Nat) (v : Word) : (s.setReg off v).spall = s.spall := (rfl)
@[simp] theorem State.setReg_sys (s : State) (off : Nat) (v : Word) : (s.setReg off v).sys = s.sys := (rfl)
@[simp] theorem State.setReg_out (s : State) (off : Nat) (v : Word) : (s.setReg off v).out = s.out := (rfl)

/-! ### State.setFld -/

@[simp] theorem State.setFld_pending (s : State) (off lo w x : Nat) : (s.setFld off lo w x).pending = s.pending := (rfl)
@[simp] theorem State.setFld_fresh (s : State) (off lo w x : Nat) : (s.setFld off lo w x).fresh = s.fresh := (rfl)
@[simp] theorem State.setFld_timer (s : State) (off lo w x : Nat) : (s.setFld off lo w x).timer = s.timer := (rfl)
@[simp] theorem State.setFld_utime (s : State) (off lo w x : Nat) : (s.setFld off lo w x).utime = s.utime := (rfl)
@[simp] theorem State.setFld_ce (s : State) (off lo w x : Nat) : (s.setFld off lo w x).ce = s.ce := (rfl)
@[simp] theorem State.setFld_ue (s : State) (off lo w x : Nat) : (s.setFld off lo w x).ue = s.ue := (rfl)
@[simp] theorem State.setFld_fmUe (s : State) (off lo w x : Nat) : (s.setFld off lo w x).fmUe = s.fmUe := (rfl)
@[simp] theorem State.setFld_cfgUe (s : State) (off lo w x : Nat) : (s.setFld off lo w x).cfgUe = s.cfgUe := (rfl)
@[simp] theorem State.setFld_doms (s : State) (off lo w x : Nat) : (s.setFld off lo w x).doms = s.doms := (rfl)
@[simp] theorem State.setFld_cores (s : State) (off lo w x : Nat) : (s.setFld off lo w x).cores = s.cores := (rfl)
@[simp] theorem State.setFld_benches (s : State) (off lo w x : Nat) : (s.setFld off lo w x).benches = s.benches := (rfl)
@[simp] theorem State.setFld_banks (s : State) (off lo w x : Nat) : (s.setFld off lo w x).banks = s.banks := (rfl)
@[simp] theorem State.setFld_fab (s : State) (off lo w x : Nat) : (s.setFld off lo w x).fab = s.fab := (rfl)
@[simp] theorem State.setFld_groups (s : State) (off lo w x : Nat) : (s.setFld off lo w x).groups = s.groups := (rfl)
@[simp] theorem State.setFld_smap (s : State) (off lo w x : Nat) : (s.setFld off lo w x).smap = s.smap := (rfl)
@[simp] theorem State.setFld_egr (s : State) (off lo w x : Nat) : (s.setFld off lo w x).egr = s.egr := (rfl)
@[simp] theorem State.setFld_dma (s : State) (off lo w x : Nat) : (s.setFld off lo w x).dma = s.dma := (rfl)
@[simp] theorem State.setFld_net (s : State) (off lo w x : Nat) : (s.setFld off lo w x).net = s.net := (rfl)
@[simp] theorem State.setFld_chain (s : State) (off lo w x : Nat) : (s.setFld off lo w x).chain = s.chain := (rfl)
@[simp] theorem State.setFld_twin (s : State) (off lo w x : Nat) : (s.setFld off lo w x).twin = s.twin := (rfl)
@[simp] theorem State.setFld_queues (s : State) (off lo w x : Nat) : (s.setFld off lo w x).queues = s.queues := (rfl)
@[simp] theorem State.setFld_fns (s : State) (off lo w x : Nat) : (s.setFld off lo w x).fns = s.fns := (rfl)
@[simp] theorem State.setFld_cmds (s : State) (off lo w x : Nat) : (s.setFld off lo w x).cmds = s.cmds := (rfl)
@[simp] theorem State.setFld_prot (s : State) (off lo w x : Nat) : (s.setFld off lo w x).prot = s.prot := (rfl)
@[simp] theorem State.setFld_evt (s : State) (off lo w x : Nat) : (s.setFld off lo w x).evt = s.evt := (rfl)
@[simp] theorem State.setFld_raises (s : State) (off lo w x : Nat) : (s.setFld off lo w x).raises = s.raises := (rfl)
@[simp] theorem State.setFld_spall (s : State) (off lo w x : Nat) : (s.setFld off lo w x).spall = s.spall := (rfl)
@[simp] theorem State.setFld_sys (s : State) (off lo w x : Nat) : (s.setFld off lo w x).sys = s.sys := (rfl)
@[simp] theorem State.setFld_out (s : State) (off lo w x : Nat) : (s.setFld off lo w x).out = s.out := (rfl)

/-! ### State.setReg64 -/

@[simp] theorem State.setReg64_pending (s : State) (lo hi : Nat) (v : DWord) : (s.setReg64 lo hi v).pending = s.pending := (rfl)
@[simp] theorem State.setReg64_fresh (s : State) (lo hi : Nat) (v : DWord) : (s.setReg64 lo hi v).fresh = s.fresh := (rfl)
@[simp] theorem State.setReg64_timer (s : State) (lo hi : Nat) (v : DWord) : (s.setReg64 lo hi v).timer = s.timer := (rfl)
@[simp] theorem State.setReg64_utime (s : State) (lo hi : Nat) (v : DWord) : (s.setReg64 lo hi v).utime = s.utime := (rfl)
@[simp] theorem State.setReg64_ce (s : State) (lo hi : Nat) (v : DWord) : (s.setReg64 lo hi v).ce = s.ce := (rfl)
@[simp] theorem State.setReg64_ue (s : State) (lo hi : Nat) (v : DWord) : (s.setReg64 lo hi v).ue = s.ue := (rfl)
@[simp] theorem State.setReg64_fmUe (s : State) (lo hi : Nat) (v : DWord) : (s.setReg64 lo hi v).fmUe = s.fmUe := (rfl)
@[simp] theorem State.setReg64_cfgUe (s : State) (lo hi : Nat) (v : DWord) : (s.setReg64 lo hi v).cfgUe = s.cfgUe := (rfl)
@[simp] theorem State.setReg64_doms (s : State) (lo hi : Nat) (v : DWord) : (s.setReg64 lo hi v).doms = s.doms := (rfl)
@[simp] theorem State.setReg64_cores (s : State) (lo hi : Nat) (v : DWord) : (s.setReg64 lo hi v).cores = s.cores := (rfl)
@[simp] theorem State.setReg64_benches (s : State) (lo hi : Nat) (v : DWord) : (s.setReg64 lo hi v).benches = s.benches := (rfl)
@[simp] theorem State.setReg64_banks (s : State) (lo hi : Nat) (v : DWord) : (s.setReg64 lo hi v).banks = s.banks := (rfl)
@[simp] theorem State.setReg64_fab (s : State) (lo hi : Nat) (v : DWord) : (s.setReg64 lo hi v).fab = s.fab := (rfl)
@[simp] theorem State.setReg64_groups (s : State) (lo hi : Nat) (v : DWord) : (s.setReg64 lo hi v).groups = s.groups := (rfl)
@[simp] theorem State.setReg64_smap (s : State) (lo hi : Nat) (v : DWord) : (s.setReg64 lo hi v).smap = s.smap := (rfl)
@[simp] theorem State.setReg64_egr (s : State) (lo hi : Nat) (v : DWord) : (s.setReg64 lo hi v).egr = s.egr := (rfl)
@[simp] theorem State.setReg64_dma (s : State) (lo hi : Nat) (v : DWord) : (s.setReg64 lo hi v).dma = s.dma := (rfl)
@[simp] theorem State.setReg64_net (s : State) (lo hi : Nat) (v : DWord) : (s.setReg64 lo hi v).net = s.net := (rfl)
@[simp] theorem State.setReg64_chain (s : State) (lo hi : Nat) (v : DWord) : (s.setReg64 lo hi v).chain = s.chain := (rfl)
@[simp] theorem State.setReg64_twin (s : State) (lo hi : Nat) (v : DWord) : (s.setReg64 lo hi v).twin = s.twin := (rfl)
@[simp] theorem State.setReg64_queues (s : State) (lo hi : Nat) (v : DWord) : (s.setReg64 lo hi v).queues = s.queues := (rfl)
@[simp] theorem State.setReg64_fns (s : State) (lo hi : Nat) (v : DWord) : (s.setReg64 lo hi v).fns = s.fns := (rfl)
@[simp] theorem State.setReg64_cmds (s : State) (lo hi : Nat) (v : DWord) : (s.setReg64 lo hi v).cmds = s.cmds := (rfl)
@[simp] theorem State.setReg64_prot (s : State) (lo hi : Nat) (v : DWord) : (s.setReg64 lo hi v).prot = s.prot := (rfl)
@[simp] theorem State.setReg64_evt (s : State) (lo hi : Nat) (v : DWord) : (s.setReg64 lo hi v).evt = s.evt := (rfl)
@[simp] theorem State.setReg64_raises (s : State) (lo hi : Nat) (v : DWord) : (s.setReg64 lo hi v).raises = s.raises := (rfl)
@[simp] theorem State.setReg64_spall (s : State) (lo hi : Nat) (v : DWord) : (s.setReg64 lo hi v).spall = s.spall := (rfl)
@[simp] theorem State.setReg64_sys (s : State) (lo hi : Nat) (v : DWord) : (s.setReg64 lo hi v).sys = s.sys := (rfl)
@[simp] theorem State.setReg64_out (s : State) (lo hi : Nat) (v : DWord) : (s.setReg64 lo hi v).out = s.out := (rfl)

/-! ### State.setDom -/

@[simp] theorem State.setDom_pending (s : State) (d : Nat) (x : Dom) : (s.setDom d x).pending = s.pending := (rfl)
@[simp] theorem State.setDom_fresh (s : State) (d : Nat) (x : Dom) : (s.setDom d x).fresh = s.fresh := (rfl)
@[simp] theorem State.setDom_timer (s : State) (d : Nat) (x : Dom) : (s.setDom d x).timer = s.timer := (rfl)
@[simp] theorem State.setDom_utime (s : State) (d : Nat) (x : Dom) : (s.setDom d x).utime = s.utime := (rfl)
@[simp] theorem State.setDom_regs (s : State) (d : Nat) (x : Dom) : (s.setDom d x).regs = s.regs := (rfl)
@[simp] theorem State.setDom_ce (s : State) (d : Nat) (x : Dom) : (s.setDom d x).ce = s.ce := (rfl)
@[simp] theorem State.setDom_ue (s : State) (d : Nat) (x : Dom) : (s.setDom d x).ue = s.ue := (rfl)
@[simp] theorem State.setDom_fmUe (s : State) (d : Nat) (x : Dom) : (s.setDom d x).fmUe = s.fmUe := (rfl)
@[simp] theorem State.setDom_cfgUe (s : State) (d : Nat) (x : Dom) : (s.setDom d x).cfgUe = s.cfgUe := (rfl)
@[simp] theorem State.setDom_cores (s : State) (d : Nat) (x : Dom) : (s.setDom d x).cores = s.cores := (rfl)
@[simp] theorem State.setDom_benches (s : State) (d : Nat) (x : Dom) : (s.setDom d x).benches = s.benches := (rfl)
@[simp] theorem State.setDom_banks (s : State) (d : Nat) (x : Dom) : (s.setDom d x).banks = s.banks := (rfl)
@[simp] theorem State.setDom_fab (s : State) (d : Nat) (x : Dom) : (s.setDom d x).fab = s.fab := (rfl)
@[simp] theorem State.setDom_groups (s : State) (d : Nat) (x : Dom) : (s.setDom d x).groups = s.groups := (rfl)
@[simp] theorem State.setDom_smap (s : State) (d : Nat) (x : Dom) : (s.setDom d x).smap = s.smap := (rfl)
@[simp] theorem State.setDom_egr (s : State) (d : Nat) (x : Dom) : (s.setDom d x).egr = s.egr := (rfl)
@[simp] theorem State.setDom_dma (s : State) (d : Nat) (x : Dom) : (s.setDom d x).dma = s.dma := (rfl)
@[simp] theorem State.setDom_net (s : State) (d : Nat) (x : Dom) : (s.setDom d x).net = s.net := (rfl)
@[simp] theorem State.setDom_chain (s : State) (d : Nat) (x : Dom) : (s.setDom d x).chain = s.chain := (rfl)
@[simp] theorem State.setDom_twin (s : State) (d : Nat) (x : Dom) : (s.setDom d x).twin = s.twin := (rfl)
@[simp] theorem State.setDom_queues (s : State) (d : Nat) (x : Dom) : (s.setDom d x).queues = s.queues := (rfl)
@[simp] theorem State.setDom_fns (s : State) (d : Nat) (x : Dom) : (s.setDom d x).fns = s.fns := (rfl)
@[simp] theorem State.setDom_cmds (s : State) (d : Nat) (x : Dom) : (s.setDom d x).cmds = s.cmds := (rfl)
@[simp] theorem State.setDom_prot (s : State) (d : Nat) (x : Dom) : (s.setDom d x).prot = s.prot := (rfl)
@[simp] theorem State.setDom_evt (s : State) (d : Nat) (x : Dom) : (s.setDom d x).evt = s.evt := (rfl)
@[simp] theorem State.setDom_raises (s : State) (d : Nat) (x : Dom) : (s.setDom d x).raises = s.raises := (rfl)
@[simp] theorem State.setDom_spall (s : State) (d : Nat) (x : Dom) : (s.setDom d x).spall = s.spall := (rfl)
@[simp] theorem State.setDom_sys (s : State) (d : Nat) (x : Dom) : (s.setDom d x).sys = s.sys := (rfl)
@[simp] theorem State.setDom_out (s : State) (d : Nat) (x : Dom) : (s.setDom d x).out = s.out := (rfl)

/-! ### State.setCore -/

@[simp] theorem State.setCore_pending (s : State) (c : Nat) (x : Core) : (s.setCore c x).pending = s.pending := (rfl)
@[simp] theorem State.setCore_fresh (s : State) (c : Nat) (x : Core) : (s.setCore c x).fresh = s.fresh := (rfl)
@[simp] theorem State.setCore_timer (s : State) (c : Nat) (x : Core) : (s.setCore c x).timer = s.timer := (rfl)
@[simp] theorem State.setCore_utime (s : State) (c : Nat) (x : Core) : (s.setCore c x).utime = s.utime := (rfl)
@[simp] theorem State.setCore_regs (s : State) (c : Nat) (x : Core) : (s.setCore c x).regs = s.regs := (rfl)
@[simp] theorem State.setCore_ce (s : State) (c : Nat) (x : Core) : (s.setCore c x).ce = s.ce := (rfl)
@[simp] theorem State.setCore_ue (s : State) (c : Nat) (x : Core) : (s.setCore c x).ue = s.ue := (rfl)
@[simp] theorem State.setCore_fmUe (s : State) (c : Nat) (x : Core) : (s.setCore c x).fmUe = s.fmUe := (rfl)
@[simp] theorem State.setCore_cfgUe (s : State) (c : Nat) (x : Core) : (s.setCore c x).cfgUe = s.cfgUe := (rfl)
@[simp] theorem State.setCore_doms (s : State) (c : Nat) (x : Core) : (s.setCore c x).doms = s.doms := (rfl)
@[simp] theorem State.setCore_benches (s : State) (c : Nat) (x : Core) : (s.setCore c x).benches = s.benches := (rfl)
@[simp] theorem State.setCore_banks (s : State) (c : Nat) (x : Core) : (s.setCore c x).banks = s.banks := (rfl)
@[simp] theorem State.setCore_fab (s : State) (c : Nat) (x : Core) : (s.setCore c x).fab = s.fab := (rfl)
@[simp] theorem State.setCore_groups (s : State) (c : Nat) (x : Core) : (s.setCore c x).groups = s.groups := (rfl)
@[simp] theorem State.setCore_smap (s : State) (c : Nat) (x : Core) : (s.setCore c x).smap = s.smap := (rfl)
@[simp] theorem State.setCore_egr (s : State) (c : Nat) (x : Core) : (s.setCore c x).egr = s.egr := (rfl)
@[simp] theorem State.setCore_dma (s : State) (c : Nat) (x : Core) : (s.setCore c x).dma = s.dma := (rfl)
@[simp] theorem State.setCore_net (s : State) (c : Nat) (x : Core) : (s.setCore c x).net = s.net := (rfl)
@[simp] theorem State.setCore_chain (s : State) (c : Nat) (x : Core) : (s.setCore c x).chain = s.chain := (rfl)
@[simp] theorem State.setCore_twin (s : State) (c : Nat) (x : Core) : (s.setCore c x).twin = s.twin := (rfl)
@[simp] theorem State.setCore_queues (s : State) (c : Nat) (x : Core) : (s.setCore c x).queues = s.queues := (rfl)
@[simp] theorem State.setCore_fns (s : State) (c : Nat) (x : Core) : (s.setCore c x).fns = s.fns := (rfl)
@[simp] theorem State.setCore_cmds (s : State) (c : Nat) (x : Core) : (s.setCore c x).cmds = s.cmds := (rfl)
@[simp] theorem State.setCore_prot (s : State) (c : Nat) (x : Core) : (s.setCore c x).prot = s.prot := (rfl)
@[simp] theorem State.setCore_evt (s : State) (c : Nat) (x : Core) : (s.setCore c x).evt = s.evt := (rfl)
@[simp] theorem State.setCore_raises (s : State) (c : Nat) (x : Core) : (s.setCore c x).raises = s.raises := (rfl)
@[simp] theorem State.setCore_spall (s : State) (c : Nat) (x : Core) : (s.setCore c x).spall = s.spall := (rfl)
@[simp] theorem State.setCore_sys (s : State) (c : Nat) (x : Core) : (s.setCore c x).sys = s.sys := (rfl)
@[simp] theorem State.setCore_out (s : State) (c : Nat) (x : Core) : (s.setCore c x).out = s.out := (rfl)

/-! ### State.setBench -/

@[simp] theorem State.setBench_pending (s : State) (b : Nat) (x : Bench) : (s.setBench b x).pending = s.pending := (rfl)
@[simp] theorem State.setBench_fresh (s : State) (b : Nat) (x : Bench) : (s.setBench b x).fresh = s.fresh := (rfl)
@[simp] theorem State.setBench_timer (s : State) (b : Nat) (x : Bench) : (s.setBench b x).timer = s.timer := (rfl)
@[simp] theorem State.setBench_utime (s : State) (b : Nat) (x : Bench) : (s.setBench b x).utime = s.utime := (rfl)
@[simp] theorem State.setBench_regs (s : State) (b : Nat) (x : Bench) : (s.setBench b x).regs = s.regs := (rfl)
@[simp] theorem State.setBench_ce (s : State) (b : Nat) (x : Bench) : (s.setBench b x).ce = s.ce := (rfl)
@[simp] theorem State.setBench_ue (s : State) (b : Nat) (x : Bench) : (s.setBench b x).ue = s.ue := (rfl)
@[simp] theorem State.setBench_fmUe (s : State) (b : Nat) (x : Bench) : (s.setBench b x).fmUe = s.fmUe := (rfl)
@[simp] theorem State.setBench_cfgUe (s : State) (b : Nat) (x : Bench) : (s.setBench b x).cfgUe = s.cfgUe := (rfl)
@[simp] theorem State.setBench_doms (s : State) (b : Nat) (x : Bench) : (s.setBench b x).doms = s.doms := (rfl)
@[simp] theorem State.setBench_cores (s : State) (b : Nat) (x : Bench) : (s.setBench b x).cores = s.cores := (rfl)
@[simp] theorem State.setBench_banks (s : State) (b : Nat) (x : Bench) : (s.setBench b x).banks = s.banks := (rfl)
@[simp] theorem State.setBench_fab (s : State) (b : Nat) (x : Bench) : (s.setBench b x).fab = s.fab := (rfl)
@[simp] theorem State.setBench_groups (s : State) (b : Nat) (x : Bench) : (s.setBench b x).groups = s.groups := (rfl)
@[simp] theorem State.setBench_smap (s : State) (b : Nat) (x : Bench) : (s.setBench b x).smap = s.smap := (rfl)
@[simp] theorem State.setBench_egr (s : State) (b : Nat) (x : Bench) : (s.setBench b x).egr = s.egr := (rfl)
@[simp] theorem State.setBench_dma (s : State) (b : Nat) (x : Bench) : (s.setBench b x).dma = s.dma := (rfl)
@[simp] theorem State.setBench_net (s : State) (b : Nat) (x : Bench) : (s.setBench b x).net = s.net := (rfl)
@[simp] theorem State.setBench_chain (s : State) (b : Nat) (x : Bench) : (s.setBench b x).chain = s.chain := (rfl)
@[simp] theorem State.setBench_twin (s : State) (b : Nat) (x : Bench) : (s.setBench b x).twin = s.twin := (rfl)
@[simp] theorem State.setBench_queues (s : State) (b : Nat) (x : Bench) : (s.setBench b x).queues = s.queues := (rfl)
@[simp] theorem State.setBench_fns (s : State) (b : Nat) (x : Bench) : (s.setBench b x).fns = s.fns := (rfl)
@[simp] theorem State.setBench_cmds (s : State) (b : Nat) (x : Bench) : (s.setBench b x).cmds = s.cmds := (rfl)
@[simp] theorem State.setBench_prot (s : State) (b : Nat) (x : Bench) : (s.setBench b x).prot = s.prot := (rfl)
@[simp] theorem State.setBench_evt (s : State) (b : Nat) (x : Bench) : (s.setBench b x).evt = s.evt := (rfl)
@[simp] theorem State.setBench_raises (s : State) (b : Nat) (x : Bench) : (s.setBench b x).raises = s.raises := (rfl)
@[simp] theorem State.setBench_spall (s : State) (b : Nat) (x : Bench) : (s.setBench b x).spall = s.spall := (rfl)
@[simp] theorem State.setBench_sys (s : State) (b : Nat) (x : Bench) : (s.setBench b x).sys = s.sys := (rfl)
@[simp] theorem State.setBench_out (s : State) (b : Nat) (x : Bench) : (s.setBench b x).out = s.out := (rfl)

/-! ### State.setBank -/

@[simp] theorem State.setBank_pending (s : State) (n : Nat) (x : Bank) : (s.setBank n x).pending = s.pending := (rfl)
@[simp] theorem State.setBank_fresh (s : State) (n : Nat) (x : Bank) : (s.setBank n x).fresh = s.fresh := (rfl)
@[simp] theorem State.setBank_timer (s : State) (n : Nat) (x : Bank) : (s.setBank n x).timer = s.timer := (rfl)
@[simp] theorem State.setBank_utime (s : State) (n : Nat) (x : Bank) : (s.setBank n x).utime = s.utime := (rfl)
@[simp] theorem State.setBank_regs (s : State) (n : Nat) (x : Bank) : (s.setBank n x).regs = s.regs := (rfl)
@[simp] theorem State.setBank_ce (s : State) (n : Nat) (x : Bank) : (s.setBank n x).ce = s.ce := (rfl)
@[simp] theorem State.setBank_ue (s : State) (n : Nat) (x : Bank) : (s.setBank n x).ue = s.ue := (rfl)
@[simp] theorem State.setBank_fmUe (s : State) (n : Nat) (x : Bank) : (s.setBank n x).fmUe = s.fmUe := (rfl)
@[simp] theorem State.setBank_cfgUe (s : State) (n : Nat) (x : Bank) : (s.setBank n x).cfgUe = s.cfgUe := (rfl)
@[simp] theorem State.setBank_doms (s : State) (n : Nat) (x : Bank) : (s.setBank n x).doms = s.doms := (rfl)
@[simp] theorem State.setBank_cores (s : State) (n : Nat) (x : Bank) : (s.setBank n x).cores = s.cores := (rfl)
@[simp] theorem State.setBank_benches (s : State) (n : Nat) (x : Bank) : (s.setBank n x).benches = s.benches := (rfl)
@[simp] theorem State.setBank_fab (s : State) (n : Nat) (x : Bank) : (s.setBank n x).fab = s.fab := (rfl)
@[simp] theorem State.setBank_groups (s : State) (n : Nat) (x : Bank) : (s.setBank n x).groups = s.groups := (rfl)
@[simp] theorem State.setBank_smap (s : State) (n : Nat) (x : Bank) : (s.setBank n x).smap = s.smap := (rfl)
@[simp] theorem State.setBank_egr (s : State) (n : Nat) (x : Bank) : (s.setBank n x).egr = s.egr := (rfl)
@[simp] theorem State.setBank_dma (s : State) (n : Nat) (x : Bank) : (s.setBank n x).dma = s.dma := (rfl)
@[simp] theorem State.setBank_net (s : State) (n : Nat) (x : Bank) : (s.setBank n x).net = s.net := (rfl)
@[simp] theorem State.setBank_chain (s : State) (n : Nat) (x : Bank) : (s.setBank n x).chain = s.chain := (rfl)
@[simp] theorem State.setBank_twin (s : State) (n : Nat) (x : Bank) : (s.setBank n x).twin = s.twin := (rfl)
@[simp] theorem State.setBank_queues (s : State) (n : Nat) (x : Bank) : (s.setBank n x).queues = s.queues := (rfl)
@[simp] theorem State.setBank_fns (s : State) (n : Nat) (x : Bank) : (s.setBank n x).fns = s.fns := (rfl)
@[simp] theorem State.setBank_cmds (s : State) (n : Nat) (x : Bank) : (s.setBank n x).cmds = s.cmds := (rfl)
@[simp] theorem State.setBank_prot (s : State) (n : Nat) (x : Bank) : (s.setBank n x).prot = s.prot := (rfl)
@[simp] theorem State.setBank_evt (s : State) (n : Nat) (x : Bank) : (s.setBank n x).evt = s.evt := (rfl)
@[simp] theorem State.setBank_raises (s : State) (n : Nat) (x : Bank) : (s.setBank n x).raises = s.raises := (rfl)
@[simp] theorem State.setBank_spall (s : State) (n : Nat) (x : Bank) : (s.setBank n x).spall = s.spall := (rfl)
@[simp] theorem State.setBank_sys (s : State) (n : Nat) (x : Bank) : (s.setBank n x).sys = s.sys := (rfl)
@[simp] theorem State.setBank_out (s : State) (n : Nat) (x : Bank) : (s.setBank n x).out = s.out := (rfl)

/-! ### State.setGroup -/

@[simp] theorem State.setGroup_pending (s : State) (k : Nat) (x : Group) : (s.setGroup k x).pending = s.pending := (rfl)
@[simp] theorem State.setGroup_fresh (s : State) (k : Nat) (x : Group) : (s.setGroup k x).fresh = s.fresh := (rfl)
@[simp] theorem State.setGroup_timer (s : State) (k : Nat) (x : Group) : (s.setGroup k x).timer = s.timer := (rfl)
@[simp] theorem State.setGroup_utime (s : State) (k : Nat) (x : Group) : (s.setGroup k x).utime = s.utime := (rfl)
@[simp] theorem State.setGroup_regs (s : State) (k : Nat) (x : Group) : (s.setGroup k x).regs = s.regs := (rfl)
@[simp] theorem State.setGroup_ce (s : State) (k : Nat) (x : Group) : (s.setGroup k x).ce = s.ce := (rfl)
@[simp] theorem State.setGroup_ue (s : State) (k : Nat) (x : Group) : (s.setGroup k x).ue = s.ue := (rfl)
@[simp] theorem State.setGroup_fmUe (s : State) (k : Nat) (x : Group) : (s.setGroup k x).fmUe = s.fmUe := (rfl)
@[simp] theorem State.setGroup_cfgUe (s : State) (k : Nat) (x : Group) : (s.setGroup k x).cfgUe = s.cfgUe := (rfl)
@[simp] theorem State.setGroup_doms (s : State) (k : Nat) (x : Group) : (s.setGroup k x).doms = s.doms := (rfl)
@[simp] theorem State.setGroup_cores (s : State) (k : Nat) (x : Group) : (s.setGroup k x).cores = s.cores := (rfl)
@[simp] theorem State.setGroup_benches (s : State) (k : Nat) (x : Group) : (s.setGroup k x).benches = s.benches := (rfl)
@[simp] theorem State.setGroup_banks (s : State) (k : Nat) (x : Group) : (s.setGroup k x).banks = s.banks := (rfl)
@[simp] theorem State.setGroup_fab (s : State) (k : Nat) (x : Group) : (s.setGroup k x).fab = s.fab := (rfl)
@[simp] theorem State.setGroup_smap (s : State) (k : Nat) (x : Group) : (s.setGroup k x).smap = s.smap := (rfl)
@[simp] theorem State.setGroup_egr (s : State) (k : Nat) (x : Group) : (s.setGroup k x).egr = s.egr := (rfl)
@[simp] theorem State.setGroup_dma (s : State) (k : Nat) (x : Group) : (s.setGroup k x).dma = s.dma := (rfl)
@[simp] theorem State.setGroup_net (s : State) (k : Nat) (x : Group) : (s.setGroup k x).net = s.net := (rfl)
@[simp] theorem State.setGroup_chain (s : State) (k : Nat) (x : Group) : (s.setGroup k x).chain = s.chain := (rfl)
@[simp] theorem State.setGroup_twin (s : State) (k : Nat) (x : Group) : (s.setGroup k x).twin = s.twin := (rfl)
@[simp] theorem State.setGroup_queues (s : State) (k : Nat) (x : Group) : (s.setGroup k x).queues = s.queues := (rfl)
@[simp] theorem State.setGroup_fns (s : State) (k : Nat) (x : Group) : (s.setGroup k x).fns = s.fns := (rfl)
@[simp] theorem State.setGroup_cmds (s : State) (k : Nat) (x : Group) : (s.setGroup k x).cmds = s.cmds := (rfl)
@[simp] theorem State.setGroup_prot (s : State) (k : Nat) (x : Group) : (s.setGroup k x).prot = s.prot := (rfl)
@[simp] theorem State.setGroup_evt (s : State) (k : Nat) (x : Group) : (s.setGroup k x).evt = s.evt := (rfl)
@[simp] theorem State.setGroup_raises (s : State) (k : Nat) (x : Group) : (s.setGroup k x).raises = s.raises := (rfl)
@[simp] theorem State.setGroup_spall (s : State) (k : Nat) (x : Group) : (s.setGroup k x).spall = s.spall := (rfl)
@[simp] theorem State.setGroup_sys (s : State) (k : Nat) (x : Group) : (s.setGroup k x).sys = s.sys := (rfl)
@[simp] theorem State.setGroup_out (s : State) (k : Nat) (x : Group) : (s.setGroup k x).out = s.out := (rfl)

/-! ### State.setSeqr -/

@[simp] theorem State.setSeqr_pending (s : State) (k : Nat) (x : Dma) : (s.setSeqr k x).pending = s.pending := (rfl)
@[simp] theorem State.setSeqr_fresh (s : State) (k : Nat) (x : Dma) : (s.setSeqr k x).fresh = s.fresh := (rfl)
@[simp] theorem State.setSeqr_timer (s : State) (k : Nat) (x : Dma) : (s.setSeqr k x).timer = s.timer := (rfl)
@[simp] theorem State.setSeqr_utime (s : State) (k : Nat) (x : Dma) : (s.setSeqr k x).utime = s.utime := (rfl)
@[simp] theorem State.setSeqr_regs (s : State) (k : Nat) (x : Dma) : (s.setSeqr k x).regs = s.regs := (rfl)
@[simp] theorem State.setSeqr_ce (s : State) (k : Nat) (x : Dma) : (s.setSeqr k x).ce = s.ce := (rfl)
@[simp] theorem State.setSeqr_ue (s : State) (k : Nat) (x : Dma) : (s.setSeqr k x).ue = s.ue := (rfl)
@[simp] theorem State.setSeqr_fmUe (s : State) (k : Nat) (x : Dma) : (s.setSeqr k x).fmUe = s.fmUe := (rfl)
@[simp] theorem State.setSeqr_cfgUe (s : State) (k : Nat) (x : Dma) : (s.setSeqr k x).cfgUe = s.cfgUe := (rfl)
@[simp] theorem State.setSeqr_doms (s : State) (k : Nat) (x : Dma) : (s.setSeqr k x).doms = s.doms := (rfl)
@[simp] theorem State.setSeqr_cores (s : State) (k : Nat) (x : Dma) : (s.setSeqr k x).cores = s.cores := (rfl)
@[simp] theorem State.setSeqr_benches (s : State) (k : Nat) (x : Dma) : (s.setSeqr k x).benches = s.benches := (rfl)
@[simp] theorem State.setSeqr_banks (s : State) (k : Nat) (x : Dma) : (s.setSeqr k x).banks = s.banks := (rfl)
@[simp] theorem State.setSeqr_fab (s : State) (k : Nat) (x : Dma) : (s.setSeqr k x).fab = s.fab := (rfl)
@[simp] theorem State.setSeqr_groups (s : State) (k : Nat) (x : Dma) : (s.setSeqr k x).groups = s.groups := (rfl)
@[simp] theorem State.setSeqr_smap (s : State) (k : Nat) (x : Dma) : (s.setSeqr k x).smap = s.smap := (rfl)
@[simp] theorem State.setSeqr_egr (s : State) (k : Nat) (x : Dma) : (s.setSeqr k x).egr = s.egr := (rfl)
@[simp] theorem State.setSeqr_net (s : State) (k : Nat) (x : Dma) : (s.setSeqr k x).net = s.net := (rfl)
@[simp] theorem State.setSeqr_chain (s : State) (k : Nat) (x : Dma) : (s.setSeqr k x).chain = s.chain := (rfl)
@[simp] theorem State.setSeqr_twin (s : State) (k : Nat) (x : Dma) : (s.setSeqr k x).twin = s.twin := (rfl)
@[simp] theorem State.setSeqr_queues (s : State) (k : Nat) (x : Dma) : (s.setSeqr k x).queues = s.queues := (rfl)
@[simp] theorem State.setSeqr_fns (s : State) (k : Nat) (x : Dma) : (s.setSeqr k x).fns = s.fns := (rfl)
@[simp] theorem State.setSeqr_cmds (s : State) (k : Nat) (x : Dma) : (s.setSeqr k x).cmds = s.cmds := (rfl)
@[simp] theorem State.setSeqr_prot (s : State) (k : Nat) (x : Dma) : (s.setSeqr k x).prot = s.prot := (rfl)
@[simp] theorem State.setSeqr_evt (s : State) (k : Nat) (x : Dma) : (s.setSeqr k x).evt = s.evt := (rfl)
@[simp] theorem State.setSeqr_raises (s : State) (k : Nat) (x : Dma) : (s.setSeqr k x).raises = s.raises := (rfl)
@[simp] theorem State.setSeqr_spall (s : State) (k : Nat) (x : Dma) : (s.setSeqr k x).spall = s.spall := (rfl)
@[simp] theorem State.setSeqr_sys (s : State) (k : Nat) (x : Dma) : (s.setSeqr k x).sys = s.sys := (rfl)
@[simp] theorem State.setSeqr_out (s : State) (k : Nat) (x : Dma) : (s.setSeqr k x).out = s.out := (rfl)

/-! ### State.setQst -/

@[simp] theorem State.setQst_pending (s : State) (q : Nat) (x : QState) : (s.setQst q x).pending = s.pending := (rfl)
@[simp] theorem State.setQst_fresh (s : State) (q : Nat) (x : QState) : (s.setQst q x).fresh = s.fresh := (rfl)
@[simp] theorem State.setQst_timer (s : State) (q : Nat) (x : QState) : (s.setQst q x).timer = s.timer := (rfl)
@[simp] theorem State.setQst_utime (s : State) (q : Nat) (x : QState) : (s.setQst q x).utime = s.utime := (rfl)
@[simp] theorem State.setQst_regs (s : State) (q : Nat) (x : QState) : (s.setQst q x).regs = s.regs := (rfl)
@[simp] theorem State.setQst_ce (s : State) (q : Nat) (x : QState) : (s.setQst q x).ce = s.ce := (rfl)
@[simp] theorem State.setQst_ue (s : State) (q : Nat) (x : QState) : (s.setQst q x).ue = s.ue := (rfl)
@[simp] theorem State.setQst_fmUe (s : State) (q : Nat) (x : QState) : (s.setQst q x).fmUe = s.fmUe := (rfl)
@[simp] theorem State.setQst_cfgUe (s : State) (q : Nat) (x : QState) : (s.setQst q x).cfgUe = s.cfgUe := (rfl)
@[simp] theorem State.setQst_doms (s : State) (q : Nat) (x : QState) : (s.setQst q x).doms = s.doms := (rfl)
@[simp] theorem State.setQst_cores (s : State) (q : Nat) (x : QState) : (s.setQst q x).cores = s.cores := (rfl)
@[simp] theorem State.setQst_benches (s : State) (q : Nat) (x : QState) : (s.setQst q x).benches = s.benches := (rfl)
@[simp] theorem State.setQst_banks (s : State) (q : Nat) (x : QState) : (s.setQst q x).banks = s.banks := (rfl)
@[simp] theorem State.setQst_fab (s : State) (q : Nat) (x : QState) : (s.setQst q x).fab = s.fab := (rfl)
@[simp] theorem State.setQst_groups (s : State) (q : Nat) (x : QState) : (s.setQst q x).groups = s.groups := (rfl)
@[simp] theorem State.setQst_smap (s : State) (q : Nat) (x : QState) : (s.setQst q x).smap = s.smap := (rfl)
@[simp] theorem State.setQst_egr (s : State) (q : Nat) (x : QState) : (s.setQst q x).egr = s.egr := (rfl)
@[simp] theorem State.setQst_dma (s : State) (q : Nat) (x : QState) : (s.setQst q x).dma = s.dma := (rfl)
@[simp] theorem State.setQst_net (s : State) (q : Nat) (x : QState) : (s.setQst q x).net = s.net := (rfl)
@[simp] theorem State.setQst_chain (s : State) (q : Nat) (x : QState) : (s.setQst q x).chain = s.chain := (rfl)
@[simp] theorem State.setQst_twin (s : State) (q : Nat) (x : QState) : (s.setQst q x).twin = s.twin := (rfl)
@[simp] theorem State.setQst_fns (s : State) (q : Nat) (x : QState) : (s.setQst q x).fns = s.fns := (rfl)
@[simp] theorem State.setQst_cmds (s : State) (q : Nat) (x : QState) : (s.setQst q x).cmds = s.cmds := (rfl)
@[simp] theorem State.setQst_prot (s : State) (q : Nat) (x : QState) : (s.setQst q x).prot = s.prot := (rfl)
@[simp] theorem State.setQst_evt (s : State) (q : Nat) (x : QState) : (s.setQst q x).evt = s.evt := (rfl)
@[simp] theorem State.setQst_raises (s : State) (q : Nat) (x : QState) : (s.setQst q x).raises = s.raises := (rfl)
@[simp] theorem State.setQst_spall (s : State) (q : Nat) (x : QState) : (s.setQst q x).spall = s.spall := (rfl)
@[simp] theorem State.setQst_sys (s : State) (q : Nat) (x : QState) : (s.setQst q x).sys = s.sys := (rfl)
@[simp] theorem State.setQst_out (s : State) (q : Nat) (x : QState) : (s.setQst q x).out = s.out := (rfl)

/-! ### State.setFn -/

@[simp] theorem State.setFn_pending (s : State) (f : Nat) (x : Fn) : (s.setFn f x).pending = s.pending := (rfl)
@[simp] theorem State.setFn_fresh (s : State) (f : Nat) (x : Fn) : (s.setFn f x).fresh = s.fresh := (rfl)
@[simp] theorem State.setFn_timer (s : State) (f : Nat) (x : Fn) : (s.setFn f x).timer = s.timer := (rfl)
@[simp] theorem State.setFn_utime (s : State) (f : Nat) (x : Fn) : (s.setFn f x).utime = s.utime := (rfl)
@[simp] theorem State.setFn_regs (s : State) (f : Nat) (x : Fn) : (s.setFn f x).regs = s.regs := (rfl)
@[simp] theorem State.setFn_ce (s : State) (f : Nat) (x : Fn) : (s.setFn f x).ce = s.ce := (rfl)
@[simp] theorem State.setFn_ue (s : State) (f : Nat) (x : Fn) : (s.setFn f x).ue = s.ue := (rfl)
@[simp] theorem State.setFn_fmUe (s : State) (f : Nat) (x : Fn) : (s.setFn f x).fmUe = s.fmUe := (rfl)
@[simp] theorem State.setFn_cfgUe (s : State) (f : Nat) (x : Fn) : (s.setFn f x).cfgUe = s.cfgUe := (rfl)
@[simp] theorem State.setFn_doms (s : State) (f : Nat) (x : Fn) : (s.setFn f x).doms = s.doms := (rfl)
@[simp] theorem State.setFn_cores (s : State) (f : Nat) (x : Fn) : (s.setFn f x).cores = s.cores := (rfl)
@[simp] theorem State.setFn_benches (s : State) (f : Nat) (x : Fn) : (s.setFn f x).benches = s.benches := (rfl)
@[simp] theorem State.setFn_banks (s : State) (f : Nat) (x : Fn) : (s.setFn f x).banks = s.banks := (rfl)
@[simp] theorem State.setFn_fab (s : State) (f : Nat) (x : Fn) : (s.setFn f x).fab = s.fab := (rfl)
@[simp] theorem State.setFn_groups (s : State) (f : Nat) (x : Fn) : (s.setFn f x).groups = s.groups := (rfl)
@[simp] theorem State.setFn_smap (s : State) (f : Nat) (x : Fn) : (s.setFn f x).smap = s.smap := (rfl)
@[simp] theorem State.setFn_egr (s : State) (f : Nat) (x : Fn) : (s.setFn f x).egr = s.egr := (rfl)
@[simp] theorem State.setFn_dma (s : State) (f : Nat) (x : Fn) : (s.setFn f x).dma = s.dma := (rfl)
@[simp] theorem State.setFn_net (s : State) (f : Nat) (x : Fn) : (s.setFn f x).net = s.net := (rfl)
@[simp] theorem State.setFn_chain (s : State) (f : Nat) (x : Fn) : (s.setFn f x).chain = s.chain := (rfl)
@[simp] theorem State.setFn_twin (s : State) (f : Nat) (x : Fn) : (s.setFn f x).twin = s.twin := (rfl)
@[simp] theorem State.setFn_queues (s : State) (f : Nat) (x : Fn) : (s.setFn f x).queues = s.queues := (rfl)
@[simp] theorem State.setFn_cmds (s : State) (f : Nat) (x : Fn) : (s.setFn f x).cmds = s.cmds := (rfl)
@[simp] theorem State.setFn_prot (s : State) (f : Nat) (x : Fn) : (s.setFn f x).prot = s.prot := (rfl)
@[simp] theorem State.setFn_evt (s : State) (f : Nat) (x : Fn) : (s.setFn f x).evt = s.evt := (rfl)
@[simp] theorem State.setFn_raises (s : State) (f : Nat) (x : Fn) : (s.setFn f x).raises = s.raises := (rfl)
@[simp] theorem State.setFn_spall (s : State) (f : Nat) (x : Fn) : (s.setFn f x).spall = s.spall := (rfl)
@[simp] theorem State.setFn_sys (s : State) (f : Nat) (x : Fn) : (s.setFn f x).sys = s.sys := (rfl)
@[simp] theorem State.setFn_out (s : State) (f : Nat) (x : Fn) : (s.setFn f x).out = s.out := (rfl)

/-! ### State.setSrc -/

@[simp] theorem State.setSrc_pending (s : State) (n : Nat) (x : Src) : (s.setSrc n x).pending = s.pending := (rfl)
@[simp] theorem State.setSrc_fresh (s : State) (n : Nat) (x : Src) : (s.setSrc n x).fresh = s.fresh := (rfl)
@[simp] theorem State.setSrc_timer (s : State) (n : Nat) (x : Src) : (s.setSrc n x).timer = s.timer := (rfl)
@[simp] theorem State.setSrc_utime (s : State) (n : Nat) (x : Src) : (s.setSrc n x).utime = s.utime := (rfl)
@[simp] theorem State.setSrc_regs (s : State) (n : Nat) (x : Src) : (s.setSrc n x).regs = s.regs := (rfl)
@[simp] theorem State.setSrc_ce (s : State) (n : Nat) (x : Src) : (s.setSrc n x).ce = s.ce := (rfl)
@[simp] theorem State.setSrc_ue (s : State) (n : Nat) (x : Src) : (s.setSrc n x).ue = s.ue := (rfl)
@[simp] theorem State.setSrc_fmUe (s : State) (n : Nat) (x : Src) : (s.setSrc n x).fmUe = s.fmUe := (rfl)
@[simp] theorem State.setSrc_cfgUe (s : State) (n : Nat) (x : Src) : (s.setSrc n x).cfgUe = s.cfgUe := (rfl)
@[simp] theorem State.setSrc_doms (s : State) (n : Nat) (x : Src) : (s.setSrc n x).doms = s.doms := (rfl)
@[simp] theorem State.setSrc_cores (s : State) (n : Nat) (x : Src) : (s.setSrc n x).cores = s.cores := (rfl)
@[simp] theorem State.setSrc_benches (s : State) (n : Nat) (x : Src) : (s.setSrc n x).benches = s.benches := (rfl)
@[simp] theorem State.setSrc_banks (s : State) (n : Nat) (x : Src) : (s.setSrc n x).banks = s.banks := (rfl)
@[simp] theorem State.setSrc_fab (s : State) (n : Nat) (x : Src) : (s.setSrc n x).fab = s.fab := (rfl)
@[simp] theorem State.setSrc_groups (s : State) (n : Nat) (x : Src) : (s.setSrc n x).groups = s.groups := (rfl)
@[simp] theorem State.setSrc_smap (s : State) (n : Nat) (x : Src) : (s.setSrc n x).smap = s.smap := (rfl)
@[simp] theorem State.setSrc_egr (s : State) (n : Nat) (x : Src) : (s.setSrc n x).egr = s.egr := (rfl)
@[simp] theorem State.setSrc_dma (s : State) (n : Nat) (x : Src) : (s.setSrc n x).dma = s.dma := (rfl)
@[simp] theorem State.setSrc_net (s : State) (n : Nat) (x : Src) : (s.setSrc n x).net = s.net := (rfl)
@[simp] theorem State.setSrc_chain (s : State) (n : Nat) (x : Src) : (s.setSrc n x).chain = s.chain := (rfl)
@[simp] theorem State.setSrc_twin (s : State) (n : Nat) (x : Src) : (s.setSrc n x).twin = s.twin := (rfl)
@[simp] theorem State.setSrc_queues (s : State) (n : Nat) (x : Src) : (s.setSrc n x).queues = s.queues := (rfl)
@[simp] theorem State.setSrc_fns (s : State) (n : Nat) (x : Src) : (s.setSrc n x).fns = s.fns := (rfl)
@[simp] theorem State.setSrc_cmds (s : State) (n : Nat) (x : Src) : (s.setSrc n x).cmds = s.cmds := (rfl)
@[simp] theorem State.setSrc_prot (s : State) (n : Nat) (x : Src) : (s.setSrc n x).prot = s.prot := (rfl)
@[simp] theorem State.setSrc_raises (s : State) (n : Nat) (x : Src) : (s.setSrc n x).raises = s.raises := (rfl)
@[simp] theorem State.setSrc_spall (s : State) (n : Nat) (x : Src) : (s.setSrc n x).spall = s.spall := (rfl)
@[simp] theorem State.setSrc_sys (s : State) (n : Nat) (x : Src) : (s.setSrc n x).sys = s.sys := (rfl)
@[simp] theorem State.setSrc_out (s : State) (n : Nat) (x : Src) : (s.setSrc n x).out = s.out := (rfl)

/-! ### State.setEthPort -/

@[simp] theorem State.setEthPort_pending (s : State) (e : Nat) (x : EthPort) : (s.setEthPort e x).pending = s.pending := (rfl)
@[simp] theorem State.setEthPort_fresh (s : State) (e : Nat) (x : EthPort) : (s.setEthPort e x).fresh = s.fresh := (rfl)
@[simp] theorem State.setEthPort_timer (s : State) (e : Nat) (x : EthPort) : (s.setEthPort e x).timer = s.timer := (rfl)
@[simp] theorem State.setEthPort_utime (s : State) (e : Nat) (x : EthPort) : (s.setEthPort e x).utime = s.utime := (rfl)
@[simp] theorem State.setEthPort_regs (s : State) (e : Nat) (x : EthPort) : (s.setEthPort e x).regs = s.regs := (rfl)
@[simp] theorem State.setEthPort_ce (s : State) (e : Nat) (x : EthPort) : (s.setEthPort e x).ce = s.ce := (rfl)
@[simp] theorem State.setEthPort_ue (s : State) (e : Nat) (x : EthPort) : (s.setEthPort e x).ue = s.ue := (rfl)
@[simp] theorem State.setEthPort_fmUe (s : State) (e : Nat) (x : EthPort) : (s.setEthPort e x).fmUe = s.fmUe := (rfl)
@[simp] theorem State.setEthPort_cfgUe (s : State) (e : Nat) (x : EthPort) : (s.setEthPort e x).cfgUe = s.cfgUe := (rfl)
@[simp] theorem State.setEthPort_doms (s : State) (e : Nat) (x : EthPort) : (s.setEthPort e x).doms = s.doms := (rfl)
@[simp] theorem State.setEthPort_cores (s : State) (e : Nat) (x : EthPort) : (s.setEthPort e x).cores = s.cores := (rfl)
@[simp] theorem State.setEthPort_benches (s : State) (e : Nat) (x : EthPort) : (s.setEthPort e x).benches = s.benches := (rfl)
@[simp] theorem State.setEthPort_banks (s : State) (e : Nat) (x : EthPort) : (s.setEthPort e x).banks = s.banks := (rfl)
@[simp] theorem State.setEthPort_fab (s : State) (e : Nat) (x : EthPort) : (s.setEthPort e x).fab = s.fab := (rfl)
@[simp] theorem State.setEthPort_groups (s : State) (e : Nat) (x : EthPort) : (s.setEthPort e x).groups = s.groups := (rfl)
@[simp] theorem State.setEthPort_smap (s : State) (e : Nat) (x : EthPort) : (s.setEthPort e x).smap = s.smap := (rfl)
@[simp] theorem State.setEthPort_egr (s : State) (e : Nat) (x : EthPort) : (s.setEthPort e x).egr = s.egr := (rfl)
@[simp] theorem State.setEthPort_dma (s : State) (e : Nat) (x : EthPort) : (s.setEthPort e x).dma = s.dma := (rfl)
@[simp] theorem State.setEthPort_chain (s : State) (e : Nat) (x : EthPort) : (s.setEthPort e x).chain = s.chain := (rfl)
@[simp] theorem State.setEthPort_twin (s : State) (e : Nat) (x : EthPort) : (s.setEthPort e x).twin = s.twin := (rfl)
@[simp] theorem State.setEthPort_queues (s : State) (e : Nat) (x : EthPort) : (s.setEthPort e x).queues = s.queues := (rfl)
@[simp] theorem State.setEthPort_fns (s : State) (e : Nat) (x : EthPort) : (s.setEthPort e x).fns = s.fns := (rfl)
@[simp] theorem State.setEthPort_cmds (s : State) (e : Nat) (x : EthPort) : (s.setEthPort e x).cmds = s.cmds := (rfl)
@[simp] theorem State.setEthPort_prot (s : State) (e : Nat) (x : EthPort) : (s.setEthPort e x).prot = s.prot := (rfl)
@[simp] theorem State.setEthPort_evt (s : State) (e : Nat) (x : EthPort) : (s.setEthPort e x).evt = s.evt := (rfl)
@[simp] theorem State.setEthPort_raises (s : State) (e : Nat) (x : EthPort) : (s.setEthPort e x).raises = s.raises := (rfl)
@[simp] theorem State.setEthPort_spall (s : State) (e : Nat) (x : EthPort) : (s.setEthPort e x).spall = s.spall := (rfl)
@[simp] theorem State.setEthPort_sys (s : State) (e : Nat) (x : EthPort) : (s.setEthPort e x).sys = s.sys := (rfl)
@[simp] theorem State.setEthPort_out (s : State) (e : Nat) (x : EthPort) : (s.setEthPort e x).out = s.out := (rfl)

/-! ### State.setChPort -/

@[simp] theorem State.setChPort_pending (s : State) (p : Nat) (x : ChPort) : (s.setChPort p x).pending = s.pending := (rfl)
@[simp] theorem State.setChPort_fresh (s : State) (p : Nat) (x : ChPort) : (s.setChPort p x).fresh = s.fresh := (rfl)
@[simp] theorem State.setChPort_timer (s : State) (p : Nat) (x : ChPort) : (s.setChPort p x).timer = s.timer := (rfl)
@[simp] theorem State.setChPort_utime (s : State) (p : Nat) (x : ChPort) : (s.setChPort p x).utime = s.utime := (rfl)
@[simp] theorem State.setChPort_regs (s : State) (p : Nat) (x : ChPort) : (s.setChPort p x).regs = s.regs := (rfl)
@[simp] theorem State.setChPort_ce (s : State) (p : Nat) (x : ChPort) : (s.setChPort p x).ce = s.ce := (rfl)
@[simp] theorem State.setChPort_ue (s : State) (p : Nat) (x : ChPort) : (s.setChPort p x).ue = s.ue := (rfl)
@[simp] theorem State.setChPort_fmUe (s : State) (p : Nat) (x : ChPort) : (s.setChPort p x).fmUe = s.fmUe := (rfl)
@[simp] theorem State.setChPort_cfgUe (s : State) (p : Nat) (x : ChPort) : (s.setChPort p x).cfgUe = s.cfgUe := (rfl)
@[simp] theorem State.setChPort_doms (s : State) (p : Nat) (x : ChPort) : (s.setChPort p x).doms = s.doms := (rfl)
@[simp] theorem State.setChPort_cores (s : State) (p : Nat) (x : ChPort) : (s.setChPort p x).cores = s.cores := (rfl)
@[simp] theorem State.setChPort_benches (s : State) (p : Nat) (x : ChPort) : (s.setChPort p x).benches = s.benches := (rfl)
@[simp] theorem State.setChPort_banks (s : State) (p : Nat) (x : ChPort) : (s.setChPort p x).banks = s.banks := (rfl)
@[simp] theorem State.setChPort_fab (s : State) (p : Nat) (x : ChPort) : (s.setChPort p x).fab = s.fab := (rfl)
@[simp] theorem State.setChPort_groups (s : State) (p : Nat) (x : ChPort) : (s.setChPort p x).groups = s.groups := (rfl)
@[simp] theorem State.setChPort_smap (s : State) (p : Nat) (x : ChPort) : (s.setChPort p x).smap = s.smap := (rfl)
@[simp] theorem State.setChPort_egr (s : State) (p : Nat) (x : ChPort) : (s.setChPort p x).egr = s.egr := (rfl)
@[simp] theorem State.setChPort_dma (s : State) (p : Nat) (x : ChPort) : (s.setChPort p x).dma = s.dma := (rfl)
@[simp] theorem State.setChPort_net (s : State) (p : Nat) (x : ChPort) : (s.setChPort p x).net = s.net := (rfl)
@[simp] theorem State.setChPort_twin (s : State) (p : Nat) (x : ChPort) : (s.setChPort p x).twin = s.twin := (rfl)
@[simp] theorem State.setChPort_queues (s : State) (p : Nat) (x : ChPort) : (s.setChPort p x).queues = s.queues := (rfl)
@[simp] theorem State.setChPort_fns (s : State) (p : Nat) (x : ChPort) : (s.setChPort p x).fns = s.fns := (rfl)
@[simp] theorem State.setChPort_cmds (s : State) (p : Nat) (x : ChPort) : (s.setChPort p x).cmds = s.cmds := (rfl)
@[simp] theorem State.setChPort_prot (s : State) (p : Nat) (x : ChPort) : (s.setChPort p x).prot = s.prot := (rfl)
@[simp] theorem State.setChPort_evt (s : State) (p : Nat) (x : ChPort) : (s.setChPort p x).evt = s.evt := (rfl)
@[simp] theorem State.setChPort_raises (s : State) (p : Nat) (x : ChPort) : (s.setChPort p x).raises = s.raises := (rfl)
@[simp] theorem State.setChPort_spall (s : State) (p : Nat) (x : ChPort) : (s.setChPort p x).spall = s.spall := (rfl)
@[simp] theorem State.setChPort_sys (s : State) (p : Nat) (x : ChPort) : (s.setChPort p x).sys = s.sys := (rfl)
@[simp] theorem State.setChPort_out (s : State) (p : Nat) (x : ChPort) : (s.setChPort p x).out = s.out := (rfl)

/-! ### State.withQueue -/

@[simp] theorem State.withQueue_fresh (s : State) (q : List Instr) : (s.withQueue q).fresh = s.fresh := (rfl)
@[simp] theorem State.withQueue_timer (s : State) (q : List Instr) : (s.withQueue q).timer = s.timer := (rfl)
@[simp] theorem State.withQueue_utime (s : State) (q : List Instr) : (s.withQueue q).utime = s.utime := (rfl)
@[simp] theorem State.withQueue_regs (s : State) (q : List Instr) : (s.withQueue q).regs = s.regs := (rfl)
@[simp] theorem State.withQueue_mem (s : State) (q : List Instr) : (s.withQueue q).mem = s.mem := (rfl)
@[simp] theorem State.withQueue_ce (s : State) (q : List Instr) : (s.withQueue q).ce = s.ce := (rfl)
@[simp] theorem State.withQueue_ue (s : State) (q : List Instr) : (s.withQueue q).ue = s.ue := (rfl)
@[simp] theorem State.withQueue_fmUe (s : State) (q : List Instr) : (s.withQueue q).fmUe = s.fmUe := (rfl)
@[simp] theorem State.withQueue_cfgUe (s : State) (q : List Instr) : (s.withQueue q).cfgUe = s.cfgUe := (rfl)
@[simp] theorem State.withQueue_doms (s : State) (q : List Instr) : (s.withQueue q).doms = s.doms := (rfl)
@[simp] theorem State.withQueue_cores (s : State) (q : List Instr) : (s.withQueue q).cores = s.cores := (rfl)
@[simp] theorem State.withQueue_benches (s : State) (q : List Instr) : (s.withQueue q).benches = s.benches := (rfl)
@[simp] theorem State.withQueue_banks (s : State) (q : List Instr) : (s.withQueue q).banks = s.banks := (rfl)
@[simp] theorem State.withQueue_fab (s : State) (q : List Instr) : (s.withQueue q).fab = s.fab := (rfl)
@[simp] theorem State.withQueue_groups (s : State) (q : List Instr) : (s.withQueue q).groups = s.groups := (rfl)
@[simp] theorem State.withQueue_smap (s : State) (q : List Instr) : (s.withQueue q).smap = s.smap := (rfl)
@[simp] theorem State.withQueue_egr (s : State) (q : List Instr) : (s.withQueue q).egr = s.egr := (rfl)
@[simp] theorem State.withQueue_dma (s : State) (q : List Instr) : (s.withQueue q).dma = s.dma := (rfl)
@[simp] theorem State.withQueue_net (s : State) (q : List Instr) : (s.withQueue q).net = s.net := (rfl)
@[simp] theorem State.withQueue_chain (s : State) (q : List Instr) : (s.withQueue q).chain = s.chain := (rfl)
@[simp] theorem State.withQueue_twin (s : State) (q : List Instr) : (s.withQueue q).twin = s.twin := (rfl)
@[simp] theorem State.withQueue_queues (s : State) (q : List Instr) : (s.withQueue q).queues = s.queues := (rfl)
@[simp] theorem State.withQueue_fns (s : State) (q : List Instr) : (s.withQueue q).fns = s.fns := (rfl)
@[simp] theorem State.withQueue_cmds (s : State) (q : List Instr) : (s.withQueue q).cmds = s.cmds := (rfl)
@[simp] theorem State.withQueue_prot (s : State) (q : List Instr) : (s.withQueue q).prot = s.prot := (rfl)
@[simp] theorem State.withQueue_evt (s : State) (q : List Instr) : (s.withQueue q).evt = s.evt := (rfl)
@[simp] theorem State.withQueue_raises (s : State) (q : List Instr) : (s.withQueue q).raises = s.raises := (rfl)
@[simp] theorem State.withQueue_spall (s : State) (q : List Instr) : (s.withQueue q).spall = s.spall := (rfl)
@[simp] theorem State.withQueue_sys (s : State) (q : List Instr) : (s.withQueue q).sys = s.sys := (rfl)
@[simp] theorem State.withQueue_out (s : State) (q : List Instr) : (s.withQueue q).out = s.out := (rfl)

/-! ### State.stir -/

@[simp] theorem State.stir_pending (s : State) : s.stir.pending = s.pending := (rfl)
@[simp] theorem State.stir_timer (s : State) : s.stir.timer = s.timer := (rfl)
@[simp] theorem State.stir_utime (s : State) : s.stir.utime = s.utime := (rfl)
@[simp] theorem State.stir_regs (s : State) : s.stir.regs = s.regs := (rfl)
@[simp] theorem State.stir_ce (s : State) : s.stir.ce = s.ce := (rfl)
@[simp] theorem State.stir_ue (s : State) : s.stir.ue = s.ue := (rfl)
@[simp] theorem State.stir_fmUe (s : State) : s.stir.fmUe = s.fmUe := (rfl)
@[simp] theorem State.stir_cfgUe (s : State) : s.stir.cfgUe = s.cfgUe := (rfl)
@[simp] theorem State.stir_doms (s : State) : s.stir.doms = s.doms := (rfl)
@[simp] theorem State.stir_cores (s : State) : s.stir.cores = s.cores := (rfl)
@[simp] theorem State.stir_benches (s : State) : s.stir.benches = s.benches := (rfl)
@[simp] theorem State.stir_banks (s : State) : s.stir.banks = s.banks := (rfl)
@[simp] theorem State.stir_fab (s : State) : s.stir.fab = s.fab := (rfl)
@[simp] theorem State.stir_groups (s : State) : s.stir.groups = s.groups := (rfl)
@[simp] theorem State.stir_smap (s : State) : s.stir.smap = s.smap := (rfl)
@[simp] theorem State.stir_egr (s : State) : s.stir.egr = s.egr := (rfl)
@[simp] theorem State.stir_dma (s : State) : s.stir.dma = s.dma := (rfl)
@[simp] theorem State.stir_net (s : State) : s.stir.net = s.net := (rfl)
@[simp] theorem State.stir_chain (s : State) : s.stir.chain = s.chain := (rfl)
@[simp] theorem State.stir_twin (s : State) : s.stir.twin = s.twin := (rfl)
@[simp] theorem State.stir_queues (s : State) : s.stir.queues = s.queues := (rfl)
@[simp] theorem State.stir_fns (s : State) : s.stir.fns = s.fns := (rfl)
@[simp] theorem State.stir_cmds (s : State) : s.stir.cmds = s.cmds := (rfl)
@[simp] theorem State.stir_prot (s : State) : s.stir.prot = s.prot := (rfl)
@[simp] theorem State.stir_evt (s : State) : s.stir.evt = s.evt := (rfl)
@[simp] theorem State.stir_raises (s : State) : s.stir.raises = s.raises := (rfl)
@[simp] theorem State.stir_spall (s : State) : s.stir.spall = s.spall := (rfl)
@[simp] theorem State.stir_sys (s : State) : s.stir.sys = s.sys := (rfl)
@[simp] theorem State.stir_out (s : State) : s.stir.out = s.out := (rfl)

/-! ### State.emit -/

@[simp] theorem State.emit_pending (s : State) (o : Out) : (s.emit o).pending = s.pending := (rfl)
@[simp] theorem State.emit_fresh (s : State) (o : Out) : (s.emit o).fresh = s.fresh := (rfl)
@[simp] theorem State.emit_timer (s : State) (o : Out) : (s.emit o).timer = s.timer := (rfl)
@[simp] theorem State.emit_utime (s : State) (o : Out) : (s.emit o).utime = s.utime := (rfl)
@[simp] theorem State.emit_regs (s : State) (o : Out) : (s.emit o).regs = s.regs := (rfl)
@[simp] theorem State.emit_ce (s : State) (o : Out) : (s.emit o).ce = s.ce := (rfl)
@[simp] theorem State.emit_ue (s : State) (o : Out) : (s.emit o).ue = s.ue := (rfl)
@[simp] theorem State.emit_fmUe (s : State) (o : Out) : (s.emit o).fmUe = s.fmUe := (rfl)
@[simp] theorem State.emit_cfgUe (s : State) (o : Out) : (s.emit o).cfgUe = s.cfgUe := (rfl)
@[simp] theorem State.emit_doms (s : State) (o : Out) : (s.emit o).doms = s.doms := (rfl)
@[simp] theorem State.emit_cores (s : State) (o : Out) : (s.emit o).cores = s.cores := (rfl)
@[simp] theorem State.emit_benches (s : State) (o : Out) : (s.emit o).benches = s.benches := (rfl)
@[simp] theorem State.emit_banks (s : State) (o : Out) : (s.emit o).banks = s.banks := (rfl)
@[simp] theorem State.emit_fab (s : State) (o : Out) : (s.emit o).fab = s.fab := (rfl)
@[simp] theorem State.emit_groups (s : State) (o : Out) : (s.emit o).groups = s.groups := (rfl)
@[simp] theorem State.emit_smap (s : State) (o : Out) : (s.emit o).smap = s.smap := (rfl)
@[simp] theorem State.emit_egr (s : State) (o : Out) : (s.emit o).egr = s.egr := (rfl)
@[simp] theorem State.emit_dma (s : State) (o : Out) : (s.emit o).dma = s.dma := (rfl)
@[simp] theorem State.emit_net (s : State) (o : Out) : (s.emit o).net = s.net := (rfl)
@[simp] theorem State.emit_chain (s : State) (o : Out) : (s.emit o).chain = s.chain := (rfl)
@[simp] theorem State.emit_twin (s : State) (o : Out) : (s.emit o).twin = s.twin := (rfl)
@[simp] theorem State.emit_queues (s : State) (o : Out) : (s.emit o).queues = s.queues := (rfl)
@[simp] theorem State.emit_fns (s : State) (o : Out) : (s.emit o).fns = s.fns := (rfl)
@[simp] theorem State.emit_cmds (s : State) (o : Out) : (s.emit o).cmds = s.cmds := (rfl)
@[simp] theorem State.emit_prot (s : State) (o : Out) : (s.emit o).prot = s.prot := (rfl)
@[simp] theorem State.emit_evt (s : State) (o : Out) : (s.emit o).evt = s.evt := (rfl)
@[simp] theorem State.emit_raises (s : State) (o : Out) : (s.emit o).raises = s.raises := (rfl)
@[simp] theorem State.emit_spall (s : State) (o : Out) : (s.emit o).spall = s.spall := (rfl)
@[simp] theorem State.emit_sys (s : State) (o : Out) : (s.emit o).sys = s.sys := (rfl)

/-! ### State.poke -/

@[simp] theorem State.poke_pending (s : State) (a : Nat) (bs : List Byte) : (s.poke a bs).pending = s.pending := (rfl)
@[simp] theorem State.poke_fresh (s : State) (a : Nat) (bs : List Byte) : (s.poke a bs).fresh = s.fresh := (rfl)
@[simp] theorem State.poke_timer (s : State) (a : Nat) (bs : List Byte) : (s.poke a bs).timer = s.timer := (rfl)
@[simp] theorem State.poke_utime (s : State) (a : Nat) (bs : List Byte) : (s.poke a bs).utime = s.utime := (rfl)
@[simp] theorem State.poke_regs (s : State) (a : Nat) (bs : List Byte) : (s.poke a bs).regs = s.regs := (rfl)
@[simp] theorem State.poke_fmUe (s : State) (a : Nat) (bs : List Byte) : (s.poke a bs).fmUe = s.fmUe := (rfl)
@[simp] theorem State.poke_cfgUe (s : State) (a : Nat) (bs : List Byte) : (s.poke a bs).cfgUe = s.cfgUe := (rfl)
@[simp] theorem State.poke_doms (s : State) (a : Nat) (bs : List Byte) : (s.poke a bs).doms = s.doms := (rfl)
@[simp] theorem State.poke_cores (s : State) (a : Nat) (bs : List Byte) : (s.poke a bs).cores = s.cores := (rfl)
@[simp] theorem State.poke_benches (s : State) (a : Nat) (bs : List Byte) : (s.poke a bs).benches = s.benches := (rfl)
@[simp] theorem State.poke_banks (s : State) (a : Nat) (bs : List Byte) : (s.poke a bs).banks = s.banks := (rfl)
@[simp] theorem State.poke_fab (s : State) (a : Nat) (bs : List Byte) : (s.poke a bs).fab = s.fab := (rfl)
@[simp] theorem State.poke_groups (s : State) (a : Nat) (bs : List Byte) : (s.poke a bs).groups = s.groups := (rfl)
@[simp] theorem State.poke_smap (s : State) (a : Nat) (bs : List Byte) : (s.poke a bs).smap = s.smap := (rfl)
@[simp] theorem State.poke_egr (s : State) (a : Nat) (bs : List Byte) : (s.poke a bs).egr = s.egr := (rfl)
@[simp] theorem State.poke_dma (s : State) (a : Nat) (bs : List Byte) : (s.poke a bs).dma = s.dma := (rfl)
@[simp] theorem State.poke_net (s : State) (a : Nat) (bs : List Byte) : (s.poke a bs).net = s.net := (rfl)
@[simp] theorem State.poke_chain (s : State) (a : Nat) (bs : List Byte) : (s.poke a bs).chain = s.chain := (rfl)
@[simp] theorem State.poke_twin (s : State) (a : Nat) (bs : List Byte) : (s.poke a bs).twin = s.twin := (rfl)
@[simp] theorem State.poke_queues (s : State) (a : Nat) (bs : List Byte) : (s.poke a bs).queues = s.queues := (rfl)
@[simp] theorem State.poke_fns (s : State) (a : Nat) (bs : List Byte) : (s.poke a bs).fns = s.fns := (rfl)
@[simp] theorem State.poke_cmds (s : State) (a : Nat) (bs : List Byte) : (s.poke a bs).cmds = s.cmds := (rfl)
@[simp] theorem State.poke_prot (s : State) (a : Nat) (bs : List Byte) : (s.poke a bs).prot = s.prot := (rfl)
@[simp] theorem State.poke_evt (s : State) (a : Nat) (bs : List Byte) : (s.poke a bs).evt = s.evt := (rfl)
@[simp] theorem State.poke_raises (s : State) (a : Nat) (bs : List Byte) : (s.poke a bs).raises = s.raises := (rfl)
@[simp] theorem State.poke_spall (s : State) (a : Nat) (bs : List Byte) : (s.poke a bs).spall = s.spall := (rfl)
@[simp] theorem State.poke_sys (s : State) (a : Nat) (bs : List Byte) : (s.poke a bs).sys = s.sys := (rfl)
@[simp] theorem State.poke_out (s : State) (a : Nat) (bs : List Byte) : (s.poke a bs).out = s.out := (rfl)

/-! ### State.wipe -/

@[simp] theorem State.wipe_pending (s : State) (a n : Nat) : (s.wipe a n).pending = s.pending := (rfl)
@[simp] theorem State.wipe_fresh (s : State) (a n : Nat) : (s.wipe a n).fresh = s.fresh := (rfl)
@[simp] theorem State.wipe_timer (s : State) (a n : Nat) : (s.wipe a n).timer = s.timer := (rfl)
@[simp] theorem State.wipe_utime (s : State) (a n : Nat) : (s.wipe a n).utime = s.utime := (rfl)
@[simp] theorem State.wipe_regs (s : State) (a n : Nat) : (s.wipe a n).regs = s.regs := (rfl)
@[simp] theorem State.wipe_fmUe (s : State) (a n : Nat) : (s.wipe a n).fmUe = s.fmUe := (rfl)
@[simp] theorem State.wipe_cfgUe (s : State) (a n : Nat) : (s.wipe a n).cfgUe = s.cfgUe := (rfl)
@[simp] theorem State.wipe_doms (s : State) (a n : Nat) : (s.wipe a n).doms = s.doms := (rfl)
@[simp] theorem State.wipe_cores (s : State) (a n : Nat) : (s.wipe a n).cores = s.cores := (rfl)
@[simp] theorem State.wipe_benches (s : State) (a n : Nat) : (s.wipe a n).benches = s.benches := (rfl)
@[simp] theorem State.wipe_banks (s : State) (a n : Nat) : (s.wipe a n).banks = s.banks := (rfl)
@[simp] theorem State.wipe_fab (s : State) (a n : Nat) : (s.wipe a n).fab = s.fab := (rfl)
@[simp] theorem State.wipe_groups (s : State) (a n : Nat) : (s.wipe a n).groups = s.groups := (rfl)
@[simp] theorem State.wipe_smap (s : State) (a n : Nat) : (s.wipe a n).smap = s.smap := (rfl)
@[simp] theorem State.wipe_egr (s : State) (a n : Nat) : (s.wipe a n).egr = s.egr := (rfl)
@[simp] theorem State.wipe_dma (s : State) (a n : Nat) : (s.wipe a n).dma = s.dma := (rfl)
@[simp] theorem State.wipe_net (s : State) (a n : Nat) : (s.wipe a n).net = s.net := (rfl)
@[simp] theorem State.wipe_chain (s : State) (a n : Nat) : (s.wipe a n).chain = s.chain := (rfl)
@[simp] theorem State.wipe_twin (s : State) (a n : Nat) : (s.wipe a n).twin = s.twin := (rfl)
@[simp] theorem State.wipe_queues (s : State) (a n : Nat) : (s.wipe a n).queues = s.queues := (rfl)
@[simp] theorem State.wipe_fns (s : State) (a n : Nat) : (s.wipe a n).fns = s.fns := (rfl)
@[simp] theorem State.wipe_cmds (s : State) (a n : Nat) : (s.wipe a n).cmds = s.cmds := (rfl)
@[simp] theorem State.wipe_prot (s : State) (a n : Nat) : (s.wipe a n).prot = s.prot := (rfl)
@[simp] theorem State.wipe_evt (s : State) (a n : Nat) : (s.wipe a n).evt = s.evt := (rfl)
@[simp] theorem State.wipe_raises (s : State) (a n : Nat) : (s.wipe a n).raises = s.raises := (rfl)
@[simp] theorem State.wipe_spall (s : State) (a n : Nat) : (s.wipe a n).spall = s.spall := (rfl)
@[simp] theorem State.wipe_sys (s : State) (a n : Nat) : (s.wipe a n).sys = s.sys := (rfl)
@[simp] theorem State.wipe_out (s : State) (a n : Nat) : (s.wipe a n).out = s.out := (rfl)

/-! ### State.count, State.maxFld -/

@[simp] theorem State.count_pending (s : State) (off lo w : Nat) : (s.count off lo w).pending = s.pending := (rfl)
@[simp] theorem State.count_fresh (s : State) (off lo w : Nat) : (s.count off lo w).fresh = s.fresh := (rfl)
@[simp] theorem State.count_timer (s : State) (off lo w : Nat) : (s.count off lo w).timer = s.timer := (rfl)
@[simp] theorem State.count_utime (s : State) (off lo w : Nat) : (s.count off lo w).utime = s.utime := (rfl)
@[simp] theorem State.count_ce (s : State) (off lo w : Nat) : (s.count off lo w).ce = s.ce := (rfl)
@[simp] theorem State.count_ue (s : State) (off lo w : Nat) : (s.count off lo w).ue = s.ue := (rfl)
@[simp] theorem State.count_fmUe (s : State) (off lo w : Nat) : (s.count off lo w).fmUe = s.fmUe := (rfl)
@[simp] theorem State.count_cfgUe (s : State) (off lo w : Nat) : (s.count off lo w).cfgUe = s.cfgUe := (rfl)
@[simp] theorem State.count_doms (s : State) (off lo w : Nat) : (s.count off lo w).doms = s.doms := (rfl)
@[simp] theorem State.count_cores (s : State) (off lo w : Nat) : (s.count off lo w).cores = s.cores := (rfl)
@[simp] theorem State.count_benches (s : State) (off lo w : Nat) : (s.count off lo w).benches = s.benches := (rfl)
@[simp] theorem State.count_banks (s : State) (off lo w : Nat) : (s.count off lo w).banks = s.banks := (rfl)
@[simp] theorem State.count_fab (s : State) (off lo w : Nat) : (s.count off lo w).fab = s.fab := (rfl)
@[simp] theorem State.count_groups (s : State) (off lo w : Nat) : (s.count off lo w).groups = s.groups := (rfl)
@[simp] theorem State.count_smap (s : State) (off lo w : Nat) : (s.count off lo w).smap = s.smap := (rfl)
@[simp] theorem State.count_egr (s : State) (off lo w : Nat) : (s.count off lo w).egr = s.egr := (rfl)
@[simp] theorem State.count_dma (s : State) (off lo w : Nat) : (s.count off lo w).dma = s.dma := (rfl)
@[simp] theorem State.count_net (s : State) (off lo w : Nat) : (s.count off lo w).net = s.net := (rfl)
@[simp] theorem State.count_chain (s : State) (off lo w : Nat) : (s.count off lo w).chain = s.chain := (rfl)
@[simp] theorem State.count_twin (s : State) (off lo w : Nat) : (s.count off lo w).twin = s.twin := (rfl)
@[simp] theorem State.count_queues (s : State) (off lo w : Nat) : (s.count off lo w).queues = s.queues := (rfl)
@[simp] theorem State.count_fns (s : State) (off lo w : Nat) : (s.count off lo w).fns = s.fns := (rfl)
@[simp] theorem State.count_cmds (s : State) (off lo w : Nat) : (s.count off lo w).cmds = s.cmds := (rfl)
@[simp] theorem State.count_prot (s : State) (off lo w : Nat) : (s.count off lo w).prot = s.prot := (rfl)
@[simp] theorem State.count_evt (s : State) (off lo w : Nat) : (s.count off lo w).evt = s.evt := (rfl)
@[simp] theorem State.count_raises (s : State) (off lo w : Nat) : (s.count off lo w).raises = s.raises := (rfl)
@[simp] theorem State.count_spall (s : State) (off lo w : Nat) : (s.count off lo w).spall = s.spall := (rfl)
@[simp] theorem State.count_sys (s : State) (off lo w : Nat) : (s.count off lo w).sys = s.sys := (rfl)
@[simp] theorem State.count_out (s : State) (off lo w : Nat) : (s.count off lo w).out = s.out := (rfl)
theorem State.rawReg_count_ne (s : State) (off lo w : Nat) (off' : Nat) (h : off' ≠ off) : (s.count off lo w).rawReg off' = s.rawReg off' := by
  simp [State.count, h]

@[simp] theorem State.maxFld_pending (s : State) (off lo w x : Nat) : (s.maxFld off lo w x).pending = s.pending := by
  unfold State.maxFld; dsimp only; split <;> rfl
@[simp] theorem State.maxFld_fresh (s : State) (off lo w x : Nat) : (s.maxFld off lo w x).fresh = s.fresh := by
  unfold State.maxFld; dsimp only; split <;> rfl
@[simp] theorem State.maxFld_timer (s : State) (off lo w x : Nat) : (s.maxFld off lo w x).timer = s.timer := by
  unfold State.maxFld; dsimp only; split <;> rfl
@[simp] theorem State.maxFld_utime (s : State) (off lo w x : Nat) : (s.maxFld off lo w x).utime = s.utime := by
  unfold State.maxFld; dsimp only; split <;> rfl
@[simp] theorem State.maxFld_ce (s : State) (off lo w x : Nat) : (s.maxFld off lo w x).ce = s.ce := by
  unfold State.maxFld; dsimp only; split <;> rfl
@[simp] theorem State.maxFld_ue (s : State) (off lo w x : Nat) : (s.maxFld off lo w x).ue = s.ue := by
  unfold State.maxFld; dsimp only; split <;> rfl
@[simp] theorem State.maxFld_fmUe (s : State) (off lo w x : Nat) : (s.maxFld off lo w x).fmUe = s.fmUe := by
  unfold State.maxFld; dsimp only; split <;> rfl
@[simp] theorem State.maxFld_cfgUe (s : State) (off lo w x : Nat) : (s.maxFld off lo w x).cfgUe = s.cfgUe := by
  unfold State.maxFld; dsimp only; split <;> rfl
@[simp] theorem State.maxFld_doms (s : State) (off lo w x : Nat) : (s.maxFld off lo w x).doms = s.doms := by
  unfold State.maxFld; dsimp only; split <;> rfl
@[simp] theorem State.maxFld_cores (s : State) (off lo w x : Nat) : (s.maxFld off lo w x).cores = s.cores := by
  unfold State.maxFld; dsimp only; split <;> rfl
@[simp] theorem State.maxFld_benches (s : State) (off lo w x : Nat) : (s.maxFld off lo w x).benches = s.benches := by
  unfold State.maxFld; dsimp only; split <;> rfl
@[simp] theorem State.maxFld_banks (s : State) (off lo w x : Nat) : (s.maxFld off lo w x).banks = s.banks := by
  unfold State.maxFld; dsimp only; split <;> rfl
@[simp] theorem State.maxFld_fab (s : State) (off lo w x : Nat) : (s.maxFld off lo w x).fab = s.fab := by
  unfold State.maxFld; dsimp only; split <;> rfl
@[simp] theorem State.maxFld_groups (s : State) (off lo w x : Nat) : (s.maxFld off lo w x).groups = s.groups := by
  unfold State.maxFld; dsimp only; split <;> rfl
@[simp] theorem State.maxFld_smap (s : State) (off lo w x : Nat) : (s.maxFld off lo w x).smap = s.smap := by
  unfold State.maxFld; dsimp only; split <;> rfl
@[simp] theorem State.maxFld_egr (s : State) (off lo w x : Nat) : (s.maxFld off lo w x).egr = s.egr := by
  unfold State.maxFld; dsimp only; split <;> rfl
@[simp] theorem State.maxFld_dma (s : State) (off lo w x : Nat) : (s.maxFld off lo w x).dma = s.dma := by
  unfold State.maxFld; dsimp only; split <;> rfl
@[simp] theorem State.maxFld_net (s : State) (off lo w x : Nat) : (s.maxFld off lo w x).net = s.net := by
  unfold State.maxFld; dsimp only; split <;> rfl
@[simp] theorem State.maxFld_chain (s : State) (off lo w x : Nat) : (s.maxFld off lo w x).chain = s.chain := by
  unfold State.maxFld; dsimp only; split <;> rfl
@[simp] theorem State.maxFld_twin (s : State) (off lo w x : Nat) : (s.maxFld off lo w x).twin = s.twin := by
  unfold State.maxFld; dsimp only; split <;> rfl
@[simp] theorem State.maxFld_queues (s : State) (off lo w x : Nat) : (s.maxFld off lo w x).queues = s.queues := by
  unfold State.maxFld; dsimp only; split <;> rfl
@[simp] theorem State.maxFld_fns (s : State) (off lo w x : Nat) : (s.maxFld off lo w x).fns = s.fns := by
  unfold State.maxFld; dsimp only; split <;> rfl
@[simp] theorem State.maxFld_cmds (s : State) (off lo w x : Nat) : (s.maxFld off lo w x).cmds = s.cmds := by
  unfold State.maxFld; dsimp only; split <;> rfl
@[simp] theorem State.maxFld_prot (s : State) (off lo w x : Nat) : (s.maxFld off lo w x).prot = s.prot := by
  unfold State.maxFld; dsimp only; split <;> rfl
@[simp] theorem State.maxFld_evt (s : State) (off lo w x : Nat) : (s.maxFld off lo w x).evt = s.evt := by
  unfold State.maxFld; dsimp only; split <;> rfl
@[simp] theorem State.maxFld_raises (s : State) (off lo w x : Nat) : (s.maxFld off lo w x).raises = s.raises := by
  unfold State.maxFld; dsimp only; split <;> rfl
@[simp] theorem State.maxFld_spall (s : State) (off lo w x : Nat) : (s.maxFld off lo w x).spall = s.spall := by
  unfold State.maxFld; dsimp only; split <;> rfl
@[simp] theorem State.maxFld_sys (s : State) (off lo w x : Nat) : (s.maxFld off lo w x).sys = s.sys := by
  unfold State.maxFld; dsimp only; split <;> rfl
@[simp] theorem State.maxFld_out (s : State) (off lo w x : Nat) : (s.maxFld off lo w x).out = s.out := by
  unfold State.maxFld; dsimp only; split <;> rfl
theorem State.rawReg_maxFld_ne (s : State) (off lo w x : Nat) (off' : Nat) (h : off' ≠ off) : (s.maxFld off lo w x).rawReg off' = s.rawReg off' := by
  simp [State.maxFld, h]; split <;> simp [h]

/-! ### State.raise -/

@[simp] theorem State.raise_pending (s : State) (src obj info : Nat) : (s.raise src obj info).pending = s.pending := by
  unfold State.raise State.latch; dsimp only; (repeat' split) <;> rfl
@[simp] theorem State.raise_fresh (s : State) (src obj info : Nat) : (s.raise src obj info).fresh = s.fresh := by
  unfold State.raise State.latch; dsimp only; (repeat' split) <;> rfl
@[simp] theorem State.raise_timer (s : State) (src obj info : Nat) : (s.raise src obj info).timer = s.timer := by
  unfold State.raise State.latch; dsimp only; (repeat' split) <;> rfl
@[simp] theorem State.raise_utime (s : State) (src obj info : Nat) : (s.raise src obj info).utime = s.utime := by
  unfold State.raise State.latch; dsimp only; (repeat' split) <;> rfl
@[simp] theorem State.raise_ce (s : State) (src obj info : Nat) : (s.raise src obj info).ce = s.ce := by
  unfold State.raise State.latch; dsimp only; (repeat' split) <;> rfl
@[simp] theorem State.raise_ue (s : State) (src obj info : Nat) : (s.raise src obj info).ue = s.ue := by
  unfold State.raise State.latch; dsimp only; (repeat' split) <;> rfl
@[simp] theorem State.raise_fmUe (s : State) (src obj info : Nat) : (s.raise src obj info).fmUe = s.fmUe := by
  unfold State.raise State.latch; dsimp only; (repeat' split) <;> rfl
@[simp] theorem State.raise_cfgUe (s : State) (src obj info : Nat) : (s.raise src obj info).cfgUe = s.cfgUe := by
  unfold State.raise State.latch; dsimp only; (repeat' split) <;> rfl
@[simp] theorem State.raise_doms (s : State) (src obj info : Nat) : (s.raise src obj info).doms = s.doms := by
  unfold State.raise State.latch; dsimp only; (repeat' split) <;> rfl
@[simp] theorem State.raise_cores (s : State) (src obj info : Nat) : (s.raise src obj info).cores = s.cores := by
  unfold State.raise State.latch; dsimp only; (repeat' split) <;> rfl
@[simp] theorem State.raise_benches (s : State) (src obj info : Nat) : (s.raise src obj info).benches = s.benches := by
  unfold State.raise State.latch; dsimp only; (repeat' split) <;> rfl
@[simp] theorem State.raise_banks (s : State) (src obj info : Nat) : (s.raise src obj info).banks = s.banks := by
  unfold State.raise State.latch; dsimp only; (repeat' split) <;> rfl
@[simp] theorem State.raise_fab (s : State) (src obj info : Nat) : (s.raise src obj info).fab = s.fab := by
  unfold State.raise State.latch; dsimp only; (repeat' split) <;> rfl
@[simp] theorem State.raise_groups (s : State) (src obj info : Nat) : (s.raise src obj info).groups = s.groups := by
  unfold State.raise State.latch; dsimp only; (repeat' split) <;> rfl
@[simp] theorem State.raise_smap (s : State) (src obj info : Nat) : (s.raise src obj info).smap = s.smap := by
  unfold State.raise State.latch; dsimp only; (repeat' split) <;> rfl
@[simp] theorem State.raise_egr (s : State) (src obj info : Nat) : (s.raise src obj info).egr = s.egr := by
  unfold State.raise State.latch; dsimp only; (repeat' split) <;> rfl
@[simp] theorem State.raise_dma (s : State) (src obj info : Nat) : (s.raise src obj info).dma = s.dma := by
  unfold State.raise State.latch; dsimp only; (repeat' split) <;> rfl
@[simp] theorem State.raise_net (s : State) (src obj info : Nat) : (s.raise src obj info).net = s.net := by
  unfold State.raise State.latch; dsimp only; (repeat' split) <;> rfl
@[simp] theorem State.raise_chain (s : State) (src obj info : Nat) : (s.raise src obj info).chain = s.chain := by
  unfold State.raise State.latch; dsimp only; (repeat' split) <;> rfl
@[simp] theorem State.raise_twin (s : State) (src obj info : Nat) : (s.raise src obj info).twin = s.twin := by
  unfold State.raise State.latch; dsimp only; (repeat' split) <;> rfl
@[simp] theorem State.raise_queues (s : State) (src obj info : Nat) : (s.raise src obj info).queues = s.queues := by
  unfold State.raise State.latch; dsimp only; (repeat' split) <;> rfl
@[simp] theorem State.raise_fns (s : State) (src obj info : Nat) : (s.raise src obj info).fns = s.fns := by
  unfold State.raise State.latch; dsimp only; (repeat' split) <;> rfl
@[simp] theorem State.raise_cmds (s : State) (src obj info : Nat) : (s.raise src obj info).cmds = s.cmds := by
  unfold State.raise State.latch; dsimp only; (repeat' split) <;> rfl
@[simp] theorem State.raise_prot (s : State) (src obj info : Nat) : (s.raise src obj info).prot = s.prot := by
  unfold State.raise State.latch; dsimp only; (repeat' split) <;> rfl
@[simp] theorem State.raise_evt (s : State) (src obj info : Nat) : (s.raise src obj info).evt = s.evt := by
  unfold State.raise State.latch; dsimp only; (repeat' split) <;> rfl
@[simp] theorem State.raise_spall (s : State) (src obj info : Nat) : (s.raise src obj info).spall = s.spall := by
  unfold State.raise State.latch; dsimp only; (repeat' split) <;> rfl
@[simp] theorem State.raise_sys (s : State) (src obj info : Nat) : (s.raise src obj info).sys = s.sys := by
  unfold State.raise State.latch; dsimp only; (repeat' split) <;> rfl
@[simp] theorem State.raise_out (s : State) (src obj info : Nat) : (s.raise src obj info).out = s.out := by
  unfold State.raise State.latch; dsimp only; (repeat' split) <;> rfl
@[simp] theorem State.raise_raises (s : State) (src obj info : Nat) :
    (s.raise src obj info).raises = s.raises ++ [⟨src, BitVec.ofNat 16 obj, BitVec.ofNat 40 info, s.grainsNow⟩] := by
  unfold State.raise State.latch; dsimp only; (repeat' split) <;> rfl
/-- A raise writes no register but the fault latch. -/
theorem State.rawReg_raise (s : State) (src obj info off : Nat) (h : off < 0x2000 ∨ 0x200C < off) :
    (s.raise src obj info).rawReg off = s.rawReg off := by
  unfold State.raise State.latch; dsimp only
  (repeat' split) <;> (try rfl) <;>
    (repeat rw [State.setFld]) <;> (repeat rw [State.rawReg_setReg_ne _ _ _ _ (by simp only [A.ufLatchLo, A.ufLatchHi, A.ufFirst, A.ufFirstt]; omega)]) <;> rfl

/-- The queue of waiting commands put back as it was. -/
theorem State.withQueue_eq (s : State) (q : List Instr) (h : s.pending = q) : s.withQueue q = s := by subst h; rfl

/-! ### Parts read back -/

@[simp] theorem State.dom_setDom_self (s : State) (n : Nat) (x : Dom) : (s.setDom n x).dom n = x := tget_tset_self ..
@[simp] theorem State.dom_setDom_ne (s : State) (n m : Nat) (x : Dom) (h : m ≠ n) : (s.setDom n x).dom m = s.dom m :=
  tget_tset_ne _ _ _ _ _ h
@[simp] theorem State.dom_setReg (s : State) (off : Nat) (v : Word) (n' : Nat) : (s.setReg off v).dom n' = s.dom n' := (rfl)
@[simp] theorem State.dom_setFld (s : State) (off lo w x : Nat) (n' : Nat) : (s.setFld off lo w x).dom n' = s.dom n' := (rfl)
@[simp] theorem State.dom_setReg64 (s : State) (lo hi : Nat) (v : DWord) (n' : Nat) : (s.setReg64 lo hi v).dom n' = s.dom n' := (rfl)
@[simp] theorem State.dom_setCore (s : State) (c : Nat) (x : Core) (n' : Nat) : (s.setCore c x).dom n' = s.dom n' := (rfl)
@[simp] theorem State.dom_setBench (s : State) (b : Nat) (x : Bench) (n' : Nat) : (s.setBench b x).dom n' = s.dom n' := (rfl)
@[simp] theorem State.dom_setBank (s : State) (n : Nat) (x : Bank) (m' : Nat) : (s.setBank n x).dom m' = s.dom m' := (rfl)
@[simp] theorem State.dom_setGroup (s : State) (k : Nat) (x : Group) (n' : Nat) : (s.setGroup k x).dom n' = s.dom n' := (rfl)
@[simp] theorem State.dom_setSeqr (s : State) (k : Nat) (x : Dma) (n' : Nat) : (s.setSeqr k x).dom n' = s.dom n' := (rfl)
@[simp] theorem State.dom_setQst (s : State) (q : Nat) (x : QState) (n' : Nat) : (s.setQst q x).dom n' = s.dom n' := (rfl)
@[simp] theorem State.dom_setFn (s : State) (f : Nat) (x : Fn) (n' : Nat) : (s.setFn f x).dom n' = s.dom n' := (rfl)
@[simp] theorem State.dom_setSrc (s : State) (n : Nat) (x : Src) (m' : Nat) : (s.setSrc n x).dom m' = s.dom m' := (rfl)
@[simp] theorem State.dom_setEthPort (s : State) (e : Nat) (x : EthPort) (n' : Nat) : (s.setEthPort e x).dom n' = s.dom n' := (rfl)
@[simp] theorem State.dom_setChPort (s : State) (p : Nat) (x : ChPort) (n' : Nat) : (s.setChPort p x).dom n' = s.dom n' := (rfl)
@[simp] theorem State.dom_withQueue (s : State) (q : List Instr) (n' : Nat) : (s.withQueue q).dom n' = s.dom n' := (rfl)
@[simp] theorem State.dom_stir (s : State) (n' : Nat) : s.stir.dom n' = s.dom n' := (rfl)
@[simp] theorem State.dom_emit (s : State) (o : Out) (n' : Nat) : (s.emit o).dom n' = s.dom n' := (rfl)
@[simp] theorem State.dom_poke (s : State) (a : Nat) (bs : List Byte) (n' : Nat) : (s.poke a bs).dom n' = s.dom n' := (rfl)
@[simp] theorem State.dom_wipe (s : State) (a n : Nat) (m' : Nat) : (s.wipe a n).dom m' = s.dom m' := (rfl)

@[simp] theorem State.core_setCore_self (s : State) (n : Nat) (x : Core) : (s.setCore n x).core n = x := tget_tset_self ..
@[simp] theorem State.core_setCore_ne (s : State) (n m : Nat) (x : Core) (h : m ≠ n) : (s.setCore n x).core m = s.core m :=
  tget_tset_ne _ _ _ _ _ h
@[simp] theorem State.core_setReg (s : State) (off : Nat) (v : Word) (n' : Nat) : (s.setReg off v).core n' = s.core n' := (rfl)
@[simp] theorem State.core_setFld (s : State) (off lo w x : Nat) (n' : Nat) : (s.setFld off lo w x).core n' = s.core n' := (rfl)
@[simp] theorem State.core_setReg64 (s : State) (lo hi : Nat) (v : DWord) (n' : Nat) : (s.setReg64 lo hi v).core n' = s.core n' := (rfl)
@[simp] theorem State.core_setDom (s : State) (d : Nat) (x : Dom) (n' : Nat) : (s.setDom d x).core n' = s.core n' := (rfl)
@[simp] theorem State.core_setBench (s : State) (b : Nat) (x : Bench) (n' : Nat) : (s.setBench b x).core n' = s.core n' := (rfl)
@[simp] theorem State.core_setBank (s : State) (n : Nat) (x : Bank) (m' : Nat) : (s.setBank n x).core m' = s.core m' := (rfl)
@[simp] theorem State.core_setGroup (s : State) (k : Nat) (x : Group) (n' : Nat) : (s.setGroup k x).core n' = s.core n' := (rfl)
@[simp] theorem State.core_setSeqr (s : State) (k : Nat) (x : Dma) (n' : Nat) : (s.setSeqr k x).core n' = s.core n' := (rfl)
@[simp] theorem State.core_setQst (s : State) (q : Nat) (x : QState) (n' : Nat) : (s.setQst q x).core n' = s.core n' := (rfl)
@[simp] theorem State.core_setFn (s : State) (f : Nat) (x : Fn) (n' : Nat) : (s.setFn f x).core n' = s.core n' := (rfl)
@[simp] theorem State.core_setSrc (s : State) (n : Nat) (x : Src) (m' : Nat) : (s.setSrc n x).core m' = s.core m' := (rfl)
@[simp] theorem State.core_setEthPort (s : State) (e : Nat) (x : EthPort) (n' : Nat) : (s.setEthPort e x).core n' = s.core n' := (rfl)
@[simp] theorem State.core_setChPort (s : State) (p : Nat) (x : ChPort) (n' : Nat) : (s.setChPort p x).core n' = s.core n' := (rfl)
@[simp] theorem State.core_withQueue (s : State) (q : List Instr) (n' : Nat) : (s.withQueue q).core n' = s.core n' := (rfl)
@[simp] theorem State.core_stir (s : State) (n' : Nat) : s.stir.core n' = s.core n' := (rfl)
@[simp] theorem State.core_emit (s : State) (o : Out) (n' : Nat) : (s.emit o).core n' = s.core n' := (rfl)
@[simp] theorem State.core_poke (s : State) (a : Nat) (bs : List Byte) (n' : Nat) : (s.poke a bs).core n' = s.core n' := (rfl)
@[simp] theorem State.core_wipe (s : State) (a n : Nat) (m' : Nat) : (s.wipe a n).core m' = s.core m' := (rfl)

@[simp] theorem State.bench_setBench_self (s : State) (n : Nat) (x : Bench) : (s.setBench n x).bench n = x := tget_tset_self ..
@[simp] theorem State.bench_setBench_ne (s : State) (n m : Nat) (x : Bench) (h : m ≠ n) : (s.setBench n x).bench m = s.bench m :=
  tget_tset_ne _ _ _ _ _ h
@[simp] theorem State.bench_setReg (s : State) (off : Nat) (v : Word) (n' : Nat) : (s.setReg off v).bench n' = s.bench n' := (rfl)
@[simp] theorem State.bench_setFld (s : State) (off lo w x : Nat) (n' : Nat) : (s.setFld off lo w x).bench n' = s.bench n' := (rfl)
@[simp] theorem State.bench_setReg64 (s : State) (lo hi : Nat) (v : DWord) (n' : Nat) : (s.setReg64 lo hi v).bench n' = s.bench n' := (rfl)
@[simp] theorem State.bench_setDom (s : State) (d : Nat) (x : Dom) (n' : Nat) : (s.setDom d x).bench n' = s.bench n' := (rfl)
@[simp] theorem State.bench_setCore (s : State) (c : Nat) (x : Core) (n' : Nat) : (s.setCore c x).bench n' = s.bench n' := (rfl)
@[simp] theorem State.bench_setBank (s : State) (n : Nat) (x : Bank) (m' : Nat) : (s.setBank n x).bench m' = s.bench m' := (rfl)
@[simp] theorem State.bench_setGroup (s : State) (k : Nat) (x : Group) (n' : Nat) : (s.setGroup k x).bench n' = s.bench n' := (rfl)
@[simp] theorem State.bench_setSeqr (s : State) (k : Nat) (x : Dma) (n' : Nat) : (s.setSeqr k x).bench n' = s.bench n' := (rfl)
@[simp] theorem State.bench_setQst (s : State) (q : Nat) (x : QState) (n' : Nat) : (s.setQst q x).bench n' = s.bench n' := (rfl)
@[simp] theorem State.bench_setFn (s : State) (f : Nat) (x : Fn) (n' : Nat) : (s.setFn f x).bench n' = s.bench n' := (rfl)
@[simp] theorem State.bench_setSrc (s : State) (n : Nat) (x : Src) (m' : Nat) : (s.setSrc n x).bench m' = s.bench m' := (rfl)
@[simp] theorem State.bench_setEthPort (s : State) (e : Nat) (x : EthPort) (n' : Nat) : (s.setEthPort e x).bench n' = s.bench n' := (rfl)
@[simp] theorem State.bench_setChPort (s : State) (p : Nat) (x : ChPort) (n' : Nat) : (s.setChPort p x).bench n' = s.bench n' := (rfl)
@[simp] theorem State.bench_withQueue (s : State) (q : List Instr) (n' : Nat) : (s.withQueue q).bench n' = s.bench n' := (rfl)
@[simp] theorem State.bench_stir (s : State) (n' : Nat) : s.stir.bench n' = s.bench n' := (rfl)
@[simp] theorem State.bench_emit (s : State) (o : Out) (n' : Nat) : (s.emit o).bench n' = s.bench n' := (rfl)
@[simp] theorem State.bench_poke (s : State) (a : Nat) (bs : List Byte) (n' : Nat) : (s.poke a bs).bench n' = s.bench n' := (rfl)
@[simp] theorem State.bench_wipe (s : State) (a n : Nat) (m' : Nat) : (s.wipe a n).bench m' = s.bench m' := (rfl)

@[simp] theorem State.bank_setBank_self (s : State) (n : Nat) (x : Bank) : (s.setBank n x).bank n = x := tget_tset_self ..
@[simp] theorem State.bank_setBank_ne (s : State) (n m : Nat) (x : Bank) (h : m ≠ n) : (s.setBank n x).bank m = s.bank m :=
  tget_tset_ne _ _ _ _ _ h
@[simp] theorem State.bank_setReg (s : State) (off : Nat) (v : Word) (n' : Nat) : (s.setReg off v).bank n' = s.bank n' := (rfl)
@[simp] theorem State.bank_setFld (s : State) (off lo w x : Nat) (n' : Nat) : (s.setFld off lo w x).bank n' = s.bank n' := (rfl)
@[simp] theorem State.bank_setReg64 (s : State) (lo hi : Nat) (v : DWord) (n' : Nat) : (s.setReg64 lo hi v).bank n' = s.bank n' := (rfl)
@[simp] theorem State.bank_setDom (s : State) (d : Nat) (x : Dom) (n' : Nat) : (s.setDom d x).bank n' = s.bank n' := (rfl)
@[simp] theorem State.bank_setCore (s : State) (c : Nat) (x : Core) (n' : Nat) : (s.setCore c x).bank n' = s.bank n' := (rfl)
@[simp] theorem State.bank_setBench (s : State) (b : Nat) (x : Bench) (n' : Nat) : (s.setBench b x).bank n' = s.bank n' := (rfl)
@[simp] theorem State.bank_setGroup (s : State) (k : Nat) (x : Group) (n' : Nat) : (s.setGroup k x).bank n' = s.bank n' := (rfl)
@[simp] theorem State.bank_setSeqr (s : State) (k : Nat) (x : Dma) (n' : Nat) : (s.setSeqr k x).bank n' = s.bank n' := (rfl)
@[simp] theorem State.bank_setQst (s : State) (q : Nat) (x : QState) (n' : Nat) : (s.setQst q x).bank n' = s.bank n' := (rfl)
@[simp] theorem State.bank_setFn (s : State) (f : Nat) (x : Fn) (n' : Nat) : (s.setFn f x).bank n' = s.bank n' := (rfl)
@[simp] theorem State.bank_setSrc (s : State) (n : Nat) (x : Src) (m' : Nat) : (s.setSrc n x).bank m' = s.bank m' := (rfl)
@[simp] theorem State.bank_setEthPort (s : State) (e : Nat) (x : EthPort) (n' : Nat) : (s.setEthPort e x).bank n' = s.bank n' := (rfl)
@[simp] theorem State.bank_setChPort (s : State) (p : Nat) (x : ChPort) (n' : Nat) : (s.setChPort p x).bank n' = s.bank n' := (rfl)
@[simp] theorem State.bank_withQueue (s : State) (q : List Instr) (n' : Nat) : (s.withQueue q).bank n' = s.bank n' := (rfl)
@[simp] theorem State.bank_stir (s : State) (n' : Nat) : s.stir.bank n' = s.bank n' := (rfl)
@[simp] theorem State.bank_emit (s : State) (o : Out) (n' : Nat) : (s.emit o).bank n' = s.bank n' := (rfl)
@[simp] theorem State.bank_poke (s : State) (a : Nat) (bs : List Byte) (n' : Nat) : (s.poke a bs).bank n' = s.bank n' := (rfl)
@[simp] theorem State.bank_wipe (s : State) (a n : Nat) (m' : Nat) : (s.wipe a n).bank m' = s.bank m' := (rfl)

@[simp] theorem State.group_setGroup_self (s : State) (n : Nat) (x : Group) : (s.setGroup n x).group n = x := tget_tset_self ..
@[simp] theorem State.group_setGroup_ne (s : State) (n m : Nat) (x : Group) (h : m ≠ n) : (s.setGroup n x).group m = s.group m :=
  tget_tset_ne _ _ _ _ _ h
@[simp] theorem State.group_setReg (s : State) (off : Nat) (v : Word) (n' : Nat) : (s.setReg off v).group n' = s.group n' := (rfl)
@[simp] theorem State.group_setFld (s : State) (off lo w x : Nat) (n' : Nat) : (s.setFld off lo w x).group n' = s.group n' := (rfl)
@[simp] theorem State.group_setReg64 (s : State) (lo hi : Nat) (v : DWord) (n' : Nat) : (s.setReg64 lo hi v).group n' = s.group n' := (rfl)
@[simp] theorem State.group_setDom (s : State) (d : Nat) (x : Dom) (n' : Nat) : (s.setDom d x).group n' = s.group n' := (rfl)
@[simp] theorem State.group_setCore (s : State) (c : Nat) (x : Core) (n' : Nat) : (s.setCore c x).group n' = s.group n' := (rfl)
@[simp] theorem State.group_setBench (s : State) (b : Nat) (x : Bench) (n' : Nat) : (s.setBench b x).group n' = s.group n' := (rfl)
@[simp] theorem State.group_setBank (s : State) (n : Nat) (x : Bank) (m' : Nat) : (s.setBank n x).group m' = s.group m' := (rfl)
@[simp] theorem State.group_setSeqr (s : State) (k : Nat) (x : Dma) (n' : Nat) : (s.setSeqr k x).group n' = s.group n' := (rfl)
@[simp] theorem State.group_setQst (s : State) (q : Nat) (x : QState) (n' : Nat) : (s.setQst q x).group n' = s.group n' := (rfl)
@[simp] theorem State.group_setFn (s : State) (f : Nat) (x : Fn) (n' : Nat) : (s.setFn f x).group n' = s.group n' := (rfl)
@[simp] theorem State.group_setSrc (s : State) (n : Nat) (x : Src) (m' : Nat) : (s.setSrc n x).group m' = s.group m' := (rfl)
@[simp] theorem State.group_setEthPort (s : State) (e : Nat) (x : EthPort) (n' : Nat) : (s.setEthPort e x).group n' = s.group n' := (rfl)
@[simp] theorem State.group_setChPort (s : State) (p : Nat) (x : ChPort) (n' : Nat) : (s.setChPort p x).group n' = s.group n' := (rfl)
@[simp] theorem State.group_withQueue (s : State) (q : List Instr) (n' : Nat) : (s.withQueue q).group n' = s.group n' := (rfl)
@[simp] theorem State.group_stir (s : State) (n' : Nat) : s.stir.group n' = s.group n' := (rfl)
@[simp] theorem State.group_emit (s : State) (o : Out) (n' : Nat) : (s.emit o).group n' = s.group n' := (rfl)
@[simp] theorem State.group_poke (s : State) (a : Nat) (bs : List Byte) (n' : Nat) : (s.poke a bs).group n' = s.group n' := (rfl)
@[simp] theorem State.group_wipe (s : State) (a n : Nat) (m' : Nat) : (s.wipe a n).group m' = s.group m' := (rfl)

@[simp] theorem State.seqr_setSeqr_self (s : State) (n : Nat) (x : Dma) : (s.setSeqr n x).seqr n = x := tget_tset_self ..
@[simp] theorem State.seqr_setSeqr_ne (s : State) (n m : Nat) (x : Dma) (h : m ≠ n) : (s.setSeqr n x).seqr m = s.seqr m :=
  tget_tset_ne _ _ _ _ _ h
@[simp] theorem State.seqr_setReg (s : State) (off : Nat) (v : Word) (n' : Nat) : (s.setReg off v).seqr n' = s.seqr n' := (rfl)
@[simp] theorem State.seqr_setFld (s : State) (off lo w x : Nat) (n' : Nat) : (s.setFld off lo w x).seqr n' = s.seqr n' := (rfl)
@[simp] theorem State.seqr_setReg64 (s : State) (lo hi : Nat) (v : DWord) (n' : Nat) : (s.setReg64 lo hi v).seqr n' = s.seqr n' := (rfl)
@[simp] theorem State.seqr_setDom (s : State) (d : Nat) (x : Dom) (n' : Nat) : (s.setDom d x).seqr n' = s.seqr n' := (rfl)
@[simp] theorem State.seqr_setCore (s : State) (c : Nat) (x : Core) (n' : Nat) : (s.setCore c x).seqr n' = s.seqr n' := (rfl)
@[simp] theorem State.seqr_setBench (s : State) (b : Nat) (x : Bench) (n' : Nat) : (s.setBench b x).seqr n' = s.seqr n' := (rfl)
@[simp] theorem State.seqr_setBank (s : State) (n : Nat) (x : Bank) (m' : Nat) : (s.setBank n x).seqr m' = s.seqr m' := (rfl)
@[simp] theorem State.seqr_setGroup (s : State) (k : Nat) (x : Group) (n' : Nat) : (s.setGroup k x).seqr n' = s.seqr n' := (rfl)
@[simp] theorem State.seqr_setQst (s : State) (q : Nat) (x : QState) (n' : Nat) : (s.setQst q x).seqr n' = s.seqr n' := (rfl)
@[simp] theorem State.seqr_setFn (s : State) (f : Nat) (x : Fn) (n' : Nat) : (s.setFn f x).seqr n' = s.seqr n' := (rfl)
@[simp] theorem State.seqr_setSrc (s : State) (n : Nat) (x : Src) (m' : Nat) : (s.setSrc n x).seqr m' = s.seqr m' := (rfl)
@[simp] theorem State.seqr_setEthPort (s : State) (e : Nat) (x : EthPort) (n' : Nat) : (s.setEthPort e x).seqr n' = s.seqr n' := (rfl)
@[simp] theorem State.seqr_setChPort (s : State) (p : Nat) (x : ChPort) (n' : Nat) : (s.setChPort p x).seqr n' = s.seqr n' := (rfl)
@[simp] theorem State.seqr_withQueue (s : State) (q : List Instr) (n' : Nat) : (s.withQueue q).seqr n' = s.seqr n' := (rfl)
@[simp] theorem State.seqr_stir (s : State) (n' : Nat) : s.stir.seqr n' = s.seqr n' := (rfl)
@[simp] theorem State.seqr_emit (s : State) (o : Out) (n' : Nat) : (s.emit o).seqr n' = s.seqr n' := (rfl)
@[simp] theorem State.seqr_poke (s : State) (a : Nat) (bs : List Byte) (n' : Nat) : (s.poke a bs).seqr n' = s.seqr n' := (rfl)
@[simp] theorem State.seqr_wipe (s : State) (a n : Nat) (m' : Nat) : (s.wipe a n).seqr m' = s.seqr m' := (rfl)

@[simp] theorem State.qst_setQst_self (s : State) (n : Nat) (x : QState) : (s.setQst n x).qst n = x := tget_tset_self ..
@[simp] theorem State.qst_setQst_ne (s : State) (n m : Nat) (x : QState) (h : m ≠ n) : (s.setQst n x).qst m = s.qst m :=
  tget_tset_ne _ _ _ _ _ h
@[simp] theorem State.qst_setReg (s : State) (off : Nat) (v : Word) (n' : Nat) : (s.setReg off v).qst n' = s.qst n' := (rfl)
@[simp] theorem State.qst_setFld (s : State) (off lo w x : Nat) (n' : Nat) : (s.setFld off lo w x).qst n' = s.qst n' := (rfl)
@[simp] theorem State.qst_setReg64 (s : State) (lo hi : Nat) (v : DWord) (n' : Nat) : (s.setReg64 lo hi v).qst n' = s.qst n' := (rfl)
@[simp] theorem State.qst_setDom (s : State) (d : Nat) (x : Dom) (n' : Nat) : (s.setDom d x).qst n' = s.qst n' := (rfl)
@[simp] theorem State.qst_setCore (s : State) (c : Nat) (x : Core) (n' : Nat) : (s.setCore c x).qst n' = s.qst n' := (rfl)
@[simp] theorem State.qst_setBench (s : State) (b : Nat) (x : Bench) (n' : Nat) : (s.setBench b x).qst n' = s.qst n' := (rfl)
@[simp] theorem State.qst_setBank (s : State) (n : Nat) (x : Bank) (m' : Nat) : (s.setBank n x).qst m' = s.qst m' := (rfl)
@[simp] theorem State.qst_setGroup (s : State) (k : Nat) (x : Group) (n' : Nat) : (s.setGroup k x).qst n' = s.qst n' := (rfl)
@[simp] theorem State.qst_setSeqr (s : State) (k : Nat) (x : Dma) (n' : Nat) : (s.setSeqr k x).qst n' = s.qst n' := (rfl)
@[simp] theorem State.qst_setFn (s : State) (f : Nat) (x : Fn) (n' : Nat) : (s.setFn f x).qst n' = s.qst n' := (rfl)
@[simp] theorem State.qst_setSrc (s : State) (n : Nat) (x : Src) (m' : Nat) : (s.setSrc n x).qst m' = s.qst m' := (rfl)
@[simp] theorem State.qst_setEthPort (s : State) (e : Nat) (x : EthPort) (n' : Nat) : (s.setEthPort e x).qst n' = s.qst n' := (rfl)
@[simp] theorem State.qst_setChPort (s : State) (p : Nat) (x : ChPort) (n' : Nat) : (s.setChPort p x).qst n' = s.qst n' := (rfl)
@[simp] theorem State.qst_withQueue (s : State) (q : List Instr) (n' : Nat) : (s.withQueue q).qst n' = s.qst n' := (rfl)
@[simp] theorem State.qst_stir (s : State) (n' : Nat) : s.stir.qst n' = s.qst n' := (rfl)
@[simp] theorem State.qst_emit (s : State) (o : Out) (n' : Nat) : (s.emit o).qst n' = s.qst n' := (rfl)
@[simp] theorem State.qst_poke (s : State) (a : Nat) (bs : List Byte) (n' : Nat) : (s.poke a bs).qst n' = s.qst n' := (rfl)
@[simp] theorem State.qst_wipe (s : State) (a n : Nat) (m' : Nat) : (s.wipe a n).qst m' = s.qst m' := (rfl)

@[simp] theorem State.fn_setFn_self (s : State) (n : Nat) (x : Fn) : (s.setFn n x).fn n = x := tget_tset_self ..
@[simp] theorem State.fn_setFn_ne (s : State) (n m : Nat) (x : Fn) (h : m ≠ n) : (s.setFn n x).fn m = s.fn m :=
  tget_tset_ne _ _ _ _ _ h
@[simp] theorem State.fn_setReg (s : State) (off : Nat) (v : Word) (n' : Nat) : (s.setReg off v).fn n' = s.fn n' := (rfl)
@[simp] theorem State.fn_setFld (s : State) (off lo w x : Nat) (n' : Nat) : (s.setFld off lo w x).fn n' = s.fn n' := (rfl)
@[simp] theorem State.fn_setReg64 (s : State) (lo hi : Nat) (v : DWord) (n' : Nat) : (s.setReg64 lo hi v).fn n' = s.fn n' := (rfl)
@[simp] theorem State.fn_setDom (s : State) (d : Nat) (x : Dom) (n' : Nat) : (s.setDom d x).fn n' = s.fn n' := (rfl)
@[simp] theorem State.fn_setCore (s : State) (c : Nat) (x : Core) (n' : Nat) : (s.setCore c x).fn n' = s.fn n' := (rfl)
@[simp] theorem State.fn_setBench (s : State) (b : Nat) (x : Bench) (n' : Nat) : (s.setBench b x).fn n' = s.fn n' := (rfl)
@[simp] theorem State.fn_setBank (s : State) (n : Nat) (x : Bank) (m' : Nat) : (s.setBank n x).fn m' = s.fn m' := (rfl)
@[simp] theorem State.fn_setGroup (s : State) (k : Nat) (x : Group) (n' : Nat) : (s.setGroup k x).fn n' = s.fn n' := (rfl)
@[simp] theorem State.fn_setSeqr (s : State) (k : Nat) (x : Dma) (n' : Nat) : (s.setSeqr k x).fn n' = s.fn n' := (rfl)
@[simp] theorem State.fn_setQst (s : State) (q : Nat) (x : QState) (n' : Nat) : (s.setQst q x).fn n' = s.fn n' := (rfl)
@[simp] theorem State.fn_setSrc (s : State) (n : Nat) (x : Src) (m' : Nat) : (s.setSrc n x).fn m' = s.fn m' := (rfl)
@[simp] theorem State.fn_setEthPort (s : State) (e : Nat) (x : EthPort) (n' : Nat) : (s.setEthPort e x).fn n' = s.fn n' := (rfl)
@[simp] theorem State.fn_setChPort (s : State) (p : Nat) (x : ChPort) (n' : Nat) : (s.setChPort p x).fn n' = s.fn n' := (rfl)
@[simp] theorem State.fn_withQueue (s : State) (q : List Instr) (n' : Nat) : (s.withQueue q).fn n' = s.fn n' := (rfl)
@[simp] theorem State.fn_stir (s : State) (n' : Nat) : s.stir.fn n' = s.fn n' := (rfl)
@[simp] theorem State.fn_emit (s : State) (o : Out) (n' : Nat) : (s.emit o).fn n' = s.fn n' := (rfl)
@[simp] theorem State.fn_poke (s : State) (a : Nat) (bs : List Byte) (n' : Nat) : (s.poke a bs).fn n' = s.fn n' := (rfl)
@[simp] theorem State.fn_wipe (s : State) (a n : Nat) (m' : Nat) : (s.wipe a n).fn m' = s.fn m' := (rfl)

@[simp] theorem State.src_setSrc_self (s : State) (n : Nat) (x : Src) : (s.setSrc n x).src n = x := tget_tset_self ..
@[simp] theorem State.src_setSrc_ne (s : State) (n m : Nat) (x : Src) (h : m ≠ n) : (s.setSrc n x).src m = s.src m :=
  tget_tset_ne _ _ _ _ _ h
@[simp] theorem State.src_setReg (s : State) (off : Nat) (v : Word) (n' : Nat) : (s.setReg off v).src n' = s.src n' := (rfl)
@[simp] theorem State.src_setFld (s : State) (off lo w x : Nat) (n' : Nat) : (s.setFld off lo w x).src n' = s.src n' := (rfl)
@[simp] theorem State.src_setReg64 (s : State) (lo hi : Nat) (v : DWord) (n' : Nat) : (s.setReg64 lo hi v).src n' = s.src n' := (rfl)
@[simp] theorem State.src_setDom (s : State) (d : Nat) (x : Dom) (n' : Nat) : (s.setDom d x).src n' = s.src n' := (rfl)
@[simp] theorem State.src_setCore (s : State) (c : Nat) (x : Core) (n' : Nat) : (s.setCore c x).src n' = s.src n' := (rfl)
@[simp] theorem State.src_setBench (s : State) (b : Nat) (x : Bench) (n' : Nat) : (s.setBench b x).src n' = s.src n' := (rfl)
@[simp] theorem State.src_setBank (s : State) (n : Nat) (x : Bank) (m' : Nat) : (s.setBank n x).src m' = s.src m' := (rfl)
@[simp] theorem State.src_setGroup (s : State) (k : Nat) (x : Group) (n' : Nat) : (s.setGroup k x).src n' = s.src n' := (rfl)
@[simp] theorem State.src_setSeqr (s : State) (k : Nat) (x : Dma) (n' : Nat) : (s.setSeqr k x).src n' = s.src n' := (rfl)
@[simp] theorem State.src_setQst (s : State) (q : Nat) (x : QState) (n' : Nat) : (s.setQst q x).src n' = s.src n' := (rfl)
@[simp] theorem State.src_setFn (s : State) (f : Nat) (x : Fn) (n' : Nat) : (s.setFn f x).src n' = s.src n' := (rfl)
@[simp] theorem State.src_setEthPort (s : State) (e : Nat) (x : EthPort) (n' : Nat) : (s.setEthPort e x).src n' = s.src n' := (rfl)
@[simp] theorem State.src_setChPort (s : State) (p : Nat) (x : ChPort) (n' : Nat) : (s.setChPort p x).src n' = s.src n' := (rfl)
@[simp] theorem State.src_withQueue (s : State) (q : List Instr) (n' : Nat) : (s.withQueue q).src n' = s.src n' := (rfl)
@[simp] theorem State.src_stir (s : State) (n' : Nat) : s.stir.src n' = s.src n' := (rfl)
@[simp] theorem State.src_emit (s : State) (o : Out) (n' : Nat) : (s.emit o).src n' = s.src n' := (rfl)
@[simp] theorem State.src_poke (s : State) (a : Nat) (bs : List Byte) (n' : Nat) : (s.poke a bs).src n' = s.src n' := (rfl)
@[simp] theorem State.src_wipe (s : State) (a n : Nat) (m' : Nat) : (s.wipe a n).src m' = s.src m' := (rfl)

@[simp] theorem State.ethPort_setEthPort_self (s : State) (n : Nat) (x : EthPort) : (s.setEthPort n x).ethPort n = x := tget_tset_self ..
@[simp] theorem State.ethPort_setEthPort_ne (s : State) (n m : Nat) (x : EthPort) (h : m ≠ n) : (s.setEthPort n x).ethPort m = s.ethPort m :=
  tget_tset_ne _ _ _ _ _ h
@[simp] theorem State.ethPort_setReg (s : State) (off : Nat) (v : Word) (n' : Nat) : (s.setReg off v).ethPort n' = s.ethPort n' := (rfl)
@[simp] theorem State.ethPort_setFld (s : State) (off lo w x : Nat) (n' : Nat) : (s.setFld off lo w x).ethPort n' = s.ethPort n' := (rfl)
@[simp] theorem State.ethPort_setReg64 (s : State) (lo hi : Nat) (v : DWord) (n' : Nat) : (s.setReg64 lo hi v).ethPort n' = s.ethPort n' := (rfl)
@[simp] theorem State.ethPort_setDom (s : State) (d : Nat) (x : Dom) (n' : Nat) : (s.setDom d x).ethPort n' = s.ethPort n' := (rfl)
@[simp] theorem State.ethPort_setCore (s : State) (c : Nat) (x : Core) (n' : Nat) : (s.setCore c x).ethPort n' = s.ethPort n' := (rfl)
@[simp] theorem State.ethPort_setBench (s : State) (b : Nat) (x : Bench) (n' : Nat) : (s.setBench b x).ethPort n' = s.ethPort n' := (rfl)
@[simp] theorem State.ethPort_setBank (s : State) (n : Nat) (x : Bank) (m' : Nat) : (s.setBank n x).ethPort m' = s.ethPort m' := (rfl)
@[simp] theorem State.ethPort_setGroup (s : State) (k : Nat) (x : Group) (n' : Nat) : (s.setGroup k x).ethPort n' = s.ethPort n' := (rfl)
@[simp] theorem State.ethPort_setSeqr (s : State) (k : Nat) (x : Dma) (n' : Nat) : (s.setSeqr k x).ethPort n' = s.ethPort n' := (rfl)
@[simp] theorem State.ethPort_setQst (s : State) (q : Nat) (x : QState) (n' : Nat) : (s.setQst q x).ethPort n' = s.ethPort n' := (rfl)
@[simp] theorem State.ethPort_setFn (s : State) (f : Nat) (x : Fn) (n' : Nat) : (s.setFn f x).ethPort n' = s.ethPort n' := (rfl)
@[simp] theorem State.ethPort_setSrc (s : State) (n : Nat) (x : Src) (m' : Nat) : (s.setSrc n x).ethPort m' = s.ethPort m' := (rfl)
@[simp] theorem State.ethPort_setChPort (s : State) (p : Nat) (x : ChPort) (n' : Nat) : (s.setChPort p x).ethPort n' = s.ethPort n' := (rfl)
@[simp] theorem State.ethPort_withQueue (s : State) (q : List Instr) (n' : Nat) : (s.withQueue q).ethPort n' = s.ethPort n' := (rfl)
@[simp] theorem State.ethPort_stir (s : State) (n' : Nat) : s.stir.ethPort n' = s.ethPort n' := (rfl)
@[simp] theorem State.ethPort_emit (s : State) (o : Out) (n' : Nat) : (s.emit o).ethPort n' = s.ethPort n' := (rfl)
@[simp] theorem State.ethPort_poke (s : State) (a : Nat) (bs : List Byte) (n' : Nat) : (s.poke a bs).ethPort n' = s.ethPort n' := (rfl)
@[simp] theorem State.ethPort_wipe (s : State) (a n : Nat) (m' : Nat) : (s.wipe a n).ethPort m' = s.ethPort m' := (rfl)

@[simp] theorem State.chPort_setChPort_self (s : State) (n : Nat) (x : ChPort) : (s.setChPort n x).chPort n = x := tget_tset_self ..
@[simp] theorem State.chPort_setChPort_ne (s : State) (n m : Nat) (x : ChPort) (h : m ≠ n) : (s.setChPort n x).chPort m = s.chPort m :=
  tget_tset_ne _ _ _ _ _ h
@[simp] theorem State.chPort_setReg (s : State) (off : Nat) (v : Word) (n' : Nat) : (s.setReg off v).chPort n' = s.chPort n' := (rfl)
@[simp] theorem State.chPort_setFld (s : State) (off lo w x : Nat) (n' : Nat) : (s.setFld off lo w x).chPort n' = s.chPort n' := (rfl)
@[simp] theorem State.chPort_setReg64 (s : State) (lo hi : Nat) (v : DWord) (n' : Nat) : (s.setReg64 lo hi v).chPort n' = s.chPort n' := (rfl)
@[simp] theorem State.chPort_setDom (s : State) (d : Nat) (x : Dom) (n' : Nat) : (s.setDom d x).chPort n' = s.chPort n' := (rfl)
@[simp] theorem State.chPort_setCore (s : State) (c : Nat) (x : Core) (n' : Nat) : (s.setCore c x).chPort n' = s.chPort n' := (rfl)
@[simp] theorem State.chPort_setBench (s : State) (b : Nat) (x : Bench) (n' : Nat) : (s.setBench b x).chPort n' = s.chPort n' := (rfl)
@[simp] theorem State.chPort_setBank (s : State) (n : Nat) (x : Bank) (m' : Nat) : (s.setBank n x).chPort m' = s.chPort m' := (rfl)
@[simp] theorem State.chPort_setGroup (s : State) (k : Nat) (x : Group) (n' : Nat) : (s.setGroup k x).chPort n' = s.chPort n' := (rfl)
@[simp] theorem State.chPort_setSeqr (s : State) (k : Nat) (x : Dma) (n' : Nat) : (s.setSeqr k x).chPort n' = s.chPort n' := (rfl)
@[simp] theorem State.chPort_setQst (s : State) (q : Nat) (x : QState) (n' : Nat) : (s.setQst q x).chPort n' = s.chPort n' := (rfl)
@[simp] theorem State.chPort_setFn (s : State) (f : Nat) (x : Fn) (n' : Nat) : (s.setFn f x).chPort n' = s.chPort n' := (rfl)
@[simp] theorem State.chPort_setSrc (s : State) (n : Nat) (x : Src) (m' : Nat) : (s.setSrc n x).chPort m' = s.chPort m' := (rfl)
@[simp] theorem State.chPort_setEthPort (s : State) (e : Nat) (x : EthPort) (n' : Nat) : (s.setEthPort e x).chPort n' = s.chPort n' := (rfl)
@[simp] theorem State.chPort_withQueue (s : State) (q : List Instr) (n' : Nat) : (s.withQueue q).chPort n' = s.chPort n' := (rfl)
@[simp] theorem State.chPort_stir (s : State) (n' : Nat) : s.stir.chPort n' = s.chPort n' := (rfl)
@[simp] theorem State.chPort_emit (s : State) (o : Out) (n' : Nat) : (s.emit o).chPort n' = s.chPort n' := (rfl)
@[simp] theorem State.chPort_poke (s : State) (a : Nat) (bs : List Byte) (n' : Nat) : (s.poke a bs).chPort n' = s.chPort n' := (rfl)
@[simp] theorem State.chPort_wipe (s : State) (a n : Nat) (m' : Nat) : (s.wipe a n).chPort m' = s.chPort m' := (rfl)

@[simp] theorem State.rawReg_setDom (s : State) (d : Nat) (x : Dom) (off : Nat) : (s.setDom d x).rawReg off = s.rawReg off := (rfl)
@[simp] theorem State.fld_setDom (s : State) (d : Nat) (x : Dom) (off lo' w' : Nat) : (s.setDom d x).fld off lo' w' = s.fld off lo' w' := (rfl)
@[simp] theorem State.rawReg_setCore (s : State) (c : Nat) (x : Core) (off : Nat) : (s.setCore c x).rawReg off = s.rawReg off := (rfl)
@[simp] theorem State.fld_setCore (s : State) (c : Nat) (x : Core) (off lo' w' : Nat) : (s.setCore c x).fld off lo' w' = s.fld off lo' w' := (rfl)
@[simp] theorem State.rawReg_setBench (s : State) (b : Nat) (x : Bench) (off : Nat) : (s.setBench b x).rawReg off = s.rawReg off := (rfl)
@[simp] theorem State.fld_setBench (s : State) (b : Nat) (x : Bench) (off lo' w' : Nat) : (s.setBench b x).fld off lo' w' = s.fld off lo' w' := (rfl)
@[simp] theorem State.rawReg_setBank (s : State) (n : Nat) (x : Bank) (off : Nat) : (s.setBank n x).rawReg off = s.rawReg off := (rfl)
@[simp] theorem State.fld_setBank (s : State) (n : Nat) (x : Bank) (off lo' w' : Nat) : (s.setBank n x).fld off lo' w' = s.fld off lo' w' := (rfl)
@[simp] theorem State.rawReg_setGroup (s : State) (k : Nat) (x : Group) (off : Nat) : (s.setGroup k x).rawReg off = s.rawReg off := (rfl)
@[simp] theorem State.fld_setGroup (s : State) (k : Nat) (x : Group) (off lo' w' : Nat) : (s.setGroup k x).fld off lo' w' = s.fld off lo' w' := (rfl)
@[simp] theorem State.rawReg_setSeqr (s : State) (k : Nat) (x : Dma) (off : Nat) : (s.setSeqr k x).rawReg off = s.rawReg off := (rfl)
@[simp] theorem State.fld_setSeqr (s : State) (k : Nat) (x : Dma) (off lo' w' : Nat) : (s.setSeqr k x).fld off lo' w' = s.fld off lo' w' := (rfl)
@[simp] theorem State.rawReg_setQst (s : State) (q : Nat) (x : QState) (off : Nat) : (s.setQst q x).rawReg off = s.rawReg off := (rfl)
@[simp] theorem State.fld_setQst (s : State) (q : Nat) (x : QState) (off lo' w' : Nat) : (s.setQst q x).fld off lo' w' = s.fld off lo' w' := (rfl)
@[simp] theorem State.rawReg_setFn (s : State) (f : Nat) (x : Fn) (off : Nat) : (s.setFn f x).rawReg off = s.rawReg off := (rfl)
@[simp] theorem State.fld_setFn (s : State) (f : Nat) (x : Fn) (off lo' w' : Nat) : (s.setFn f x).fld off lo' w' = s.fld off lo' w' := (rfl)
@[simp] theorem State.rawReg_setSrc (s : State) (n : Nat) (x : Src) (off : Nat) : (s.setSrc n x).rawReg off = s.rawReg off := (rfl)
@[simp] theorem State.fld_setSrc (s : State) (n : Nat) (x : Src) (off lo' w' : Nat) : (s.setSrc n x).fld off lo' w' = s.fld off lo' w' := (rfl)
@[simp] theorem State.rawReg_setEthPort (s : State) (e : Nat) (x : EthPort) (off : Nat) : (s.setEthPort e x).rawReg off = s.rawReg off := (rfl)
@[simp] theorem State.fld_setEthPort (s : State) (e : Nat) (x : EthPort) (off lo' w' : Nat) : (s.setEthPort e x).fld off lo' w' = s.fld off lo' w' := (rfl)
@[simp] theorem State.rawReg_setChPort (s : State) (p : Nat) (x : ChPort) (off : Nat) : (s.setChPort p x).rawReg off = s.rawReg off := (rfl)
@[simp] theorem State.fld_setChPort (s : State) (p : Nat) (x : ChPort) (off lo' w' : Nat) : (s.setChPort p x).fld off lo' w' = s.fld off lo' w' := (rfl)
@[simp] theorem State.rawReg_withQueue (s : State) (q : List Instr) (off : Nat) : (s.withQueue q).rawReg off = s.rawReg off := (rfl)
@[simp] theorem State.fld_withQueue (s : State) (q : List Instr) (off lo' w' : Nat) : (s.withQueue q).fld off lo' w' = s.fld off lo' w' := (rfl)
@[simp] theorem State.rawReg_stir (s : State) (off : Nat) : s.stir.rawReg off = s.rawReg off := (rfl)
@[simp] theorem State.fld_stir (s : State) (off lo' w' : Nat) : s.stir.fld off lo' w' = s.fld off lo' w' := (rfl)
@[simp] theorem State.rawReg_emit (s : State) (o : Out) (off : Nat) : (s.emit o).rawReg off = s.rawReg off := (rfl)
@[simp] theorem State.fld_emit (s : State) (o : Out) (off lo' w' : Nat) : (s.emit o).fld off lo' w' = s.fld off lo' w' := (rfl)
@[simp] theorem State.rawReg_poke (s : State) (a : Nat) (bs : List Byte) (off : Nat) : (s.poke a bs).rawReg off = s.rawReg off := (rfl)
@[simp] theorem State.fld_poke (s : State) (a : Nat) (bs : List Byte) (off lo' w' : Nat) : (s.poke a bs).fld off lo' w' = s.fld off lo' w' := (rfl)
@[simp] theorem State.rawReg_wipe (s : State) (a n : Nat) (off : Nat) : (s.wipe a n).rawReg off = s.rawReg off := (rfl)
@[simp] theorem State.fld_wipe (s : State) (a n : Nat) (off lo' w' : Nat) : (s.wipe a n).fld off lo' w' = s.fld off lo' w' := (rfl)

end Sys2Proof.Machine
end

