-- ==== Sys2Proof/Laws/MemBase.lean ====
section
/-! SUPPORT. What the operations and rows of the foundation, the banks, the fabric, the events and the rate domains do to the bytes of memory: `_mem` says that memory is as it was,
`_memWf` that its canonical form is kept. -/

namespace Sys2Proof.Machine

/-! ### Machine/Ops.lean -/

@[simp] theorem State.setReg_mem (s : State) (off : Nat) (v : Word) : (State.setReg s off v).mem = s.mem := by
  simp [State.setReg]

@[simp] theorem State.setFld_mem (s : State) (off lo w x : Nat) : (State.setFld s off lo w x).mem = s.mem := by
  simp [State.setFld]

@[simp] theorem State.count_mem (s : State) (off lo w : Nat) : (State.count s off lo w).mem = s.mem := by
  simp [State.count]

@[simp] theorem State.maxFld_mem (s : State) (off lo w x : Nat) : (State.maxFld s off lo w x).mem = s.mem := by
  simp [State.maxFld]

@[simp] theorem State.setReg64_mem (s : State) (lo hi : Nat) (v : DWord) : (State.setReg64 s lo hi v).mem = s.mem := by
  simp [State.setReg64]

@[simp] theorem State.plainWrite_mem (s : State) (off : Nat) (v : Word) : (State.plainWrite s off v).mem = s.mem := by
  simp only [State.plainWrite]; (repeat' split) <;> simp

@[simp] theorem State.readClear_mem (s : State) (off : Nat) : (State.readClear s off).mem = s.mem := by
  simp only [State.readClear]; (repeat' split) <;> simp

@[simp] theorem State.setDom_mem (s : State) (d : Nat) (x : Dom) : (State.setDom s d x).mem = s.mem := by
  simp [State.setDom]

@[simp] theorem State.setCore_mem (s : State) (c : Nat) (x : Core) : (State.setCore s c x).mem = s.mem := by
  simp [State.setCore]

@[simp] theorem State.setBench_mem (s : State) (b : Nat) (x : Bench) : (State.setBench s b x).mem = s.mem := by
  simp [State.setBench]

@[simp] theorem State.setBank_mem (s : State) (n : Nat) (x : Bank) : (State.setBank s n x).mem = s.mem := by
  simp [State.setBank]

@[simp] theorem State.setGroup_mem (s : State) (k : Nat) (x : Group) : (State.setGroup s k x).mem = s.mem := by
  simp [State.setGroup]

@[simp] theorem State.setSeqr_mem (s : State) (k : Nat) (x : Dma) : (State.setSeqr s k x).mem = s.mem := by
  simp [State.setSeqr]

@[simp] theorem State.setQst_mem (s : State) (q : Nat) (x : QState) : (State.setQst s q x).mem = s.mem := by
  simp [State.setQst]

@[simp] theorem State.setFn_mem (s : State) (f : Nat) (x : Fn) : (State.setFn s f x).mem = s.mem := by
  simp [State.setFn]

@[simp] theorem State.setSrc_mem (s : State) (n : Nat) (x : Src) : (State.setSrc s n x).mem = s.mem := by
  simp [State.setSrc]

@[simp] theorem State.setEthPort_mem (s : State) (e : Nat) (x : EthPort) : (State.setEthPort s e x).mem = s.mem := by
  simp [State.setEthPort]

@[simp] theorem State.setChPort_mem (s : State) (p : Nat) (x : ChPort) : (State.setChPort s p x).mem = s.mem := by
  simp [State.setChPort]

@[simp] theorem State.stir_mem (s : State) : (State.stir s).mem = s.mem := by
  simp [State.stir]

@[simp] theorem State.emit_mem (s : State) (o : Out) : (State.emit s o).mem = s.mem := by
  simp [State.emit]

@[simp] theorem upTo_mem (n : Nat) (f : State → Nat → State) (s : State) (hf : ∀ s i, (f s i).mem = s.mem) : (upTo n f s).mem = s.mem := by
  unfold upTo; (repeat' split) <;> simp_all

@[simp] theorem State.within_mem (s : State) (i : Nat) (t : State) (h : t.mem = s.mem) : (s.within i t).mem = s.mem := by unfold State.within; split <;> simp [h]

@[simp] theorem State.within_memWf (s : State) (i : Nat) (t : State) (hs : Memory.wf s.mem = true) (h : Memory.wf t.mem = true) : Memory.wf (s.within i t).mem = true := by unfold State.within; split <;> simp [*]

@[simp] theorem State.latch_mem (s : State) (src : Nat) : (State.latch s src).mem = s.mem := by
  simp [State.latch]

@[simp] theorem State.raise_mem (s : State) (src obj info : Nat) : (State.raise s src obj info).mem = s.mem := by
  simp [State.raise]

@[simp] theorem State.addressMap_mem (s : State) (who addr : Nat) : (State.addressMap s who addr).mem = s.mem := by
  simp [State.addressMap]

@[simp] theorem State.readBy_mem (s : State) (who off : Nat) (f : State → State × Word) (hf : ∀ s, (f s).1.mem = s.mem) : (State.readBy s who off f).mem = s.mem := by
  unfold State.readBy; (repeat' split) <;> simp_all

@[simp] theorem State.poke_memWf (s : State) (a : Nat) (bs : List Byte) (hw : Memory.wf s.mem = true) : Memory.wf (State.poke s a bs).mem = true := by
  simp [State.poke, *]

@[simp] theorem State.wipe_memWf (s : State) (a n : Nat) (hw : Memory.wf s.mem = true) : Memory.wf (State.wipe s a n).mem = true := by
  simp [State.wipe, *]

@[simp] theorem State.eccRead_mem (s : State) (a n : Nat) : (State.eccRead s a n).mem = s.mem := by
  simp [State.eccRead]

@[simp] theorem State.denied_mem (s : State) (n who off : Nat) (asleep : Bool) : (State.denied s n who off asleep).mem = s.mem := by
  simp [State.denied]

/-! ### Machine/Inflight.lean -/

@[simp] theorem State.modCore_mem (s : State) (c : Nat) (f : Core → Core) : (State.modCore s c f).mem = s.mem := by
  simp [State.modCore]

@[simp] theorem State.tear_mem (s : State) (a : Nat) (bs : List Byte) : (State.tear s a bs).mem = s.mem := by
  unfold State.tear; (try dsimp only); (repeat' (first | (refine (foldl_mem _ (fun s x => ?_) _ _).trans ?_) | (refine (upTo_mem _ _ (fun s x => ?_) _).trans ?_) | (split <;> (first | (rename_i hh; obtain ⟨rfl, -⟩ := Prod.ext_iff.1 hh) | (rename_i hh _; obtain ⟨rfl, -⟩ := Prod.ext_iff.1 hh) | skip)))) <;> (first | (simp; done) | (simp [*]; done) | (simp_all; done))

@[simp] theorem State.countBusy_mem (s : State) (a : Nat) : (State.countBusy s a).mem = s.mem := by
  simp [State.countBusy]

@[simp] theorem State.readMet_mem (s : State) (a n : Nat) : (State.readMet s a n).1.mem = s.mem := by
  unfold State.readMet; (try dsimp only); (repeat' (first | (refine (foldl_mem _ (fun s x => ?_) _ _).trans ?_) | (refine (upTo_mem _ _ (fun s x => ?_) _).trans ?_) | (split <;> (first | (rename_i hh; obtain ⟨rfl, -⟩ := Prod.ext_iff.1 hh) | (rename_i hh _; obtain ⟨rfl, -⟩ := Prod.ext_iff.1 hh) | skip)))) <;> (first | (simp; done) | (simp [*]; done) | (simp_all; done))

/-! ### Machine/Maps.lean -/

@[simp] theorem State.thawFrom_mem (s t : State) : (s.thawFrom t).mem = t.mem := by unfold State.thawFrom; split <;> rfl

@[simp] theorem trigSeen_mem (w : Nat) (s : State) (c : Nat) : (trigSeen w s c).mem = s.mem := by
  simp [trigSeen]

@[simp] theorem unreserve_mem (who line : Nat) (s : State) (c : Nat) : (unreserve who line s c).mem = s.mem := by
  simp [unreserve]

@[simp] theorem State.wrote_mem (s : State) (who : Nat) (ws : List Nat) : (State.wrote s who ws).mem = s.mem := by
  simp [State.wrote]

@[simp] theorem State.bankPut_memWf (s : State) (who a : Nat) (bs : List Byte) (hw : Memory.wf s.mem = true) : Memory.wf (State.bankPut s who a bs).mem = true := by
  simp [State.bankPut, *]

/-! ### Machine/Banks.lean -/

@[simp] theorem State.beginChange_mem (s : State) (n owner lender : Nat) (wait : Bool) : (State.beginChange s n owner lender wait).mem = s.mem := by
  simp [State.beginChange]

@[simp] theorem State.ownWrite_mem (s : State) (n id : Nat) (v : Word) : (State.ownWrite s n id v).mem = s.mem := by
  simp only [State.ownWrite]; (repeat' split) <;> simp

@[simp] theorem bankOwnWrite_mem (n : BankId) (who : Requester) (v : Word) (s : State) : (bankOwnWrite n who v s).mem = s.mem := by
  simp only [bankOwnWrite]; (repeat' split) <;> simp

@[simp] theorem State.loseRes_mem (s : State) (n c : Nat) : (State.loseRes s n c).mem = s.mem := by
  simp only [State.loseRes]; (repeat' split) <;> simp

@[simp] theorem State.takeOwner_mem (s : State) (n : Nat) (ch : OwnChg) : (State.takeOwner s n ch).mem = s.mem := by
  simp only [State.takeOwner]; (repeat' split) <;> simp

@[simp] theorem handoverEffect_mem (n : BankId) (s : State) : (handoverEffect n s).mem = s.mem := by
  simp only [handoverEffect]; (repeat' split) <;> simp

@[simp] theorem State.assignBank_mem (s : State) (n owner : Nat) : (State.assignBank s n owner).mem = s.mem := by
  simp [State.assignBank]

@[simp] theorem State.releaseLoans_mem (s : State) (id : Nat) : (State.releaseLoans s id).mem = s.mem := by
  simp [State.releaseLoans]

@[simp] theorem State.evict_mem (s : State) (n : Nat) : (State.evict s n).mem = s.mem := by
  simp [State.evict]

@[simp] theorem State.bankPwrStart_mem (s : State) (n : Nat) : (State.bankPwrStart s n).mem = s.mem := by
  simp [State.bankPwrStart]

@[simp] theorem bankPwrWrite_mem (n : BankId) (who : Requester) (v : Word) (s : State) : (bankPwrWrite n who v s).mem = s.mem := by
  simp only [bankPwrWrite]; (repeat' split) <;> simp

@[simp] theorem bankPowerChangeDone_memWf (n : BankId) (s : State) (hw : Memory.wf s.mem = true) : Memory.wf (bankPowerChangeDone n s).mem = true := by
  unfold bankPowerChangeDone; (repeat' split) <;> simp_all (maxDischargeDepth := 12) (contextual := true)

@[simp] theorem State.portRead_mem (s : State) (who a len : Nat) : (State.portRead s who a len).1.mem = s.mem := by
  simp [State.portRead]

@[simp] theorem State.portReadMet_mem (s : State) (who a len : Nat) (met : Bool) : (State.portReadMet s who a len met).1.mem = s.mem := by
  unfold State.portReadMet; (try dsimp only); (repeat' (first | (refine (foldl_mem _ (fun s x => ?_) _ _).trans ?_) | (refine (upTo_mem _ _ (fun s x => ?_) _).trans ?_) | (split <;> (first | (rename_i hh; obtain ⟨rfl, -⟩ := Prod.ext_iff.1 hh) | (rename_i hh _; obtain ⟨rfl, -⟩ := Prod.ext_iff.1 hh) | skip)))) <;> (first | (simp; done) | (simp [*]; done) | (simp_all; done))

@[simp] theorem State.portWrite_memWf (s : State) (who a : Nat) (bs : List Byte) (hw : Memory.wf s.mem = true) : Memory.wf (State.portWrite s who a bs).1.mem = true := by
  unfold State.portWrite; (try dsimp only); (repeat' split) <;> simp [*]

@[simp] theorem State.portWriteMet_memWf (s : State) (who a : Nat) (bs : List Byte) (met : Bool) (hw : Memory.wf s.mem = true) : Memory.wf (State.portWriteMet s who a bs met).1.mem = true := by
  have h := State.portWrite_memWf s who a bs hw
  unfold State.portWriteMet
  split
  · rename_i s1 e
    rw [e] at h
    dsimp only
    split <;> simp_all
  · exact h

@[simp] theorem State.portReadFree_mem (s : State) (who a len : Nat) : (State.portReadFree s who a len).1.mem = s.mem := by
  unfold State.portReadFree; (try dsimp only); (repeat' (first | (refine (foldl_mem _ (fun s x => ?_) _ _).trans ?_) | (refine (upTo_mem _ _ (fun s x => ?_) _).trans ?_) | (split <;> (first | (rename_i hh; obtain ⟨rfl, -⟩ := Prod.ext_iff.1 hh) | (rename_i hh _; obtain ⟨rfl, -⟩ := Prod.ext_iff.1 hh) | skip)))) <;> (first | (simp; done) | (simp [*]; done) | (simp_all; done))

@[simp] theorem State.portWriteFree_memWf (s : State) (who a : Nat) (bs : List Byte) (hw : Memory.wf s.mem = true) : Memory.wf (State.portWriteFree s who a bs).1.mem = true := by
  unfold State.portWriteFree; split <;> simp [hw]

@[simp] theorem State.latchStore_mem (s : State) (i : Nat) (e : SbEntry) : (s.latchStore i e).mem = s.mem := rfl

@[simp] theorem State.paramPut_memWf (s : State) (a : Nat) (bs : List Byte) (hw : Memory.wf s.mem = true) : Memory.wf (State.paramPut s a bs).mem = true := by
  unfold State.paramPut; (try dsimp only); (repeat' (first | (refine foldl_memWf _ (fun s x hw => ?_) _ _ ?_) | (refine upTo_memWf _ _ (fun s x hw => ?_) _ ?_) | (split <;> (first | (rename_i hh; obtain ⟨rfl, -⟩ := Prod.ext_iff.1 hh) | (rename_i hh _; obtain ⟨rfl, -⟩ := Prod.ext_iff.1 hh) | skip)))) <;> simp (maxDischargeDepth := 12) (contextual := true) [*]

/-! ### Machine/Fabric.lean -/

@[simp] theorem State.fabRead_mem (s : State) (a : Nat) (busy : Bool) : (State.fabRead s a busy).1.mem = s.mem := by
  simp [State.fabRead]

@[simp] theorem State.setWq_mem (s : State) (w : Nat) (l : List FabWord) : (State.setWq s w l).mem = s.mem := by
  simp [State.setWq]

@[simp] theorem State.setWeq_mem (s : State) (w : Nat) (l : List EgrWord) : (State.setWeq s w l).mem = s.mem := by
  simp [State.setWeq]

@[simp] theorem State.fabDrop_mem (s : State) (w : Nat) (dst : Option Nat) : (State.fabDrop s w dst).mem = s.mem := by
  simp [State.fabDrop]

@[simp] theorem State.offer_mem (s : State) (w : Nat) (x : FabWord) : (State.offer s w x).mem = s.mem := by
  simp [State.offer]

@[simp] theorem schedCarry_mem (d : DomId) (entry : Fin 16384) (i : Fin 1024) (busy : Bool) (s : State) : (schedCarry d entry i busy s).mem = s.mem := by
  unfold schedCarry; (try dsimp only); (repeat' (split <;> (try (rename_i hh; obtain ⟨rfl, -⟩ := Prod.ext_iff.1 hh)))) <;> (first | (simp; done) | (simp [*]; done) | (simp_all; done))

@[simp] theorem watchCarry_mem (b : BenchId) (busy : Bool) (s : State) : (watchCarry b busy s).mem = s.mem := by
  unfold watchCarry
  refine State.within_mem _ _ _ ?_
  split
  · split
    · rfl
    · dsimp only
      split
      · rfl
      · split
        · rename_i e
          simp only [State.offer_mem]
          exact (congrArg (fun r => r.1.mem) e).symm.trans (State.fabRead_mem _ _ _)
        · rename_i e _
          exact (congrArg (fun r => r.1.mem) e).symm.trans (State.fabRead_mem _ _ _)
  · rfl

@[simp] theorem State.setPushes_mem (s : State) (b : Nat) (l : List (BitVec 16 × Word)) : (State.setPushes s b l).mem = s.mem := by
  unfold State.setPushes; (try dsimp only); (repeat' (first | (refine (foldl_mem _ (fun s x => ?_) _ _).trans ?_) | (refine (upTo_mem _ _ (fun s x => ?_) _).trans ?_) | (split <;> (first | (rename_i hh; obtain ⟨rfl, -⟩ := Prod.ext_iff.1 hh) | (rename_i hh _; obtain ⟨rfl, -⟩ := Prod.ext_iff.1 hh) | skip)))) <;> (first | (simp; done) | (simp [*]; done) | (simp_all; done))

@[simp] theorem pushCarry_mem (b : BenchId) (s : State) : (pushCarry b s).mem = s.mem := by
  unfold pushCarry; (try dsimp only); (repeat' (first | (refine (foldl_mem _ (fun s x => ?_) _ _).trans ?_) | (refine (upTo_mem _ _ (fun s x => ?_) _).trans ?_) | (split <;> (first | (rename_i hh; obtain ⟨rfl, -⟩ := Prod.ext_iff.1 hh) | (rename_i hh _; obtain ⟨rfl, -⟩ := Prod.ext_iff.1 hh) | skip)))) <;> (first | (simp; done) | (simp [*]; done) | (simp_all; done))

@[simp] theorem State.takeWord_mem (s : State) (w : Nat) (rest : List FabWord) : (State.takeWord s w rest).mem = s.mem := by
  unfold State.takeWord; (try dsimp only); (repeat' (first | (refine (foldl_mem _ (fun s x => ?_) _ _).trans ?_) | (refine (upTo_mem _ _ (fun s x => ?_) _).trans ?_) | (split <;> (first | (rename_i hh; obtain ⟨rfl, -⟩ := Prod.ext_iff.1 hh) | (rename_i hh _; obtain ⟨rfl, -⟩ := Prod.ext_iff.1 hh) | skip)))) <;> (first | (simp; done) | (simp [*]; done) | (simp_all; done))

@[simp] theorem State.waitMax_mem (s : State) (w waited : Nat) : (State.waitMax s w waited).mem = s.mem := by
  unfold State.waitMax; (try dsimp only); (repeat' (first | (refine (foldl_mem _ (fun s x => ?_) _ _).trans ?_) | (refine (upTo_mem _ _ (fun s x => ?_) _).trans ?_) | (split <;> (first | (rename_i hh; obtain ⟨rfl, -⟩ := Prod.ext_iff.1 hh) | (rename_i hh _; obtain ⟨rfl, -⟩ := Prod.ext_iff.1 hh) | skip)))) <;> (first | (simp; done) | (simp [*]; done) | (simp_all; done))

@[simp] theorem State.fabPut_memWf (s : State) (w : Nat) (x : FabWord) (busy : Bool) (hw : Memory.wf s.mem = true) : Memory.wf (State.fabPut s w x busy).mem = true := by
  unfold State.fabPut; (try dsimp only); (repeat' (first | (refine foldl_memWf _ (fun s x hw => ?_) _ _ ?_) | (refine upTo_memWf _ _ (fun s x hw => ?_) _ ?_) | (split <;> (first | (rename_i hh; obtain ⟨rfl, -⟩ := Prod.ext_iff.1 hh) | (rename_i hh _; obtain ⟨rfl, -⟩ := Prod.ext_iff.1 hh) | skip)))) <;> simp (maxDischargeDepth := 12) (contextual := true) [*]

@[simp] theorem fabricBankWrite_memWf (w : WagonId) (meets : Option WagonId) (seamUe busy : Bool) (waited : BitVec 16) (s : State) (hw : Memory.wf s.mem = true) : Memory.wf (fabricBankWrite w meets seamUe busy waited s).mem = true := by
  unfold fabricBankWrite; (try dsimp only); (repeat' (first | (refine foldl_memWf _ (fun s x hw => ?_) _ _ ?_) | (refine upTo_memWf _ _ (fun s x hw => ?_) _ ?_) | (split <;> (first | (rename_i hh; obtain ⟨rfl, -⟩ := Prod.ext_iff.1 hh) | (rename_i hh _; obtain ⟨rfl, -⟩ := Prod.ext_iff.1 hh) | skip)))) <;> simp (maxDischargeDepth := 12) (contextual := true) [*]

@[simp] theorem State.pagedWrite_mem (s : State) (off : Nat) (v : Word) (isActive pend : Bool) (st actBit pendBit : Nat) (store entry : Nat) : (State.pagedWrite s off v isActive pend st actBit pendBit store entry).mem = s.mem := by
  unfold State.pagedWrite; (try dsimp only); (repeat' (first | (refine (foldl_mem _ (fun s x => ?_) _ _).trans ?_) | (refine (upTo_mem _ _ (fun s x => ?_) _).trans ?_) | (split <;> (first | (rename_i hh; obtain ⟨rfl, -⟩ := Prod.ext_iff.1 hh) | (rename_i hh _; obtain ⟨rfl, -⟩ := Prod.ext_iff.1 hh) | skip)))) <;> (first | (simp; done) | (simp [*]; done) | (simp_all; done))

@[simp] theorem routePageWrite_mem (page : Fin 2) (word : Fin 65536) (v : Word) (s : State) : (routePageWrite page word v s).mem = s.mem := by
  unfold routePageWrite; (try dsimp only); (repeat' (first | (refine (foldl_mem _ (fun s x => ?_) _ _).trans ?_) | (refine (upTo_mem _ _ (fun s x => ?_) _).trans ?_) | (split <;> (first | (rename_i hh; obtain ⟨rfl, -⟩ := Prod.ext_iff.1 hh) | (rename_i hh _; obtain ⟨rfl, -⟩ := Prod.ext_iff.1 hh) | skip)))) <;> (first | (simp; done) | (simp [*]; done) | (simp_all; done))

/-! ### Machine/Events.lean -/

@[simp] theorem State.fire_mem (s : State) (n : Nat) (f : Firing) : (State.fire s n f).mem = s.mem := by
  simp [State.fire]

@[simp] theorem State.closeWindow_mem (s : State) (n : Nat) : (State.closeWindow s n).mem = s.mem := by
  simp only [State.closeWindow]; (repeat' split) <;> simp

@[simp] theorem State.coalesce_mem (s : State) (r : Raise) : (State.coalesce s r).mem = s.mem := by
  simp only [State.coalesce]; (repeat' split) <;> simp

@[simp] theorem State.claim_mem (s : State) (c : Nat) : (State.claim s c).1.mem = s.mem := by
  simp only [State.claim]; (repeat' split) <;> simp

@[simp] theorem State.complete_mem (s : State) (c n : Nat) : (State.complete s c n).mem = s.mem := by
  simp [State.complete]

@[simp] theorem State.autoRelease_mem (s : State) (c : Nat) : (State.autoRelease s c).mem = s.mem := by
  simp only [State.autoRelease]; (repeat' split) <;> simp

@[simp] theorem evtDoneWrite_mem (c : CoreId) (v : Word) (s : State) : (evtDoneWrite c v s).mem = s.mem := by
  simp [evtDoneWrite]

@[simp] theorem State.withdraw_mem (s : State) (n : Nat) : (State.withdraw s n).mem = s.mem := by
  simp [State.withdraw]

@[simp] theorem evtPendWrite_mem (w : Fin 32) (v : Word) (s : State) : (evtPendWrite w v s).mem = s.mem := by
  simp [evtPendWrite]

@[simp] theorem evtGdisWrite_mem (w : Fin 4) (v : Word) (s : State) : (evtGdisWrite w v s).mem = s.mem := by
  simp [evtGdisWrite]

@[simp] theorem State.beginCHold_mem (s : State) (n : Nat) : (State.beginCHold s n).mem = s.mem := by
  simp [State.beginCHold]

@[simp] theorem eventStart_mem (s : State) : (eventStart s).mem = s.mem := by
  unfold eventStart; (try dsimp only); (repeat' (first | (refine (foldl_mem _ (fun s x => ?_) _ _).trans ?_) | (refine (upTo_mem _ _ (fun s x => ?_) _).trans ?_) | (split <;> (first | (rename_i hh; obtain ⟨rfl, -⟩ := Prod.ext_iff.1 hh) | (rename_i hh _; obtain ⟨rfl, -⟩ := Prod.ext_iff.1 hh) | skip)))) <;> (first | (simp; done) | (simp [*]; done) | (simp_all; done))

@[simp] theorem coalesceWindowEnd_mem (n : SourceId) (s : State) : (coalesceWindowEnd n s).mem = s.mem := by
  simp only [coalesceWindowEnd]; (repeat' split) <;> simp

@[simp] theorem classCHoldoffEnd_mem (g : EvtGroupId) (s : State) : (classCHoldoffEnd g s).mem = s.mem := by
  simp [classCHoldoffEnd]

@[simp] theorem classHHoldoffEnd_mem (g : EvtGroupId) (s : State) : (classHHoldoffEnd g s).mem = s.mem := by
  simp [classHHoldoffEnd]

@[simp] theorem evtClaimRead_mem (c : CoreId) (who : Requester) (s : State) : (evtClaimRead c who s).mem = s.mem := by
  simp [evtClaimRead]

/-! ### Machine/Packet.lean -/

@[simp] theorem State.unpend_mem (s : State) (c : Commit) : (State.unpend s c).mem = s.mem := by
  simp only [State.unpend]; (repeat' split) <;> simp

@[simp] theorem State.skipped_mem (s : State) (c : Commit) : (State.skipped s c).mem = s.mem := by
  simp [State.skipped]

@[simp] theorem State.setSlot_mem (s : State) (i : Nat) (x : Option Proposal) : (State.setSlot s i x).mem = s.mem := by
  simp [State.setSlot]

@[simp] theorem State.freePid_mem (s : State) (pid : Word) : (State.freePid s pid).mem = s.mem := by
  simp only [State.freePid]; (repeat' split) <;> simp

@[simp] theorem State.imageGone_mem (s : State) (p : Packet) : (State.imageGone s p).mem = s.mem := by
  simp [State.imageGone]

@[simp] theorem State.dropCommit_mem (s : State) (c : Commit) : (State.dropCommit s c).mem = s.mem := by
  simp only [State.dropCommit]; (repeat' split) <;> simp

@[simp] theorem State.lapse_mem (s : State) (i : Nat) (x : Proposal) : (State.lapse s i x).mem = s.mem := by
  simp [State.lapse]

@[simp] theorem State.dropDomain_mem (s : State) (d : Nat) : (State.dropDomain s d).mem = s.mem := by
  unfold State.dropDomain; (try dsimp only); (repeat' (first | (refine (foldl_mem _ (fun s x => ?_) _ _).trans ?_) | (refine (upTo_mem _ _ (fun s x => ?_) _).trans ?_) | (split <;> (first | (rename_i hh; obtain ⟨rfl, -⟩ := Prod.ext_iff.1 hh) | (rename_i hh _; obtain ⟨rfl, -⟩ := Prod.ext_iff.1 hh) | skip)))) <;> (first | (simp; done) | (simp [*]; done) | (simp_all; done))

/-! ### Machine/Domains.lean -/

@[simp] theorem State.modDom_mem (s : State) (d : Nat) (f : Dom → Dom) : (State.modDom s d f).mem = s.mem := by
  simp [State.modDom]

@[simp] theorem State.setDomState_mem (s : State) (d x : Nat) : (State.setDomState s d x).mem = s.mem := by
  simp [State.setDomState]

@[simp] theorem State.enterHoldover_mem (s : State) (d : Nat) : (State.enterHoldover s d).mem = s.mem := by
  simp [State.enterHoldover]

@[simp] theorem State.compare_mem (s : State) (d : Nat) (err : Int) : (State.compare s d err).mem = s.mem := by
  simp [State.compare]

@[simp] theorem State.seeSource_mem (s : State) (d : Nat) (v : SourceView) : (State.seeSource s d v).mem = s.mem := by
  simp only [State.seeSource]; (repeat' split) <;> simp

@[simp] theorem State.spallCut_mem (s : State) : (State.spallCut s).mem = s.mem := by
  simp [State.spallCut]

@[simp] theorem State.spallComplete_mem (s : State) (k : Nat) : (State.spallComplete s k).mem = s.mem := by
  simp [State.spallComplete]

@[simp] theorem State.spallTick_mem (s : State) (d : Nat) : (State.spallTick s d).mem = s.mem := by
  simp [State.spallTick]

@[simp] theorem State.spallCtlWrite_mem (s : State) (v : Word) : (State.spallCtlWrite s v).mem = s.mem := by
  simp [State.spallCtlWrite]

@[simp] theorem State.markAhead_mem (s : State) (d : Nat) : (State.markAhead s d).mem = s.mem := by
  unfold State.markAhead; (try dsimp only); (repeat' (first | (refine (foldl_mem _ (fun s x => ?_) _ _).trans ?_) | (refine (upTo_mem _ _ (fun s x => ?_) _).trans ?_) | (split <;> (first | (rename_i hh; obtain ⟨rfl, -⟩ := Prod.ext_iff.1 hh) | (rename_i hh _; obtain ⟨rfl, -⟩ := Prod.ext_iff.1 hh) | skip)))) <;> (first | (simp; done) | (simp [*]; done) | (simp_all; done))

@[simp] theorem State.takeGrain_mem (s : State) (d : Nat) (g : DWord) (stepped : Bool) (ns : Nat) : (State.takeGrain s d g stepped ns).mem = s.mem := by
  unfold State.takeGrain; (try dsimp only); (repeat' (first | (refine (foldl_mem _ (fun s x => ?_) _ _).trans ?_) | (refine (upTo_mem _ _ (fun s x => ?_) _).trans ?_) | (split <;> (first | (rename_i hh; obtain ⟨rfl, -⟩ := Prod.ext_iff.1 hh) | (rename_i hh _; obtain ⟨rfl, -⟩ := Prod.ext_iff.1 hh) | skip)))) <;> (first | (simp; done) | (simp [*]; done) | (simp_all; done))

@[simp] theorem State.boundary_mem (s : State) (d : Nat) (v : SourceView) (ns : Nat) : (State.boundary s d v ns).mem = s.mem := by
  simp [State.boundary]

@[simp] theorem domainLock_mem (d : DomId) (ns : SubNs) (s : State) : (domainLock d ns s).mem = s.mem := by
  simp [domainLock]

@[simp] theorem grainHoldover_mem (d : DomId) (v : SourceView) (ns : SubNs) (s : State) : (grainHoldover d v ns s).mem = s.mem := by
  simp only [grainHoldover]; (repeat' split) <;> simp

@[simp] theorem grainAcquireTimeout_mem (d : DomId) (s : State) : (grainAcquireTimeout d s).mem = s.mem := by
  simp [grainAcquireTimeout]

@[simp] theorem State.requestResync_mem (s : State) (d : Nat) : (State.requestResync s d).mem = s.mem := by
  simp [State.requestResync]

@[simp] theorem grainStep_mem (d : DomId) (ns : SubNs) (s : State) : (grainStep d ns s).mem = s.mem := by
  simp [grainStep]

@[simp] theorem State.alignGroups_mem (s : State) (d : Nat) : (State.alignGroups s d).mem = s.mem := by
  simp [State.alignGroups]

@[simp] theorem State.domOff_mem (s : State) (d : Nat) : (State.domOff s d).mem = s.mem := by
  simp [State.domOff]

@[simp] theorem State.rdCtlWrite_mem (s : State) (d : Nat) (v : Word) : (State.rdCtlWrite s d v).mem = s.mem := by
  simp [State.rdCtlWrite]

@[simp] theorem domainEnable_mem (d : DomId) (v : Word) (s : State) : (domainEnable d v s).mem = s.mem := by
  simp [domainEnable]

@[simp] theorem domainDisable_mem (d : DomId) (v : Word) (s : State) : (domainDisable d v s).mem = s.mem := by
  simp [domainDisable]

@[simp] theorem resync_mem (d : DomId) (s : State) : (resync d s).mem = s.mem := by
  simp [resync]

@[simp] theorem State.gcntRead_mem (s : State) (d : Nat) : (State.gcntRead s d).1.mem = s.mem := by
  simp [State.gcntRead]

@[simp] theorem State.btimeRead_mem (s : State) (d : Nat) : (State.btimeRead s d).1.mem = s.mem := by
  simp [State.btimeRead]

@[simp] theorem rdGcntRead_mem (d : DomId) (who : Requester) (s : State) : (rdGcntRead d who s).mem = s.mem := by
  simp [rdGcntRead]

@[simp] theorem rdBtimeRead_mem (d : DomId) (who : Requester) (s : State) : (rdBtimeRead d who s).mem = s.mem := by
  simp [rdBtimeRead]

end Sys2Proof.Machine
end

