-- ==== Sys2Proof/Laws/MemLinks.lean ====
section
/-! SUPPORT. What the operations and rows of the ports, the network and the chain do to the bytes of memory: `_mem` says that memory is as it was,
`_memWf` that its canonical form is kept. -/

namespace Sys2Proof.Machine

/-! ### Machine/Links.lean -/

@[simp] theorem State.sendFrame_mem (s : State) (p : Nat) (src dst : BitVec 8) (body : Frame) : (State.sendFrame s p src dst body).mem = s.mem := by
  simp [State.sendFrame]

@[simp] theorem State.sendOwn_mem (s : State) (p : Nat) (dst : BitVec 8) (body : Frame) : (State.sendOwn s p dst body).mem = s.mem := by
  simp [State.sendOwn]

@[simp] theorem State.sendPair_mem (s : State) (body : Frame) : (State.sendPair s body).mem = s.mem := by
  simp only [State.sendPair]; (repeat' split) <;> simp

@[simp] theorem State.sendTally_mem (s : State) (body : Frame) : (State.sendTally s body).mem = s.mem := by
  simp [State.sendTally]

@[simp] theorem State.sendThree_mem (s : State) (body : Frame) : (State.sendThree s body).mem = s.mem := by
  simp only [State.sendThree]; (repeat' split) <;> simp

@[simp] theorem State.sendNak_mem (s : State) (p : Nat) : (State.sendNak s p).mem = s.mem := by
  simp [State.sendNak]

@[simp] theorem State.ackSeen_mem (s : State) (p : Nat) (ack : BitVec 16) : (State.ackSeen s p ack).mem = s.mem := by
  unfold State.ackSeen; (try dsimp only); (repeat' (first | (refine (foldl_mem _ (fun s x => ?_) _ _).trans ?_) | (refine (upTo_mem _ _ (fun s x => ?_) _).trans ?_) | (split <;> (first | (rename_i hh; obtain ⟨rfl, -⟩ := Prod.ext_iff.1 hh) | (rename_i hh _; obtain ⟨rfl, -⟩ := Prod.ext_iff.1 hh) | skip)))) <;> (first | (simp; done) | (simp [*]; done) | (simp_all; done))

@[simp] theorem State.accept_mem (s : State) (p : Nat) (h : ChHdr) : (State.accept s p h).1.mem = s.mem := by
  simp [State.accept]

@[simp] theorem State.arrive_mem (s : State) (p : Nat) (h : ChHdr) (body : Frame) (f : State → State) (hf : ∀ s, (f s).mem = s.mem) : (State.arrive s p h body f).mem = s.mem := by
  unfold State.arrive; split <;> rename_i hh <;> obtain ⟨rfl, -⟩ := Prod.ext_iff.1 hh <;> (repeat' split) <;> simp [hf]

@[simp] theorem State.setPort_mem (s : State) (p x : Nat) : (State.setPort s p x).mem = s.mem := by
  simp [State.setPort]

@[simp] theorem State.exhaust_mem (s : State) (p : Nat) : (State.exhaust s p).mem = s.mem := by
  unfold State.exhaust; (try dsimp only); (repeat' (first | (refine (foldl_mem _ (fun s x => ?_) _ _).trans ?_) | (refine (upTo_mem _ _ (fun s x => ?_) _).trans ?_) | (split <;> (first | (rename_i hh; obtain ⟨rfl, -⟩ := Prod.ext_iff.1 hh) | (rename_i hh _; obtain ⟨rfl, -⟩ := Prod.ext_iff.1 hh) | skip)))) <;> (first | (simp; done) | (simp [*]; done) | (simp_all; done))

@[simp] theorem State.resend_mem (s : State) (p : Nat) : (State.resend s p).mem = s.mem := by
  simp [State.resend]

@[simp] theorem nak_mem (p : ChainPortId) (expected : BitVec 16) (s : State) : (nak p expected s).mem = s.mem := by
  simp [nak]

@[simp] theorem badFrame_mem (p : ChainPortId) (k : BadKind) (s : State) : (badFrame p k s).mem = s.mem := by
  unfold badFrame; (try dsimp only); (repeat' (first | (refine (foldl_mem _ (fun s x => ?_) _ _).trans ?_) | (refine (upTo_mem _ _ (fun s x => ?_) _).trans ?_) | (split <;> (first | (rename_i hh; obtain ⟨rfl, -⟩ := Prod.ext_iff.1 hh) | (rename_i hh _; obtain ⟨rfl, -⟩ := Prod.ext_iff.1 hh) | skip)))) <;> (first | (simp; done) | (simp [*]; done) | (simp_all; done))

@[simp] theorem retransmitTimeout_mem (p : ChainPortId) (s : State) : (retransmitTimeout p s).mem = s.mem := by
  simp [retransmitTimeout]

@[simp] theorem retryExhausted_mem (p : ChainPortId) (s : State) : (retryExhausted p s).mem = s.mem := by
  simp [retryExhausted]

@[simp] theorem portDelayMeasure_mem (p : ChainPortId) (roundTripCycles : BitVec 16) (s : State) : (portDelayMeasure p roundTripCycles s).mem = s.mem := by
  simp [portDelayMeasure]

@[simp] theorem partnerSignalDetect_mem (p : ChainPortId) (s : State) : (partnerSignalDetect p s).mem = s.mem := by
  simp [partnerSignalDetect]

@[simp] theorem State.modTwin_mem (s : State) (f : Twin → Twin) : (State.modTwin s f).mem = s.mem := by
  simp [State.modTwin]

@[simp] theorem State.twinEvent_mem (s : State) (src : Nat) : (State.twinEvent s src).mem = s.mem := by
  simp [State.twinEvent]

@[simp] theorem State.toTwState_mem (s : State) (x : Nat) : (State.toTwState s x).mem = s.mem := by
  simp [State.toTwState]

@[simp] theorem State.fenced_mem (s : State) (cause : Nat) : (State.fenced s cause).mem = s.mem := by
  simp [State.fenced]

@[simp] theorem State.mismatch_mem (s : State) : (State.mismatch s).mem = s.mem := by
  simp [State.mismatch]

@[simp] theorem State.silence_mem (s : State) (drill : Bool) : (State.silence s drill).mem = s.mem := by
  simp [State.silence]

/-! ### Machine/Ports.lean -/

@[simp] theorem State.setCgState_mem (s : State) (k x : Nat) : (State.setCgState s k x).mem = s.mem := by
  simp [State.setCgState]

@[simp] theorem State.modGroup_mem (s : State) (k : Nat) (f : Group → Group) : (State.modGroup s k f).mem = s.mem := by
  simp [State.modGroup]

@[simp] theorem State.portEvent_mem (s : State) (k e : Nat) : (State.portEvent s k e).mem = s.mem := by
  simp [State.portEvent]

@[simp] theorem State.cgCtlWrite_mem (s : State) (k : Nat) (v : Word) : (State.cgCtlWrite s k v).mem = s.mem := by
  simp [State.cgCtlWrite]

@[simp] theorem cgEnable_mem (k : GroupId) (v : Word) (s : State) : (cgEnable k v s).mem = s.mem := by
  simp [cgEnable]

@[simp] theorem cgDisable_mem (k : GroupId) (v : Word) (s : State) : (cgDisable k v s).mem = s.mem := by
  simp [cgDisable]

@[simp] theorem State.startFrame_mem (s : State) (k : Nat) (f : DWord) : (State.startFrame s k f).mem = s.mem := by
  simp [State.startFrame]

@[simp] theorem State.slip_mem (s : State) (k : Nat) : (State.slip s k).mem = s.mem := by
  simp [State.slip]

@[simp] theorem frameMark_mem (k : GroupId) (m : MarkObs) (f : DWord) (s : State) : (frameMark k m f s).mem = s.mem := by
  simp [frameMark]

@[simp] theorem bclkLoss_mem (k : GroupId) (s : State) : (bclkLoss k s).mem = s.mem := by
  simp [bclkLoss]

@[simp] theorem State.slipCheck_mem (s : State) (d : Nat) : (State.slipCheck s d).mem = s.mem := by
  simp [State.slipCheck]

@[simp] theorem State.slotmapWrite_mem (s : State) (g p w : Nat) (v : Word) : (State.slotmapWrite s g p w v).mem = s.mem := by
  unfold State.slotmapWrite; (try dsimp only); (repeat' (first | (refine (foldl_mem _ (fun s x => ?_) _ _).trans ?_) | (refine (upTo_mem _ _ (fun s x => ?_) _).trans ?_) | (split <;> (first | (rename_i hh; obtain ⟨rfl, -⟩ := Prod.ext_iff.1 hh) | (rename_i hh _; obtain ⟨rfl, -⟩ := Prod.ext_iff.1 hh) | skip)))) <;> (first | (simp; done) | (simp [*]; done) | (simp_all; done))

@[simp] theorem slotmapPageWrite_mem (g : PortGroupId) (page : Fin 2) (word : Fin 5120) (v : Word) (s : State) : (slotmapPageWrite g page word v s).mem = s.mem := by
  unfold slotmapPageWrite; (try dsimp only); (repeat' (first | (refine (foldl_mem _ (fun s x => ?_) _ _).trans ?_) | (refine (upTo_mem _ _ (fun s x => ?_) _).trans ?_) | (split <;> (first | (rename_i hh; obtain ⟨rfl, -⟩ := Prod.ext_iff.1 hh) | (rename_i hh _; obtain ⟨rfl, -⟩ := Prod.ext_iff.1 hh) | skip)))) <;> (first | (simp; done) | (simp [*]; done) | (simp_all; done))

@[simp] theorem State.changeover_mem (s : State) (k : Nat) : (State.changeover s k).mem = s.mem := by
  simp [State.changeover]

@[simp] theorem slotmapChangeover_mem (k : GroupId) (s : State) : (slotmapChangeover k s).mem = s.mem := by
  simp [slotmapChangeover]

@[simp] theorem State.slotmapApply_mem (s : State) (g : Nat) : (State.slotmapApply s g).mem = s.mem := by
  simp [State.slotmapApply]

@[simp] theorem State.setEgr_mem (s : State) (lane slot : Nat) (e : Egr) : (State.setEgr s lane slot e).mem = s.mem := by
  simp [State.setEgr]

@[simp] theorem State.egrDeliver_mem (s : State) (lane slot : Nat) (tag : BitVec 16) (v : Word) : (State.egrDeliver s lane slot tag v).mem = s.mem := by
  simp [State.egrDeliver]

@[simp] theorem State.slotAct_mem (s : State) (g lane slot : Nat) (raw stamp : Word) (e : Nat) : (State.slotAct s g lane slot raw stamp e).mem = s.mem := by
  simp [State.slotAct]

@[simp] theorem slotReceive_mem (lane : LaneId) (slot : SlotId) (raw : Word) (edge : Fin 400) (s : State) : (slotReceive lane slot raw edge s).mem = s.mem := by
  simp [slotReceive]

@[simp] theorem State.drive_mem (s : State) (lane slot p : Nat) (v : Word) : (State.drive s lane slot p v).mem = s.mem := by
  simp [State.drive]

@[simp] theorem State.fellBack_mem (s : State) (lane slot fb : Nat) (late : Bool) : (State.fellBack s lane slot fb late).mem = s.mem := by
  simp [State.fellBack]

@[simp] theorem State.tally_mem (s : State) (lane slot : Nat) (tag : BitVec 16) (v : Word) : (State.tally s lane slot tag v).mem = s.mem := by
  unfold State.tally; (try dsimp only); (repeat' (first | (refine (foldl_mem _ (fun s x => ?_) _ _).trans ?_) | (refine (upTo_mem _ _ (fun s x => ?_) _).trans ?_) | (split <;> (first | (rename_i hh; obtain ⟨rfl, -⟩ := Prod.ext_iff.1 hh) | (rename_i hh _; obtain ⟨rfl, -⟩ := Prod.ext_iff.1 hh) | skip)))) <;> (first | (simp; done) | (simp [*]; done) | (simp_all; done))

@[simp] theorem State.egrLoad_mem (s : State) (lane slot : Nat) (tag : BitVec 16) (fb : Nat) : (State.egrLoad s lane slot tag fb).1.mem = s.mem := by
  simp [State.egrLoad]

@[simp] theorem egressLoad_mem (lane : LaneId) (slot : SlotId) (f : DWord) (s : State) : (egressLoad lane slot f s).mem = s.mem := by
  simp only [egressLoad]; (repeat' split) <;> simp

@[simp] theorem State.sendStrm_mem (s : State) (dst : Nat) : (State.sendStrm s dst).mem = s.mem := by
  simp [State.sendStrm]

@[simp] theorem State.addStrm_mem (s : State) (dst : Nat) (x : StrmEntry) : (State.addStrm s dst x).mem = s.mem := by
  simp [State.addStrm]

@[simp] theorem strmFlush_mem (dst : BitVec 6) (s : State) : (strmFlush dst s).mem = s.mem := by
  simp [strmFlush]

@[simp] theorem State.deliverWord_mem (s : State) (x : EgrWord) : (State.deliverWord s x).mem = s.mem := by
  simp only [State.deliverWord]; (repeat' split) <;> simp

@[simp] theorem egressCarry_mem (w : WagonId) (ph : CarryPhase) (busy : Bool) (waited : BitVec 16) (s : State) : (egressCarry w ph busy waited s).mem = s.mem := by
  unfold egressCarry; (try dsimp only); (repeat' (first | (refine (foldl_mem _ (fun s x => ?_) _ _).trans ?_) | (refine (upTo_mem _ _ (fun s x => ?_) _).trans ?_) | (split <;> (first | (rename_i hh; obtain ⟨rfl, -⟩ := Prod.ext_iff.1 hh) | (rename_i hh _; obtain ⟨rfl, -⟩ := Prod.ext_iff.1 hh) | skip)))) <;> (first | (simp; done) | (simp [*]; done) | (simp_all; done))

/-! ### Machine/Net.lean -/

@[simp] theorem State.modEth_mem (s : State) (e : Nat) (f : EthPort → EthPort) : (State.modEth s e f).mem = s.mem := by
  simp [State.modEth]

@[simp] theorem State.ptpLost_mem (s : State) (e : Nat) : (State.ptpLost s e).mem = s.mem := by
  simp [State.ptpLost]

@[simp] theorem State.followPort_mem (s : State) (e : Nat) : (State.followPort s e).mem = s.mem := by
  simp [State.followPort]

@[simp] theorem State.setServo_mem (s : State) (e x : Nat) : (State.setServo s e x).mem = s.mem := by
  simp [State.setServo]

@[simp] theorem State.servoListen_mem (s : State) (e : Nat) : (State.servoListen s e).mem = s.mem := by
  simp [State.servoListen]

@[simp] theorem State.timeConfig_mem (s : State) (e : Nat) (proto : BitVec 64) : (State.timeConfig s e proto).mem = s.mem := by
  simp [State.timeConfig]

@[simp] theorem linkChange_mem (e : EthId) (up : Bool) (s : State) : (linkChange e up s).mem = s.mem := by
  simp [linkChange]

@[simp] theorem State.setGm_mem (s : State) (e : Nat) (gm : DWord) : (State.setGm s e gm).mem = s.mem := by
  simp [State.setGm]

@[simp] theorem State.syncSeen_mem (s : State) (e : Nat) (ofs : Int) (t : DWord) (ns : Nat) : (State.syncSeen s e ofs t ns).mem = s.mem := by
  simp [State.syncSeen]

@[simp] theorem State.ptpMsg_mem (s : State) (e : Nat) (dom : BitVec 8) (m : PtpMsg) (ns : Nat) : (State.ptpMsg s e dom m ns).mem = s.mem := by
  simp only [State.ptpMsg]; (repeat' split) <;> simp

@[simp] theorem syncTimeout_mem (e : EthId) (s : State) : (syncTimeout e s).mem = s.mem := by
  simp [syncTimeout]

@[simp] theorem State.setInstat_mem (s : State) (i : Nat) (x : Strm) : (State.setInstat s i x).mem = s.mem := by
  simp [State.setInstat]

@[simp] theorem State.setOutstat_mem (s : State) (i : Nat) (x : Strm) : (State.setOutstat s i x).mem = s.mem := by
  simp [State.setOutstat]

@[simp] theorem State.netLate_mem (s : State) (i g : Nat) : (State.netLate s i g).mem = s.mem := by
  simp [State.netLate]

@[simp] theorem State.netEarly_mem (s : State) (i g : Nat) : (State.netEarly s i g).mem = s.mem := by
  simp [State.netEarly]

@[simp] theorem State.netGap_mem (s : State) (i g : Nat) : (State.netGap s i g).mem = s.mem := by
  simp [State.netGap]

@[simp] theorem State.netSample_mem (s : State) (p i d : Nat) (r : Int) (ws : List Word) : (State.netSample s p i d r ws).mem = s.mem := by
  simp [State.netSample]

@[simp] theorem State.netPacket_mem (s : State) (p i : Nat) (rtp tv : Bool) (ts : Word) (portTime : DWord) (payload : List Byte) : (State.netPacket s p i rtp tv ts portTime payload).mem = s.mem := by
  simp [State.netPacket]

@[simp] theorem State.netFrame_mem (s : State) (port fmt key : Nat) (tv : Bool) (ts : Word) (portTime : DWord) (payload : List Byte) : (State.netFrame s port fmt key tv ts portTime payload).mem = s.mem := by
  simp only [State.netFrame]; (repeat' split) <;> simp

@[simp] theorem ethFrameReceive_mem (e : EthId) (len tags : Nat) (k : EthKind) (edge : NetEdge) (s : State) : (ethFrameReceive e len tags k edge s).mem = s.mem := by
  simp only [ethFrameReceive]; (repeat' split) <;> simp

@[simp] theorem State.netRelease1_mem (s : State) (g i : Nat) : (State.netRelease1 s g i).mem = s.mem := by
  simp only [State.netRelease1]; (repeat' split) <;> simp

@[simp] theorem State.netRelease_mem (s : State) (d g : Nat) : (State.netRelease s d g).mem = s.mem := by
  simp [State.netRelease]

@[simp] theorem State.restore_mem (s : State) (p : Nat) (x : Played) : (State.restore s p x).mem = s.mem := by
  unfold State.restore; (try dsimp only); (repeat' (first | (refine (foldl_mem _ (fun s x => ?_) _ _).trans ?_) | (refine (upTo_mem _ _ (fun s x => ?_) _).trans ?_) | (split <;> (first | (rename_i hh; obtain ⟨rfl, -⟩ := Prod.ext_iff.1 hh) | (rename_i hh _; obtain ⟨rfl, -⟩ := Prod.ext_iff.1 hh) | skip)))) <;> (first | (simp; done) | (simp [*]; done) | (simp_all; done))

@[simp] theorem State.netstreamApply_mem (s : State) (c : Commit) : (State.netstreamApply s c).mem = s.mem := by
  simp [State.netstreamApply]

@[simp] theorem State.setCredit_mem (s : State) (e t : Nat) (c : Int) (now : Nat) : (State.setCredit s e t c now).mem = s.mem := by
  simp [State.setCredit]

@[simp] theorem State.enqueue_mem (s : State) (e t : Nat) (x : TxItem) : (State.enqueue s e t x).mem = s.mem := by
  simp [State.enqueue]

@[simp] theorem State.sendPacket_mem (s : State) (i : Nat) (x : Prep) : (State.sendPacket s i x).mem = s.mem := by
  simp [State.sendPacket]

@[simp] theorem State.netLoad1_mem (s : State) (i e c : Nat) (g : DWord) : (State.netLoad1 s i e c g).1.mem = s.mem := by
  simp [State.netLoad1]

@[simp] theorem State.netLoadN_mem (s : State) (i e : Nat) (g : DWord) (n : Nat) : (s.netLoadN i e g n).1.mem = s.mem := by
  induction n with | zero => rfl | succ n ih => simp [State.netLoadN, ih]

@[simp] theorem State.netLoadStream_mem (s : State) (d : Nat) (g : DWord) (i : Nat) : (State.netLoadStream s d g i).mem = s.mem := by
  simp only [State.netLoadStream]; (repeat' split) <;> simp

@[simp] theorem netEgressLoad_mem (d : DomId) (s : State) : (netEgressLoad d s).mem = s.mem := by
  simp [netEgressLoad]

@[simp] theorem State.cbsWrite_mem (s : State) (e t : Nat) (v : Word) : (State.cbsWrite s e t v).mem = s.mem := by
  simp [State.cbsWrite]

@[simp] theorem State.gclWrite_mem (s : State) (e : Nat) (v : Word) : (State.gclWrite s e v).mem = s.mem := by
  simp [State.gclWrite]

@[simp] theorem gateListSwitch_mem (e : EthId) (edge : NetEdge) (s : State) : (gateListSwitch e edge s).mem = s.mem := by
  simp [gateListSwitch]

@[simp] theorem State.gateWrite_mem (s : State) (e i : Nat) (v : Word) : (State.gateWrite s e i v).mem = s.mem := by
  simp [State.gateWrite]

@[simp] theorem State.pctlWrite_mem (s : State) (e : Nat) (v : Word) : (State.pctlWrite s e v).mem = s.mem := by
  simp [State.pctlWrite]

@[simp] theorem State.netCtlWrite_mem (s : State) (v : Word) : (State.netCtlWrite s v).mem = s.mem := by
  simp [State.netCtlWrite]

@[simp] theorem State.utimeRead_mem (s : State) : (State.utimeRead s).1.mem = s.mem := by
  simp [State.utimeRead]

@[simp] theorem netUtimeRead_mem (who : Requester) (s : State) : (netUtimeRead who s).mem = s.mem := by
  simp [netUtimeRead]

/-! ### Machine/Chain.lean -/

@[simp] theorem State.modChain_mem (s : State) (f : Chain → Chain) : (State.modChain s f).mem = s.mem := by
  simp [State.modChain]

@[simp] theorem State.sendToken_mem (s : State) : (State.sendToken s).mem = s.mem := by
  simp [State.sendToken]

@[simp] theorem State.enumError_mem (s : State) (bit : Nat) : (State.enumError s bit).mem = s.mem := by
  simp [State.enumError]

@[simp] theorem State.takeIndex_mem (s : State) (i : Nat) : (State.takeIndex s i).mem = s.mem := by
  simp [State.takeIndex]

@[simp] theorem State.tokenSeen_mem (s : State) (next : Nat) (ovf : Bool) : (State.tokenSeen s next ovf).mem = s.mem := by
  simp only [State.tokenSeen]; (repeat' split) <;> simp

@[simp] theorem State.tokenBack_mem (s : State) (next : BitVec 8) (ovf : Bool) : (State.tokenBack s next ovf).mem = s.mem := by
  simp [State.tokenBack]

@[simp] theorem enumToken_mem (h : ChHdr) (next : BitVec 8) (ovf : Bool) (s : State) : (enumToken h next ovf s).mem = s.mem := by
  simp [enumToken]

@[simp] theorem enumDone_mem (h : ChHdr) (count : BitVec 8) (ovf : Bool) (s : State) : (enumDone h count ovf s).mem = s.mem := by
  simp [enumDone]

@[simp] theorem State.requestSeen_mem (s : State) : (State.requestSeen s).mem = s.mem := by
  simp [State.requestSeen]

@[simp] theorem enumRequest_mem (h : ChHdr) (s : State) : (enumRequest h s).mem = s.mem := by
  simp [enumRequest]

@[simp] theorem State.enumWrite_mem (s : State) : (State.enumWrite s).mem = s.mem := by
  simp [State.enumWrite]

@[simp] theorem chainPortUp_mem (p : ChainPortId) (roundTripNs : Nat) (s : State) : (chainPortUp p roundTripNs s).mem = s.mem := by
  simp [chainPortUp]

@[simp] theorem chainPortDown_mem (p : ChainPortId) (s : State) : (chainPortDown p s).mem = s.mem := by
  simp [chainPortDown]

@[simp] theorem State.chCtlWrite_mem (s : State) (v : Word) : (State.chCtlWrite s v).mem = s.mem := by
  simp [State.chCtlWrite]

@[simp] theorem State.takeMark_mem (s : State) (d : Nat) (grain : DWord) (at_ : Int) : (State.takeMark s d grain at_).mem = s.mem := by
  unfold State.takeMark; (try dsimp only); (repeat' (first | (refine (foldl_mem _ (fun s x => ?_) _ _).trans ?_) | (refine (upTo_mem _ _ (fun s x => ?_) _).trans ?_) | (split <;> (first | (rename_i hh; obtain ⟨rfl, -⟩ := Prod.ext_iff.1 hh) | (rename_i hh _; obtain ⟨rfl, -⟩ := Prod.ext_iff.1 hh) | skip)))) <;> (first | (simp; done) | (simp [*]; done) | (simp_all; done))

@[simp] theorem mark_mem (h : ChHdr) (dom : DomId) (grain : DWord) (resNs : Word) (ns : SubNs) (s : State) : (mark h dom grain resNs ns s).mem = s.mem := by
  simp [mark]

@[simp] theorem State.sendMark_mem (s : State) (d : Nat) (resNs : Word) : (State.sendMark s d resNs).mem = s.mem := by
  simp [State.sendMark]

@[simp] theorem State.chLate_mem (s : State) (i g : Nat) : (State.chLate s i g).mem = s.mem := by
  simp [State.chLate]

@[simp] theorem State.chGap_mem (s : State) (i g : Nat) : (State.chGap s i g).mem = s.mem := by
  simp [State.chGap]

@[simp] theorem State.chStore_mem (s : State) (p i chan r : Nat) (v : Word) : (State.chStore s p i chan r v).mem = s.mem := by
  unfold State.chStore; (try dsimp only); (repeat' (first | (refine (foldl_mem _ (fun s x => ?_) _ _).trans ?_) | (refine (upTo_mem _ _ (fun s x => ?_) _).trans ?_) | (split <;> (first | (rename_i hh; obtain ⟨rfl, -⟩ := Prod.ext_iff.1 hh) | (rename_i hh _; obtain ⟨rfl, -⟩ := Prod.ext_iff.1 hh) | skip)))) <;> (first | (simp; done) | (simp [*]; done) | (simp_all; done))

@[simp] theorem State.chWord_mem (s : State) (p i : Nat) (x : StrmEntry) : (State.chWord s p i x).mem = s.mem := by
  simp [State.chWord]

@[simp] theorem State.strmSeen_mem (s : State) (src : BitVec 8) (es : List StrmEntry) : (State.strmSeen s src es).mem = s.mem := by
  simp [State.strmSeen]

@[simp] theorem strm_mem (h : ChHdr) (es : List StrmEntry) (s : State) : (strm h es s).mem = s.mem := by
  simp [strm]

@[simp] theorem State.chRelease1_mem (s : State) (g i : Nat) : (State.chRelease1 s g i).mem = s.mem := by
  unfold State.chRelease1; (try dsimp only); (repeat' (first | (refine (foldl_mem _ (fun s x => ?_) _ _).trans ?_) | (refine (upTo_mem _ _ (fun s x => ?_) _).trans ?_) | (split <;> (first | (rename_i hh; obtain ⟨rfl, -⟩ := Prod.ext_iff.1 hh) | (rename_i hh _; obtain ⟨rfl, -⟩ := Prod.ext_iff.1 hh) | skip)))) <;> (first | (simp; done) | (simp [*]; done) | (simp_all; done))

@[simp] theorem State.chRelease_mem (s : State) (d g : Nat) : (State.chRelease s d g).mem = s.mem := by
  simp [State.chRelease]

@[simp] theorem State.chRestore_mem (s : State) (p : Nat) (x : Nat × Nat × Nat × Word) : (State.chRestore s p x).mem = s.mem := by
  unfold State.chRestore; (try dsimp only); (repeat' (first | (refine (foldl_mem _ (fun s x => ?_) _ _).trans ?_) | (refine (upTo_mem _ _ (fun s x => ?_) _).trans ?_) | (split <;> (first | (rename_i hh; obtain ⟨rfl, -⟩ := Prod.ext_iff.1 hh) | (rename_i hh _; obtain ⟨rfl, -⟩ := Prod.ext_iff.1 hh) | skip)))) <;> (first | (simp; done) | (simp [*]; done) | (simp_all; done))

@[simp] theorem State.chainstreamApply_mem (s : State) : (State.chainstreamApply s).mem = s.mem := by
  simp [State.chainstreamApply]

@[simp] theorem State.setEpoch_mem (s : State) (e : Word) : (State.setEpoch s e).mem = s.mem := by
  simp [State.setEpoch]

@[simp] theorem State.higherEpoch_mem (s : State) (epoch : Word) : (State.higherEpoch s epoch).mem = s.mem := by
  simp [State.higherEpoch]

@[simp] theorem State.hbSeen_mem (s : State) (state : BitVec 3) (epoch : Word) (grain : DWord) : (State.hbSeen s state epoch grain).mem = s.mem := by
  simp [State.hbSeen]

@[simp] theorem hb_mem (p : ChainPortId) (h : ChHdr) (state : BitVec 3) (drv : Bool) (epoch : Word) (grain : DWord) (s : State) : (hb p h state drv epoch grain s).mem = s.mem := by
  simp [hb]

@[simp] theorem State.takeSeen_mem (s : State) (epoch : Word) : (State.takeSeen s epoch).mem = s.mem := by
  simp [State.takeSeen]

@[simp] theorem take_mem (p : ChainPortId) (h : ChHdr) (epoch : Word) (grain : DWord) (s : State) : (take p h epoch grain s).mem = s.mem := by
  simp [take]

@[simp] theorem fenceFrame_mem (p : ChainPortId) (h : ChHdr) (cause : BitVec 8) (epoch : Word) (grain : DWord) (s : State) : (fenceFrame p h cause epoch grain s).mem = s.mem := by
  simp [fenceFrame]

@[simp] theorem State.takeOver_mem (s : State) (n : DWord) : (State.takeOver s n).mem = s.mem := by
  simp [State.takeOver]

@[simp] theorem State.sendHb_mem (s : State) (g : DWord) : (State.sendHb s g).mem = s.mem := by
  simp [State.sendHb]

@[simp] theorem State.dropDigests_mem (s : State) (n : Nat) : (State.dropDigests s n).mem = s.mem := by
  simp [State.dropDigests]

@[simp] theorem State.joinCount_mem (s : State) (n : Nat) : (State.joinCount s n).mem = s.mem := by
  simp [State.joinCount]

@[simp] theorem State.pairStart_mem (s : State) (n : DWord) : (State.pairStart s n).mem = s.mem := by
  simp [State.pairStart]

@[simp] theorem silencedRelease_mem (s : State) : (silencedRelease s).mem = s.mem := by
  simp only [silencedRelease]; (repeat' split) <;> simp

@[simp] theorem twinDriveOn_mem (s : State) : (twinDriveOn s).mem = s.mem := by
  simp [twinDriveOn]

@[simp] theorem State.tsampSeen_mem (s : State) (es : List TSample) : (State.tsampSeen s es).mem = s.mem := by
  simp [State.tsampSeen]

@[simp] theorem tsamp_mem (p : ChainPortId) (h : ChHdr) (es : List TSample) (s : State) : (tsamp p h es s).mem = s.mem := by
  simp [tsamp]

@[simp] theorem State.compareDigests_mem (s : State) (k : Nat) : (State.compareDigests s k).mem = s.mem := by
  simp only [State.compareDigests]; (repeat' split) <;> simp

@[simp] theorem tdig_mem (p : ChainPortId) (h : ChHdr) (b : BenchId) (grain : DWord) (digs : List Word) (s : State) : (tdig p h b grain digs s).mem = s.mem := by
  simp [tdig]

end Sys2Proof.Machine
end

