-- ==== Sys2Proof/Laws/MemHost.lean ====
section
/-! SUPPORT. What the operations and rows of the host interface, Fathom, the far memory and the DMA sequencers do to the bytes of memory: `_mem` says that memory is as it was,
`_memWf` that its canonical form is kept. -/

namespace Sys2Proof.Machine

/-! ### Machine/ResetBase.lean -/

@[simp] theorem State.strapped_mem (s : State) : (State.strapped s).mem = s.mem := by
  simp [State.strapped]

@[simp] theorem State.unitReset_memWf (s : State) (cause issuer : Nat) (hw : Memory.wf s.mem = true) : Memory.wf (State.unitReset s cause issuer).mem = true := by
  simp [State.unitReset, *]

@[simp] theorem State.powerOn_mem (s : State) (straps : Word) : (s.powerOn straps).mem = [] := by
  simp [State.powerOn, State.reset]

/-! ### Machine/Queues.lean -/

@[simp] theorem State.setQState_mem (s : State) (q x : Nat) : (State.setQState s q x).mem = s.mem := by
  simp [State.setQState]

@[simp] theorem State.setQErr_mem (s : State) (q e : Nat) : (State.setQErr s q e).mem = s.mem := by
  simp [State.setQErr]

@[simp] theorem State.seqClear_mem (s : State) (q : Nat) : (State.seqClear s q).mem = s.mem := by
  simp [State.seqClear]

@[simp] theorem State.qEnable_mem (s : State) (q : Nat) : (State.qEnable s q).mem = s.mem := by
  simp [State.qEnable]

@[simp] theorem State.qDisable_mem (s : State) (q : Nat) : (State.qDisable s q).1.mem = s.mem := by
  simp [State.qDisable]

@[simp] theorem State.qCtlWrite_mem (s : State) (fn q : Nat) (v : Word) : (State.qCtlWrite s fn q v).1.mem = s.mem := by
  simp [State.qCtlWrite]

@[simp] theorem State.qWrite_mem (s : State) (fn q off : Nat) (v : Word) : (State.qWrite s fn q off v).1.mem = s.mem := by
  simp [State.qWrite]

@[simp] theorem State.msix_mem (s : State) (f v : Nat) : (State.msix s f v).mem = s.mem := by
  simp [State.msix]

@[simp] theorem State.msixCtlWrite_mem (s : State) (f v : Nat) (x : Word) : (State.msixCtlWrite s f v x).mem = s.mem := by
  simp [State.msixCtlWrite]

@[simp] theorem State.qWrote_mem (s : State) (q n : Nat) : (State.qWrote s q n).mem = s.mem := by
  simp [State.qWrote]

@[simp] theorem State.signal_mem (s : State) (q : Nat) : (State.signal s q).mem = s.mem := by
  simp [State.signal]

@[simp] theorem queueSignal_mem (q : QueueId) (s : State) : (queueSignal q s).mem = s.mem := by
  simp [queueSignal]

@[simp] theorem State.dbRefused_mem (s : State) (q f : Nat) : (State.dbRefused s q f).mem = s.mem := by
  simp [State.dbRefused]

@[simp] theorem State.ring_mem (s : State) (q f i : Nat) : (State.ring s q f i).mem = s.mem := by
  unfold State.ring; (try dsimp only); (repeat' (first | (refine (foldl_mem _ (fun s x => ?_) _ _).trans ?_) | (refine (upTo_mem _ _ (fun s x => ?_) _).trans ?_) | (split <;> (first | (rename_i hh; obtain ⟨rfl, -⟩ := Prod.ext_iff.1 hh) | (rename_i hh _; obtain ⟨rfl, -⟩ := Prod.ext_iff.1 hh) | skip)))) <;> (first | (simp; done) | (simp [*]; done) | (simp_all; done))

@[simp] theorem doorbell_mem (q : QueueId) (f : FnId) (a : DbAcc) (s : State) : (doorbell q f a s).mem = s.mem := by
  unfold doorbell; (try dsimp only); (repeat' (first | (refine (foldl_mem _ (fun s x => ?_) _ _).trans ?_) | (refine (upTo_mem _ _ (fun s x => ?_) _).trans ?_) | (split <;> (first | (rename_i hh; obtain ⟨rfl, -⟩ := Prod.ext_iff.1 hh) | (rename_i hh _; obtain ⟨rfl, -⟩ := Prod.ext_iff.1 hh) | skip)))) <;> (first | (simp; done) | (simp [*]; done) | (simp_all; done))

@[simp] theorem State.qAdvance_mem (s : State) (q : Nat) : (State.qAdvance s q).mem = s.mem := by
  simp [State.qAdvance]

@[simp] theorem State.holdDone_mem (s : State) : (State.holdDone s).mem = s.mem := by
  unfold State.holdDone; (try dsimp only); (repeat' (first | (refine (foldl_mem _ (fun s x => ?_) _ _).trans ?_) | (refine (upTo_mem _ _ (fun s x => ?_) _).trans ?_) | (split <;> (first | (rename_i hh; obtain ⟨rfl, -⟩ := Prod.ext_iff.1 hh) | (rename_i hh _; obtain ⟨rfl, -⟩ := Prod.ext_iff.1 hh) | skip)))) <;> (first | (simp; done) | (simp [*]; done) | (simp_all; done))

@[simp] theorem State.sendDone_mem (s : State) (d : Done) : (State.sendDone s d).mem = s.mem := by
  simp only [State.sendDone]; (repeat' split) <;> simp

@[simp] theorem State.dropFrames_mem (s : State) (p : Nat → Bool) : (State.dropFrames s p).mem = s.mem := by
  unfold State.dropFrames; (try dsimp only); (repeat' (first | (refine (foldl_mem _ (fun s x => ?_) _ _).trans ?_) | (refine (upTo_mem _ _ (fun s x => ?_) _).trans ?_) | (split <;> (first | (rename_i hh; obtain ⟨rfl, -⟩ := Prod.ext_iff.1 hh) | (rename_i hh _; obtain ⟨rfl, -⟩ := Prod.ext_iff.1 hh) | skip)))) <;> (first | (simp; done) | (simp [*]; done) | (simp_all; done))

@[simp] theorem State.writeBack_mem (s : State) (q : Nat) (w : StreamWb) : (State.writeBack s q w).mem = s.mem := by
  unfold State.writeBack; (try dsimp only); (repeat' (first | (refine (foldl_mem _ (fun s x => ?_) _ _).trans ?_) | (refine (upTo_mem _ _ (fun s x => ?_) _).trans ?_) | (split <;> (first | (rename_i hh; obtain ⟨rfl, -⟩ := Prod.ext_iff.1 hh) | (rename_i hh _; obtain ⟨rfl, -⟩ := Prod.ext_iff.1 hh) | skip)))) <;> (first | (simp; done) | (simp [*]; done) | (simp_all; done))

@[simp] theorem State.streamBack_mem (s : State) (q : Nat) (w : StreamWb) : (State.streamBack s q w).mem = s.mem := by
  simp [State.streamBack]

@[simp] theorem State.flushBacks_mem (s : State) (q : Nat) : (State.flushBacks s q).mem = s.mem := by
  unfold State.flushBacks; (try dsimp only); (repeat' (first | (refine (foldl_mem _ (fun s x => ?_) _ _).trans ?_) | (refine (upTo_mem _ _ (fun s x => ?_) _).trans ?_) | (split <;> (first | (rename_i hh; obtain ⟨rfl, -⟩ := Prod.ext_iff.1 hh) | (rename_i hh _; obtain ⟨rfl, -⟩ := Prod.ext_iff.1 hh) | skip)))) <;> (first | (simp; done) | (simp [*]; done) | (simp_all; done))

@[simp] theorem State.ifrst_mem (s : State) (f : Nat) : (State.ifrst s f).mem = s.mem := by
  simp [State.ifrst]

@[simp] theorem State.ifrstWrite_mem (s : State) (f : Nat) (v : Word) : (State.ifrstWrite s f v).mem = s.mem := by
  simp [State.ifrstWrite]

@[simp] theorem State.msixClear_mem (s : State) (f : Nat) : (State.msixClear s f).mem = s.mem := by
  simp [State.msixClear]

@[simp] theorem State.flr_mem (s : State) (f : Nat) : (State.flr s f).mem = s.mem := by
  simp [State.flr]

@[simp] theorem ifrstDone_mem (f : FnId) (bme : Bool) (s : State) : (ifrstDone f bme s).mem = s.mem := by
  simp [ifrstDone]

@[simp] theorem State.setLink_mem (s : State) (rate width : Nat) (flit : Bool) : (State.setLink s rate width flit).mem = s.mem := by
  simp [State.setLink]

@[simp] theorem linkState_mem (rate : BitVec 3) (width : BitVec 5) (flit bme0 bme1 : Bool) (s : State) : (linkState rate width flit bme0 bme1 s).mem = s.mem := by
  simp [linkState]

@[simp] theorem perstNAssert_mem (s : State) : (perstNAssert s).mem = s.mem := by
  simp [perstNAssert]

@[simp] theorem perstNRelease_mem (s : State) : (perstNRelease s).mem = s.mem := by
  simp [perstNRelease]

@[simp] theorem State.writeRecord_mem (s : State) : (State.writeRecord s).mem = s.mem := by
  simp only [State.writeRecord]; (repeat' split) <;> simp

@[simp] theorem State.pmeCheck_mem (s : State) (f : Nat) : (State.pmeCheck s f).mem = s.mem := by
  simp [State.pmeCheck]

@[simp] theorem d3hotEntry_mem (f : FnId) (pmeEn : Bool) (s : State) : (d3hotEntry f pmeEn s).mem = s.mem := by
  simp [d3hotEntry]

@[simp] theorem State.pmeAgain_mem (s : State) (f : Nat) : (State.pmeAgain s f).mem = s.mem := by
  simp [State.pmeAgain]

@[simp] theorem pmeResend_mem (f : FnId) (s : State) : (pmeResend f s).mem = s.mem := by
  simp [pmeResend]

@[simp] theorem State.writeDone_mem (s : State) : (State.writeDone s).1.mem = s.mem := by
  simp only [State.writeDone]; (repeat' split) <;> simp

@[simp] theorem d0Return_mem (f : FnId) (s : State) : (d0Return f s).mem = s.mem := by
  unfold d0Return; (try dsimp only); (repeat' (first | (refine (foldl_mem _ (fun s x => ?_) _ _).trans ?_) | (refine (upTo_mem _ _ (fun s x => ?_) _).trans ?_) | (split <;> (first | (rename_i hh; obtain ⟨rfl, -⟩ := Prod.ext_iff.1 hh) | (rename_i hh _; obtain ⟨rfl, -⟩ := Prod.ext_iff.1 hh) | skip)))) <;> (first | (simp; done) | (simp [*]; done) | (simp_all; done))

@[simp] theorem queueDrained_mem (q : QueueId) (s : State) : (queueDrained q s).mem = s.mem := by
  simp [queueDrained]

@[simp] theorem queueError_mem (q : QueueId) (e : HostErr) (s : State) : (queueError q e s).mem = s.mem := by
  simp [queueError]

@[simp] theorem queueEnableWrite_mem (q : QueueId) (f : FnId) (v : Word) (s : State) : (queueEnableWrite q f v s).mem = s.mem := by
  simp [queueEnableWrite]

@[simp] theorem queueDisableWrite_mem (q : QueueId) (f : FnId) (v : Word) (s : State) : (queueDisableWrite q f v s).mem = s.mem := by
  simp [queueDisableWrite]

@[simp] theorem seqclr_mem (q : QueueId) (f : FnId) (s : State) : (seqclr q f s).mem = s.mem := by
  simp [seqclr]

/-! ### Machine/FathomEng.lean -/

@[simp] theorem State.modFth_mem (s : State) (b : Nat) (f : Fathom → Fathom) : (State.modFth s b f).mem = s.mem := by
  simp [State.modFth]

@[simp] theorem State.fthEvent_mem (s : State) (b e obj : Nat) : (State.fthEvent s b e obj).mem = s.mem := by
  simp [State.fthEvent]

@[simp] theorem State.fthOwner_mem (s : State) (b obj : Nat) : (State.fthOwner s b obj).mem = s.mem := by
  simp [State.fthOwner]

@[simp] theorem State.fthStray_mem (s : State) (b a obj : Nat) : (State.fthStray s b a obj).mem = s.mem := by
  unfold State.fthStray; (try dsimp only); (repeat' (first | (refine (foldl_mem _ (fun s x => ?_) _ _).trans ?_) | (refine (upTo_mem _ _ (fun s x => ?_) _).trans ?_) | (split <;> (first | (rename_i hh; obtain ⟨rfl, -⟩ := Prod.ext_iff.1 hh) | (rename_i hh _; obtain ⟨rfl, -⟩ := Prod.ext_iff.1 hh) | skip)))) <;> (first | (simp; done) | (simp [*]; done) | (simp_all; done))

@[simp] theorem State.fthRead_mem (s : State) (b a n obj : Nat) : (State.fthRead s b a n obj).1.mem = s.mem := by
  unfold State.fthRead; (try dsimp only); (repeat' (split <;> (try (rename_i hh; obtain ⟨rfl, -⟩ := Prod.ext_iff.1 hh)))) <;> (first | (simp; done) | (simp [*]; done) | (simp_all; done))

@[simp] theorem State.fthWrite_memWf (s : State) (b a : Nat) (v : Word) (obj : Nat) (hw : Memory.wf s.mem = true) : Memory.wf (State.fthWrite s b a v obj).mem = true := by
  unfold State.fthWrite; (try dsimp only); (repeat' (first | (refine foldl_memWf _ (fun s x hw => ?_) _ _ ?_) | (refine upTo_memWf _ _ (fun s x hw => ?_) _ ?_) | (split <;> (first | (rename_i hh; obtain ⟨rfl, -⟩ := Prod.ext_iff.1 hh) | (rename_i hh _; obtain ⟨rfl, -⟩ := Prod.ext_iff.1 hh) | skip)))) <;> simp (maxDischargeDepth := 12) (contextual := true) [*]

@[simp] theorem State.fthFeed_memWf (s : State) (b p g : Nat) (is : List Nat) (hw : Memory.wf s.mem = true) : Memory.wf (s.fthFeed b p g is).mem = true := by
  induction is generalizing s with
  | nil => simpa [State.fthFeed] using hw
  | cons i is ih =>
    unfold State.fthFeed; dsimp only
    split
    · simpa using hw
    · exact ih _ (State.fthWrite_memWf _ _ _ _ _ (by simpa using hw))

@[simp] theorem State.fthBegin_memWf (s : State) (b : Nat) (g : DWord) (late : Bool) (hw : Memory.wf s.mem = true) : Memory.wf (s.fthBegin b g late).mem = true := by
  unfold State.fthBegin; dsimp only; apply State.fthFeed_memWf; simpa using hw

@[simp] theorem State.fthStop_mem (s : State) (b : Nat) : (State.fthStop s b).mem = s.mem := by
  simp [State.fthStop]

@[simp] theorem State.fthEnd_memWf (s : State) (b : Nat) (hw : Memory.wf s.mem = true) : Memory.wf (s.fthEnd b).mem = true := by
  unfold State.fthEnd; (repeat' split) <;> simp [hw]

@[simp] theorem State.fthMiss_mem (s : State) (b p i : Nat) : (State.fthMiss s b p i).mem = s.mem := by
  simp [State.fthMiss]

@[simp] theorem State.fthLate_mem (s : State) (b : Nat) : (State.fthLate s b).mem = s.mem := by
  unfold State.fthLate; (try dsimp only); (repeat' (first | (refine (foldl_mem _ (fun s x => ?_) _ _).trans ?_) | (refine (upTo_mem _ _ (fun s x => ?_) _).trans ?_) | (split <;> (first | (rename_i hh; obtain ⟨rfl, -⟩ := Prod.ext_iff.1 hh) | (rename_i hh _; obtain ⟨rfl, -⟩ := Prod.ext_iff.1 hh) | skip)))) <;> (first | (simp; done) | (simp [*]; done) | (simp_all; done))

@[simp] theorem State.fthGrain_memWf (s : State) (b : Nat) (g : DWord) (hw : Memory.wf s.mem = true) : Memory.wf (s.fthGrain b g).mem = true := by
  unfold State.fthGrain; dsimp only; (repeat' split) <;> simp [hw]

@[simp] theorem State.tapPoints_mem (s : State) (b e n g obj : Nat) : (State.tapPoints s b e n g obj).1.mem = s.mem := by
  simp [State.tapPoints]

@[simp] theorem State.tap_mem (s : State) (b p d obj : Nat) : (State.tap s b p d obj).mem = s.mem := by
  simp [State.tap]

@[simp] theorem State.tapGroup_memWf (s : State) (b p n i : Nat) (hw : Memory.wf s.mem = true) : Memory.wf (s.tapGroup b p n i).mem = true := by
  induction n generalizing s i with
  | zero => exact hw
  | succ n ih =>
    unfold State.tapGroup; dsimp only
    (repeat' split) <;> simp [ih, hw]

@[simp] theorem fathomGroupIssue_memWf (b : BenchId) (s : State) (hw : Memory.wf s.mem = true) : Memory.wf (fathomGroupIssue b s).mem = true := by
  unfold fathomGroupIssue; dsimp only
  apply State.within_memWf _ _ _ hw
  (repeat' split) <;> simp [hw]

@[simp] theorem State.fthComplete_memWf (s : State) (b cycle : Nat) (hw : Memory.wf s.mem = true) : Memory.wf (s.fthComplete b cycle).mem = true := by
  simp [State.fthComplete, hw]

@[simp] theorem fathomOutput_memWf (b : BenchId) (cycle : BitVec 16) (s : State) (hw : Memory.wf s.mem = true) : Memory.wf (fathomOutput b cycle s).mem = true := by
  unfold fathomOutput; dsimp only
  apply State.within_memWf _ _ _ hw
  (repeat' split) <;> simp [hw]

@[simp] theorem fathomDeadline_mem (b : BenchId) (s : State) : (fathomDeadline b s).mem = s.mem := by
  simp [fathomDeadline]

@[simp] theorem State.fthWriteReg_mem (s : State) (b o : Nat) (v : Word) : (State.fthWriteReg s b o v).mem = s.mem := by
  unfold State.fthWriteReg; (try dsimp only); (repeat' (first | (refine (foldl_mem _ (fun s x => ?_) _ _).trans ?_) | (refine (upTo_mem _ _ (fun s x => ?_) _).trans ?_) | (split <;> (first | (rename_i hh; obtain ⟨rfl, -⟩ := Prod.ext_iff.1 hh) | (rename_i hh _; obtain ⟨rfl, -⟩ := Prod.ext_iff.1 hh) | skip)))) <;> (first | (simp; done) | (simp [*]; done) | (simp_all; done))

@[simp] theorem fathomPageWrite_mem (b : BenchId) (off : BitVec 16) (v : Word) (s : State) : (fathomPageWrite b off v s).mem = s.mem := by
  unfold fathomPageWrite; (try dsimp only); (repeat' (first | (refine (foldl_mem _ (fun s x => ?_) _ _).trans ?_) | (refine (upTo_mem _ _ (fun s x => ?_) _).trans ?_) | (split <;> (first | (rename_i hh; obtain ⟨rfl, -⟩ := Prod.ext_iff.1 hh) | (rename_i hh _; obtain ⟨rfl, -⟩ := Prod.ext_iff.1 hh) | skip)))) <;> (first | (simp; done) | (simp [*]; done) | (simp_all; done))

@[simp] theorem State.taplistApply_mem (s : State) (b : Nat) : (State.taplistApply s b).mem = s.mem := by
  simp [State.taplistApply]

/-! ### Machine/Validate.lean -/

@[simp] theorem State.smReport_mem (s : State) (g : Nat) (r : Option TabErr) : (State.smReport s g r).mem = s.mem := by
  simp only [State.smReport]; (repeat' split) <;> simp

@[simp] theorem State.rtReport_mem (s : State) (r : Option TabErr) : (State.rtReport s r).mem = s.mem := by
  simp only [State.rtReport]; (repeat' split) <;> simp

@[simp] theorem State.tapReport_mem (s : State) (b : Nat) (r : Option TabErr) : (State.tapReport s b r).mem = s.mem := by
  simp only [State.tapReport]; (repeat' split) <;> simp

@[simp] theorem State.netReport_mem (s : State) (r : Option (Nat × TabErr)) : (State.netReport s r).mem = s.mem := by
  simp only [State.netReport]; (repeat' split) <;> simp

@[simp] theorem State.chReport_mem (s : State) (r : Option (Nat × TabErr)) : (State.chReport s r).mem = s.mem := by
  simp only [State.chReport]; (repeat' split) <;> simp

/-! ### Machine/Far.lean -/

@[simp] theorem State.farEcc_mem (s : State) (a : Nat) : (State.farEcc s a).mem = s.mem := by
  simp [State.farEcc]

@[simp] theorem State.farRead_mem (s : State) (who a n : Nat) : (State.farRead s who a n).1.mem = s.mem := by
  simp [State.farRead]

@[simp] theorem State.farWrite_memWf (s : State) (who a : Nat) (bs : List Byte) (hw : Memory.wf s.mem = true) : Memory.wf (State.farWrite s who a bs).mem = true := by
  unfold State.farWrite; (repeat' split) <;> simp_all (maxDischargeDepth := 12) (contextual := true)

@[simp] theorem State.setFwcSet_mem (s : State) (b i : Nat) (x : FwcSet) : (State.setFwcSet s b i x).mem = s.mem := by
  simp [State.setFwcSet]

@[simp] theorem State.fwcFill_mem (s : State) (b who line : Nat) : (State.fwcFill s b who line).1.mem = s.mem := by
  simp [State.fwcFill]

@[simp] theorem State.fwcInvalidate_mem (s : State) (b : Nat) (p : Nat → Bool) : (State.fwcInvalidate s b p).mem = s.mem := by
  simp [State.fwcInvalidate]

@[simp] theorem fwcInv_mem (b : BenchId) (s : State) : (fwcInv b s).mem = s.mem := by
  simp [fwcInv]

@[simp] theorem scrubRead_mem (line : BitVec 48) (s : State) : (scrubRead line s).mem = s.mem := by
  simp [scrubRead]

@[simp] theorem farStack_mem (q : StackId) (s : State) : (farStack q s).mem = s.mem := by
  simp [farStack]

@[simp] theorem State.ueaddrRead_mem (s : State) (q : Nat) : (State.ueaddrRead s q).1.mem = s.mem := by
  simp [State.ueaddrRead]

@[simp] theorem fmUeaddrRead_mem (q : StackId) (who : Requester) (s : State) : (fmUeaddrRead q who s).mem = s.mem := by
  simp [fmUeaddrRead]

/-! ### Machine/DmaEng.lean -/

@[simp] theorem State.modSeqr_mem (s : State) (k : Nat) (f : Dma → Dma) : (State.modSeqr s k f).mem = s.mem := by
  simp [State.modSeqr]

@[simp] theorem State.setDmaState_mem (s : State) (k x : Nat) : (State.setDmaState s k x).mem = s.mem := by
  simp [State.setDmaState]

@[simp] theorem State.setDmaPc_mem (s : State) (k x : Nat) : (State.setDmaPc s k x).mem = s.mem := by
  simp [State.setDmaPc]

@[simp] theorem State.setDreg_mem (s : State) (k i : Nat) (v : DWord) : (State.setDreg s k i v).mem = s.mem := by
  simp [State.setDreg]

@[simp] theorem State.dmaEvent_mem (s : State) (k e pc info : Nat) : (State.dmaEvent s k e pc info).mem = s.mem := by
  simp [State.dmaEvent]

@[simp] theorem State.dmaIdle_mem (s : State) (k : Nat) : (State.dmaIdle s k).mem = s.mem := by
  simp [State.dmaIdle]

@[simp] theorem State.dmaFail_mem (s : State) (k : Nat) : (State.dmaFail s k).mem = s.mem := by
  simp only [State.dmaFail]; (repeat' split) <;> simp

@[simp] theorem State.dmaError_mem (s : State) (k code addr pc : Nat) : (State.dmaError s k code addr pc).mem = s.mem := by
  simp [State.dmaError]

@[simp] theorem State.dmaNext_mem (s : State) (k next : Nat) : (State.dmaNext s k next).mem = s.mem := by
  simp [State.dmaNext]

@[simp] theorem State.dmaStep_mem (s : State) (k : Nat) : (State.dmaStep s k).mem = s.mem := by
  simp [State.dmaStep]

@[simp] theorem State.dmaPump_mem (s : State) (k n : Nat) : (s.dmaPump k n).mem = s.mem := by
  induction n generalizing s with
  | zero => rfl
  | succ n ih =>
    unfold State.dmaPump
    split
    · split
      · rfl
      · split
        · dsimp only
          split <;> simp
        · dsimp only
          split
          · simp
          · rw [ih]; simp
    · rfl

@[simp] theorem State.dmaCopy_mem (s : State) (k : Nat) (w : DWord) : (State.dmaCopy s k w).mem = s.mem := by
  unfold State.dmaCopy; (try dsimp only); (repeat' (first | (refine (foldl_mem _ (fun s x => ?_) _ _).trans ?_) | (refine (upTo_mem _ _ (fun s x => ?_) _).trans ?_) | (split <;> (first | (rename_i hh; obtain ⟨rfl, -⟩ := Prod.ext_iff.1 hh) | (rename_i hh _; obtain ⟨rfl, -⟩ := Prod.ext_iff.1 hh) | skip)))) <;> (first | (simp; done) | (simp [*]; done) | (simp_all; done))

@[simp] theorem State.countBusies_mem (s : State) (a n : Nat) : (State.countBusies s a n).mem = s.mem := by
  unfold State.countBusies; (try dsimp only); (repeat' (first | (refine (foldl_mem _ (fun s x => ?_) _ _).trans ?_) | (refine (upTo_mem _ _ (fun s x => ?_) _).trans ?_) | (split <;> (first | (rename_i hh; obtain ⟨rfl, -⟩ := Prod.ext_iff.1 hh) | (rename_i hh _; obtain ⟨rfl, -⟩ := Prod.ext_iff.1 hh) | skip)))) <;> (first | (simp; done) | (simp [*]; done) | (simp_all; done))

@[simp] theorem State.dmaBankRead_mem (s : State) (k : Nat) (t : DmaTx) (n : Nat) : (State.dmaBankRead s k t n).1.mem = s.mem := by
  unfold State.dmaBankRead; (try dsimp only); (repeat' (first | (refine (foldl_mem _ (fun s x => ?_) _ _).trans ?_) | (refine (upTo_mem _ _ (fun s x => ?_) _).trans ?_) | (split <;> (first | (rename_i hh; obtain ⟨rfl, -⟩ := Prod.ext_iff.1 hh) | (rename_i hh _; obtain ⟨rfl, -⟩ := Prod.ext_iff.1 hh) | skip)))) <;> (first | (simp; done) | (simp [*]; done) | (simp_all; done))

@[simp] theorem State.txRead_mem (s : State) (k : Nat) (t : DmaTx) (e : DmaEnd) (host : List Byte) (cycles : Word) : (State.txRead s k t e host cycles).1.mem = s.mem := by
  unfold State.txRead; (try dsimp only); (repeat' (split <;> (try (rename_i hh; obtain ⟨rfl, -⟩ := Prod.ext_iff.1 hh)))) <;> (first | (simp; done) | (simp [*]; done) | (simp_all; done))

@[simp] theorem State.txWrite_memWf (s : State) (k : Nat) (t : DmaTx) (e : DmaEnd) (bs : List Byte) (hw : Memory.wf s.mem = true) : Memory.wf (s.txWrite k t e bs).mem = true := by
 unfold State.txWrite
 (repeat' (split <;> (first | (rename_i hh; obtain ⟨rfl, -⟩ := Prod.ext_iff.1 hh) | skip)))  <;> simp [hw]

@[simp] theorem State.dmaHand_mem (s : State) (k a : Nat) (v : Nat → Word) : (State.dmaHand s k a v).mem = s.mem := by
  simp only [State.dmaHand]; (repeat' split) <;> simp

@[simp] theorem State.dmaReady_memWf (s : State) (k : Nat) (w : DWord) (hw : Memory.wf s.mem = true) : Memory.wf (s.dmaReady k w).mem = true := by
 unfold State.dmaReady; dsimp only
 (repeat' (split <;> (first | (rename_i hh; obtain ⟨rfl, -⟩ := Prod.ext_iff.1 hh) | skip)))  <;> simp [hw]

@[simp] theorem State.dmaInval_mem (s : State) (k : Nat) (w : DWord) : (State.dmaInval s k w).mem = s.mem := by
  simp [State.dmaInval]

@[simp] theorem State.dmaEffect_memWf (s : State) (k : Nat) (w : DWord) (hw : Memory.wf s.mem = true) : Memory.wf (s.dmaEffect k w).mem = true := by
  unfold State.dmaEffect
  dsimp only
  split <;> simp [hw]

@[simp] theorem State.dmaSettle_memWf (s : State) (k : Nat) (hw : Memory.wf s.mem = true) : Memory.wf (s.dmaSettle k).mem = true := by
 unfold State.dmaSettle; dsimp only; split; · simp [hw]
 cases h : (s.seqr k).wait <;> simp only []
 · split <;> simp [hw]
 · exact hw
 · simp [hw]
 · split <;> simp [hw]
 · exact hw

@[simp] theorem State.dmaWaitTxs_memWf (s : State) (k : Nat) (w : DWord) (hw : Memory.wf s.mem = true) : Memory.wf (State.dmaWaitTxs s k w).mem = true := by
  unfold State.dmaWaitTxs; (try dsimp only); (repeat' (first | (refine foldl_memWf _ (fun s x hw => ?_) _ _ ?_) | (refine upTo_memWf _ _ (fun s x hw => ?_) _ ?_) | (split <;> (first | (rename_i hh; obtain ⟨rfl, -⟩ := Prod.ext_iff.1 hh) | (rename_i hh _; obtain ⟨rfl, -⟩ := Prod.ext_iff.1 hh) | skip)))) <;> simp (maxDischargeDepth := 12) (contextual := true) [*]

@[simp] theorem State.dmaIssue_mem (s : State) (k opc : Nat) (w : DWord) (f : State → State) (hf : ∀ s, (f s).mem = s.mem) : (s.dmaIssue k opc w f).mem = s.mem := by
  unfold State.dmaIssue; dsimp only; (repeat' split) <;> simp [hf]

@[simp] theorem State.dmaIssue_memWf (s : State) (k opc : Nat) (w : DWord) (f : State → State) (hf : ∀ s, Memory.wf s.mem = true → Memory.wf (f s).mem = true) (hw : Memory.wf s.mem = true) : Memory.wf (s.dmaIssue k opc w f).mem = true := by
  unfold State.dmaIssue; dsimp only; (repeat' split) <;> simp [hf, hw]

@[simp] theorem State.dmaSet_mem (s : State) (k : Nat) (w : DWord) (v : DWord) : (State.dmaSet s k w v).mem = s.mem := by
  simp [State.dmaSet]

@[simp] theorem State.dmaWaitg_mem (s : State) (k : Nat) (w : DWord) : (State.dmaWaitg s k w).mem = s.mem := by
  simp [State.dmaWaitg]

@[simp] theorem State.dmaMiss_mem (s : State) (k : Nat) (d : Delivery) : (State.dmaMiss s k d).mem = s.mem := by
  simp only [State.dmaMiss]; (repeat' split) <;> simp

@[simp] theorem State.dmaOpen_mem (s : State) (k : Nat) (w : DWord) (late : Bool) : (State.dmaOpen s k w late).mem = s.mem := by
  simp [State.dmaOpen]

@[simp] theorem State.dmaLoop_mem (s : State) (k : Nat) (w : DWord) : (State.dmaLoop s k w).mem = s.mem := by
  simp [State.dmaLoop]

@[simp] theorem State.dmaStart_mem (s : State) (k entry : Nat) : (State.dmaStart s k entry).mem = s.mem := by
  simp [State.dmaStart]

@[simp] theorem State.dmaStopReq_memWf (s : State) (k : Nat) (hw : Memory.wf s.mem = true) : Memory.wf (State.dmaStopReq s k).mem = true := by
  unfold State.dmaStopReq; (try dsimp only); (repeat' (first | (refine foldl_memWf _ (fun s x hw => ?_) _ _ ?_) | (refine upTo_memWf _ _ (fun s x hw => ?_) _ ?_) | (split <;> (first | (rename_i hh; obtain ⟨rfl, -⟩ := Prod.ext_iff.1 hh) | (rename_i hh _; obtain ⟨rfl, -⟩ := Prod.ext_iff.1 hh) | skip)))) <;> simp (maxDischargeDepth := 12) (contextual := true) [*]

@[simp] theorem State.dmaCtlWrite_memWf (s : State) (k : Nat) (v : Word) (hw : Memory.wf s.mem = true) : Memory.wf (State.dmaCtlWrite s k v).mem = true := by
  unfold State.dmaCtlWrite; (try dsimp only); (repeat' (first | (refine foldl_memWf _ (fun s x hw => ?_) _ _ ?_) | (refine upTo_memWf _ _ (fun s x hw => ?_) _ ?_) | (split <;> (first | (rename_i hh; obtain ⟨rfl, -⟩ := Prod.ext_iff.1 hh) | (rename_i hh _; obtain ⟨rfl, -⟩ := Prod.ext_iff.1 hh) | skip)))) <;> simp (maxDischargeDepth := 12) (contextual := true) [*]

@[simp] theorem State.dmaStoreWrite_mem (s : State) (k off : Nat) (v : Word) : (State.dmaStoreWrite s k off v).mem = s.mem := by
  simp [State.dmaStoreWrite]

@[simp] theorem State.erraddrRead_mem (s : State) (k : Nat) : (State.erraddrRead s k).1.mem = s.mem := by
  simp [State.erraddrRead]

@[simp] theorem dmaTransactionComplete_memWf (k : SeqrId) (i : Fin 104) (e : DmaEnd) (host : List Byte) (cycles : Word) (s : State) (hw : Memory.wf s.mem = true) : Memory.wf (dmaTransactionComplete k i e host cycles s).mem = true := by
  unfold dmaTransactionComplete
  dsimp only
  (repeat' split) <;> simp [hw]

@[simp] theorem waitgEnd_mem (k : SeqrId) (s : State) : (waitgEnd k s).mem = s.mem := by
  simp only [waitgEnd]; (repeat' split) <;> simp

@[simp] theorem dmaDeadline_mem (k : SeqrId) (s : State) : (dmaDeadline k s).mem = s.mem := by
  simp only [dmaDeadline]; (repeat' split) <;> simp

@[simp] theorem fwcInvalidateDone_mem (b : BenchId) (s : State) : (fwcInvalidateDone b s).mem = s.mem := by
  unfold fwcInvalidateDone; (try dsimp only); (repeat' (first | (refine (foldl_mem _ (fun s x => ?_) _ _).trans ?_) | (refine (upTo_mem _ _ (fun s x => ?_) _).trans ?_) | (split <;> (first | (rename_i hh; obtain ⟨rfl, -⟩ := Prod.ext_iff.1 hh) | (rename_i hh _; obtain ⟨rfl, -⟩ := Prod.ext_iff.1 hh) | skip)))) <;> (first | (simp; done) | (simp [*]; done) | (simp_all; done))

/-! ### Machine/CmdCheck.lean -/

@[simp] theorem State.tableCheck_mem (s : State) (p : Packet) : (State.tableCheck s p).1.mem = s.mem := by
  simp only [State.tableCheck]; (repeat' split) <;> simp

@[simp] theorem State.checkPacket_mem (s : State) (p : Packet) : (State.checkPacket s p).1.mem = s.mem := by
  unfold State.checkPacket; (try dsimp only); (repeat' (split <;> (try (rename_i hh; obtain ⟨rfl, -⟩ := Prod.ext_iff.1 hh)))) <;> (first | (simp; done) | (simp [*]; done) | (simp_all; done))

@[simp] theorem State.setPend_mem (s : State) (p : Packet) : (State.setPend s p).mem = s.mem := by
  simp only [State.setPend]; (repeat' split) <;> simp

@[simp] theorem State.mapAccepted_mem (s : State) (p : Packet) (c : DWord) : (State.mapAccepted s p c).mem = s.mem := by
  unfold State.mapAccepted; (try dsimp only); (repeat' (first | (refine (foldl_mem _ (fun s x => ?_) _ _).trans ?_) | (refine (upTo_mem _ _ (fun s x => ?_) _).trans ?_) | (split <;> (first | (rename_i hh; obtain ⟨rfl, -⟩ := Prod.ext_iff.1 hh) | (rename_i hh _; obtain ⟨rfl, -⟩ := Prod.ext_iff.1 hh) | skip)))) <;> (first | (simp; done) | (simp [*]; done) | (simp_all; done))

@[simp] theorem State.acceptCommit_mem (s : State) (p : Packet) (c : DWord) (origin : BitVec 8) : (State.acceptCommit s p c origin).mem = s.mem := by
  simp [State.acceptCommit]

end Sys2Proof.Machine
end

