-- ==== Sys2Proof/Laws/MemCommands.lean ====
section
/-! SUPPORT. What the operations and rows of the command set and the pair of twins do to the bytes of memory: `_mem` says that memory is as it was,
`_memWf` that its canonical form is kept. -/

namespace Sys2Proof.Machine

/-! ### Machine/Operands.lean -/

@[simp] theorem State.sched_mem (s : State) (c slot lat : Nat) (tgt : Tgt) (val : BitVec 512) : (State.sched s c slot lat tgt val).mem = s.mem := by
  simp [State.sched]

@[simp] theorem State.schedS_mem (s : State) (c slot lat n : Nat) (v : Word) : (State.schedS s c slot lat n v).mem = s.mem := by
  simp [State.schedS]

@[simp] theorem State.schedPair_mem (s : State) (c slot lat n : Nat) (v : DWord) : (State.schedPair s c slot lat n v).mem = s.mem := by
  simp [State.schedPair]

@[simp] theorem State.schedA_mem (s : State) (c slot n : Nat) (v : Word) : (State.schedA s c slot n v).mem = s.mem := by
  simp [State.schedA]

@[simp] theorem State.schedV_mem (s : State) (c slot lat n : Nat) (lanes : BitVec 16) (v : BitVec 512) : (State.schedV s c slot lat n lanes v).mem = s.mem := by
  simp [State.schedV]

@[simp] theorem State.schedP_mem (s : State) (c slot lat n : Nat) (v : DWord) : (State.schedP s c slot lat n v).mem = s.mem := by
  simp [State.schedP]

@[simp] theorem State.schedFlg_mem (s : State) (c slot lat : Nat) (f : FlgW) : (State.schedFlg s c slot lat f).mem = s.mem := by
  simp [State.schedFlg]

@[simp] theorem State.flush_mem (s : State) (c : Nat) : (State.flush s c).mem = s.mem := by
  simp [State.flush]

/-! ### Machine/CoreCtl.lean -/

@[simp] theorem State.addFld_mem (s : State) (off lo w n : Nat) : (State.addFld s off lo w n).mem = s.mem := by
  simp [State.addFld]

@[simp] theorem State.perf_mem (s : State) (c : Nat) (r : Nat → Nat → Nat) (n : Nat) : (State.perf s c r n).mem = s.mem := by
  simp [State.perf]

@[simp] theorem State.perfStall_mem (s : State) (c : Nat) (r : Nat → Nat → Nat) : (State.perfStall s c r).mem = s.mem := by
  simp [State.perfStall]

@[simp] theorem State.perfUpTo_mem (s : State) (c : Nat) (r : Nat → Nat → Nat) (n : Nat) : (State.perfUpTo s c r n).mem = s.mem := by
  unfold State.perfUpTo; (try dsimp only); (repeat' (first | (refine (foldl_mem _ (fun s x => ?_) _ _).trans ?_) | (refine (upTo_mem _ _ (fun s x => ?_) _).trans ?_) | (split <;> (first | (rename_i hh; obtain ⟨rfl, -⟩ := Prod.ext_iff.1 hh) | (rename_i hh _; obtain ⟨rfl, -⟩ := Prod.ext_iff.1 hh) | skip)))) <;> (first | (simp; done) | (simp [*]; done) | (simp_all; done))

@[simp] theorem State.perfClear_mem (s : State) (c : Nat) (rs : List (Nat → Nat → Nat)) : (State.perfClear s c rs).mem = s.mem := by
  simp [State.perfClear]

@[simp] theorem State.perfGrain_mem (s : State) (c : Nat) : (State.perfGrain s c).mem = s.mem := by
  simp [State.perfGrain]

@[simp] theorem State.endProgram_mem (s : State) (c : Nat) : (State.endProgram s c).mem = s.mem := by
  simp [State.endProgram]

@[simp] theorem State.abandon_mem (s : State) (c : Nat) : (State.abandon s c).mem = s.mem := by
  simp [State.abandon]

@[simp] theorem State.abandonCut_mem (s : State) (c : Nat) : (State.abandonCut s c).mem = s.mem := by
  unfold State.abandonCut; (try dsimp only); (repeat' (first | (refine (foldl_mem _ (fun s x => ?_) _ _).trans ?_) | (refine (upTo_mem _ _ (fun s x => ?_) _).trans ?_) | (split <;> (first | (rename_i hh; obtain ⟨rfl, -⟩ := Prod.ext_iff.1 hh) | (rename_i hh _; obtain ⟨rfl, -⟩ := Prod.ext_iff.1 hh) | skip)))) <;> (first | (simp; done) | (simp [*]; done) | (simp_all; done))

@[simp] theorem State.stopGen_mem (s : State) (c : Nat) : (State.stopGen s c).mem = s.mem := by
  simp [State.stopGen]

@[simp] theorem State.recordFault_mem (s : State) (c : Nat) (f : FltRec) (pc npc : Word) (ds : Bool) (code : Bool) : (State.recordFault s c f pc npc ds code).mem = s.mem := by
  simp [State.recordFault]

@[simp] theorem State.takeLock_mem (s : State) (c : Nat) (w : LockWait) : (State.takeLock s c w).mem = s.mem := by
  simp [State.takeLock]

@[simp] theorem State.grantLocks_mem (s : State) : (State.grantLocks s).mem = s.mem := by
  unfold State.grantLocks; (try dsimp only); (repeat' (first | (refine (foldl_mem _ (fun s x => ?_) _ _).trans ?_) | (refine (upTo_mem _ _ (fun s x => ?_) _).trans ?_) | (split <;> (first | (rename_i hh; obtain ⟨rfl, -⟩ := Prod.ext_iff.1 hh) | (rename_i hh _; obtain ⟨rfl, -⟩ := Prod.ext_iff.1 hh) | skip)))) <;> (first | (simp; done) | (simp [*]; done) | (simp_all; done))

@[simp] theorem State.faultAction_mem (s : State) (c : Nat) (pc : Word) : (State.faultAction s c pc).mem = s.mem := by
  simp [State.faultAction]

@[simp] theorem State.coreFault_mem (s : State) (c : Nat) (f : FltRec) (pc npc : Word) (ds code : Bool) : (State.coreFault s c f pc npc ds code).mem = s.mem := by
  simp [State.coreFault]

@[simp] theorem State.opFaulted_mem (s : State) (c : Nat) (f : FltRec) : (State.opFaulted s c f).mem = s.mem := by
  simp [State.opFaulted]

@[simp] theorem State.reloadSegs_mem (s : State) (c : Nat) : (State.reloadSegs s c).mem = s.mem := by
  simp [State.reloadSegs]

@[simp] theorem State.loadCode_mem (s : State) (c i : Nat) : (State.loadCode s c i).mem = s.mem := by
  simp [State.loadCode]

@[simp] theorem State.beginGrain_mem (s : State) (c : Nat) : (State.beginGrain s c).mem = s.mem := by
  simp [State.beginGrain]

@[simp] theorem State.awaitTrigger_mem (s : State) (c : Nat) : (State.awaitTrigger s c).mem = s.mem := by
  simp [State.awaitTrigger]

@[simp] theorem State.grainCode_mem (s : State) (c : Nat) : (State.grainCode s c).mem = s.mem := by
  unfold State.grainCode; (try dsimp only); (repeat' (first | (refine (foldl_mem _ (fun s x => ?_) _ _).trans ?_) | (refine (upTo_mem _ _ (fun s x => ?_) _).trans ?_) | (split <;> (first | (rename_i hh; obtain ⟨rfl, -⟩ := Prod.ext_iff.1 hh) | (rename_i hh _; obtain ⟨rfl, -⟩ := Prod.ext_iff.1 hh) | skip)))) <;> (first | (simp; done) | (simp [*]; done) | (simp_all; done))

@[simp] theorem State.startGrainWork_mem (s : State) (c : Nat) : (State.startGrainWork s c).mem = s.mem := by
  simp [State.startGrainWork]

@[simp] theorem State.startLate_mem (s : State) (c : Nat) : (State.startLate s c).mem = s.mem := by
  simp [State.startLate]

@[simp] theorem State.settle_mem (s : State) (c : Nat) : (State.settle s c).mem = s.mem := by
  simp [State.settle]

@[simp] theorem State.abandonSoon_mem (s : State) (c : Nat) : (State.abandonSoon s c).mem = s.mem := by
  simp [State.abandonSoon]

@[simp] theorem State.missDeadline_mem (s : State) (c : Nat) (g : DWord) : (State.missDeadline s c g).mem = s.mem := by
  simp [State.missDeadline]

@[simp] theorem State.beginReset_mem (s : State) (c : Nat) : (s.beginReset c).mem = s.mem := by
 simp only [State.beginReset, thawFrom_mem, State.grantLocks_mem, State.modCore_mem]
 split <;> simp

@[simp] theorem coreResetDone_mem (c : CoreId) (s : State) : (coreResetDone c s).mem = s.mem := by
  simp [coreResetDone]

/-! ### Machine/Protect.lean -/

@[simp] theorem State.digestRefused_mem (s : State) (pid kind concur : Nat) : (State.digestRefused s pid kind concur).mem = s.mem := by
  simp [State.digestRefused]

@[simp] theorem State.proposeCheck_mem (s : State) (p : Packet) (sent : DWord) : (State.proposeCheck s p sent).1.mem = s.mem := by
  simp only [State.proposeCheck]; (repeat' split) <;> simp

@[simp] theorem State.recordProposal_mem (s : State) (p : Packet) (i : Nat) (pid : Word) (c : DWord) (origin : BitVec 8) : (State.recordProposal s p i pid c origin).mem = s.mem := by
  simp [State.recordProposal]

@[simp] theorem State.propose_mem (s : State) (p : Packet) (given : Option (Word × DWord)) (origin : BitVec 8) : (State.propose s p given origin).1.mem = s.mem := by
  unfold State.propose; (try dsimp only); (repeat' (split <;> (try (rename_i hh; obtain ⟨rfl, -⟩ := Prod.ext_iff.1 hh)))) <;> (first | (simp; done) | (simp [*]; done) | (simp_all; done))

@[simp] theorem State.concurCheck_mem (s : State) (p : Packet) (own : Bool) : (State.concurCheck s p own).1.mem = s.mem := by
  simp only [State.concurCheck]; (repeat' split) <;> simp

@[simp] theorem State.concurred_mem (s : State) (pid : Word) : (State.concurred s pid).mem = s.mem := by
  simp only [State.concurred]; (repeat' split) <;> simp

@[simp] theorem State.concurAccept_mem (s : State) (pid : Word) : (State.concurAccept s pid).mem = s.mem := by
  simp only [State.concurAccept]; (repeat' split) <;> simp

@[simp] theorem protectLapsed_mem (pid : Word) (s : State) : (protectLapsed pid s).mem = s.mem := by
  simp only [protectLapsed]; (repeat' split) <;> simp

@[simp] theorem State.lapseAtBoundary_mem (s : State) (d : Nat) : (State.lapseAtBoundary s d).mem = s.mem := by
  simp [State.lapseAtBoundary]

@[simp] theorem State.putDesc_mem (s : State) (n : Nat) (ws : List Word) : (State.putDesc s n ws).mem = s.mem := by
  simp [State.putDesc]

@[simp] theorem State.putElig_mem (s : State) (n : Nat) (ws : List Word) : (State.putElig s n ws).mem = s.mem := by
  simp [State.putElig]

@[simp] theorem State.putBind_mem (s : State) (q : Nat) (w : Word) : (State.putBind s q w).mem = s.mem := by
  simp [State.putBind]

@[simp] theorem State.putLanes_mem (s : State) (i : Nat) (w : Word) : (State.putLanes s i w).mem = s.mem := by
  simp [State.putLanes]

@[simp] theorem State.putEntry_mem (s : State) (kind n : Nat) (ws : List Word) : (State.putEntry s kind n ws).mem = s.mem := by
  simp only [State.putEntry]; (repeat' split) <;> simp

@[simp] theorem State.applyProposal_mem (s : State) (c : Commit) : (State.applyProposal s c).mem = s.mem := by
  simp only [State.applyProposal]; (repeat' split) <;> simp

@[simp] theorem State.unlockOpen_mem (s : State) (p : Packet) (byA : Bool) : (State.unlockOpen s p byA).1.mem = s.mem := by
  simp [State.unlockOpen]

@[simp] theorem State.unlockJoin_mem (s : State) (p : Packet) (byA : Bool) : (State.unlockJoin s p byA).1.mem = s.mem := by
  simp only [State.unlockJoin]; (repeat' split) <;> simp

@[simp] theorem State.unlockCmd_mem (s : State) (p : Packet) (byA : Bool) : (State.unlockCmd s p byA).1.mem = s.mem := by
  simp [State.unlockCmd]

/-! ### Machine/CmdBase.lean -/

@[simp] theorem State.modCmds_mem (s : State) (f : Cmds → Cmds) : (State.modCmds s f).mem = s.mem := by
  simp [State.modCmds]

@[simp] theorem State.postDone_mem (s : State) (o : Origin) (c : Completion) : (State.postDone s o c).mem = s.mem := by
  simp [State.postDone]

@[simp] theorem State.recordDone_mem (s : State) (o : Origin) (c : Completion) : (State.recordDone s o c).mem = s.mem := by
  simp only [State.recordDone]; (repeat' split) <;> simp

@[simp] theorem State.endCmd_mem (s : State) (o : Origin) (seq : Word) (c : Completion) : (State.endCmd s o seq c).mem = s.mem := by
  simp only [State.endCmd]; (repeat' split) <;> simp

@[simp] theorem State.answer_mem (s : State) (o : Origin) (p : Packet) (v : Verdict) (result : Nat) : (State.answer s o p v result).mem = s.mem := by
  simp [State.answer]

@[simp] theorem State.addProg_mem (s : State) (x : InProg) : (State.addProg s x).mem = s.mem := by
  simp [State.addProg]

@[simp] theorem State.updProg_mem (s : State) (o : Origin) (seq : Word) (f : InProg → InProg) : (State.updProg s o seq f).mem = s.mem := by
  simp [State.updProg]

@[simp] theorem State.sendCmd_mem (s : State) (o : Origin) (p : Packet) : (State.sendCmd s o p).mem = s.mem := by
  simp [State.sendCmd]

@[simp] theorem State.receiveNew_mem (s : State) (o : Origin) (p : Packet) : (State.receiveNew s o p).mem = s.mem := by
  simp only [State.receiveNew]; (repeat' split) <;> simp

@[simp] theorem State.dupCount_mem (s : State) (o : Origin) : (State.dupCount s o).mem = s.mem := by
  simp only [State.dupCount]; (repeat' split) <;> simp

@[simp] theorem State.staleCount_mem (s : State) (o : Origin) : (State.staleCount s o).mem = s.mem := by
  simp only [State.staleCount]; (repeat' split) <;> simp

@[simp] theorem State.receive_mem (s : State) (o : Origin) (p : Packet) : (State.receive s o p).mem = s.mem := by
  simp only [State.receive]; (repeat' split) <;> simp

@[simp] theorem sqFetch_mem (q : QueueId) (p : Packet) (s : State) : (sqFetch q p s).mem = s.mem := by
  simp [sqFetch]

@[simp] theorem State.receiveCmd_mem (s : State) (i : BitVec 8) (queue : BitVec 16) (tag : Word) (issuer : BitVec 2) (p : Packet) : (State.receiveCmd s i queue tag issuer p).mem = s.mem := by
  simp only [State.receiveCmd]; (repeat' split) <;> simp

@[simp] theorem State.endForwarded_mem (s : State) (queue : BitVec 16) (tag : Word) (c : InProg → Completion) : (State.endForwarded s queue tag c).mem = s.mem := by
  simp only [State.endForwarded]; (repeat' split) <;> simp

@[simp] theorem cmd_mem (h : ChHdr) (queue : BitVec 16) (tag : Word) (issuer : BitVec 2) (p : Packet) (s : State) : (cmd h queue tag issuer p s).mem = s.mem := by
  unfold cmd; (try dsimp only); (repeat' (split <;> (try (rename_i hh; obtain ⟨rfl, -⟩ := Prod.ext_iff.1 hh)))) <;> (first | (simp; done) | (simp [*]; done) | (simp_all; done))

@[simp] theorem cpl_mem (h : ChHdr) (queue : BitVec 16) (tag : Word) (c : BitVec 256) (s : State) : (cpl h queue tag c s).mem = s.mem := by
  simp [cpl]

@[simp] theorem State.beginResetOf_memWf (s : State) (o : Origin) (k : Nat) (hw : Memory.wf s.mem = true) : Memory.wf (State.beginResetOf s o k).mem = true := by
  unfold State.beginResetOf; (repeat' split) <;> simp_all (maxDischargeDepth := 12) (contextual := true)

@[simp] theorem State.beginWaiting_memWf (s : State) (p : Origin × Word × Nat → Bool) (hw : Memory.wf s.mem = true) : Memory.wf (State.beginWaiting s p).mem = true := by
  unfold State.beginWaiting; split <;> simp [hw]

@[simp] theorem completionWrite_memWf (s : State) (hw : Memory.wf s.mem = true) : Memory.wf (completionWrite s).mem = true := by
  unfold completionWrite
  (repeat' (split <;> (first | (rename_i hh; obtain ⟨rfl, -⟩ := Prod.ext_iff.1 hh) | skip)))  <;> simp [hw]

/-! ### Machine/Pair.lean -/

@[simp] theorem State.endRelayed_mem (s : State) (p : Packet) (v : Verdict) (result cf : Nat) : (State.endRelayed s p v result cf).mem = s.mem := by
  simp only [State.endRelayed]; (repeat' split) <;> simp

@[simp] theorem State.pairStep1_mem (s : State) (p : Packet) (origin : BitVec 8) : (State.pairStep1 s p origin).1.mem = s.mem := by
  simp [State.pairStep1]

@[simp] theorem State.revertPair_mem (s : State) (p : Packet) (pid : Word) : (State.revertPair s p pid).mem = s.mem := by
  simp [State.revertPair]

@[simp] theorem State.answerPair_mem (s : State) (o : Option Origin) (p : Packet) (v : Verdict) (result cf : Nat) : (State.answerPair s o p v result cf).mem = s.mem := by
  simp only [State.answerPair]; (repeat' split) <;> simp

@[simp] theorem State.coordinate_mem (s : State) (o : Option Origin) (rtag : Word) (p : Packet) : (State.coordinate s o rtag p).mem = s.mem := by
  simp only [State.coordinate]; (repeat' split) <;> simp

@[simp] theorem State.pairAccept_mem (s : State) (p : Packet) (c : DWord) (pid : Word) (origin : BitVec 8) : (State.pairAccept s p c pid origin).mem = s.mem := by
  simp [State.pairAccept]

@[simp] theorem State.pairAbort_mem (s : State) (x : PrepOut) (v : Verdict) (cf : Nat) : (State.pairAbort s x v cf).mem = s.mem := by
  simp [State.pairAbort]

@[simp] theorem State.accSeen_mem (s : State) (tag : Word) : (State.accSeen s tag).mem = s.mem := by
  simp only [State.accSeen]; (repeat' split) <;> simp

@[simp] theorem State.frameVerdict_mem (s : State) (status : BitVec 8) : (State.frameVerdict s status).1.mem = s.mem := by
  simp [State.frameVerdict]

@[simp] theorem State.rejSeen_mem (s : State) (tag : Word) (status : BitVec 8) : (State.rejSeen s tag status).mem = s.mem := by
  simp only [State.rejSeen]; (repeat' split) <;> simp

@[simp] theorem State.pairLimit_mem (s : State) (d : Nat) : (State.pairLimit s d).mem = s.mem := by
  simp [State.pairLimit]

@[simp] theorem State.relaySeen_mem (s : State) (tag : Word) (p : Packet) : (State.relaySeen s tag p).mem = s.mem := by
  simp [State.relaySeen]

@[simp] theorem State.twinCheck_mem (s : State) (p : Packet) (c : DWord) (pid cfg : Word) (cnt : DWord) : (State.twinCheck s p c pid cfg cnt).1.mem = s.mem := by
  simp [State.twinCheck]

@[simp] theorem State.prepSeen_mem (s : State) (tag : Word) (c : DWord) (pid cfg : Word) (cnt : DWord) (p : Packet) : (State.prepSeen s tag c pid cfg cnt p).mem = s.mem := by
  simp [State.prepSeen]

@[simp] theorem State.commitSeen_mem (s : State) (tag : Word) : (State.commitSeen s tag).mem = s.mem := by
  simp only [State.commitSeen]; (repeat' split) <;> simp

@[simp] theorem State.abortSeen_mem (s : State) (tag : Word) : (State.abortSeen s tag).mem = s.mem := by
  simp only [State.abortSeen]; (repeat' split) <;> simp

@[simp] theorem State.doubt_mem (s : State) (d : Nat) : (State.doubt s d).mem = s.mem := by
  simp [State.doubt]

@[simp] theorem State.runPair_mem (s : State) (o : Origin) (p : Packet) : (State.runPair s o p).mem = s.mem := by
  simp [State.runPair]

@[simp] theorem State.beginErase_mem (s : State) : (State.beginErase s).mem = s.mem := by
  simp [State.beginErase]

@[simp] theorem State.leaveStep_mem (s : State) : (State.leaveStep s).mem = s.mem := by
  simp [State.leaveStep]

/-! ### Machine/Commands.lean -/

@[simp] theorem doneOk_mem (s : State) : (doneOk s).1.mem = s.mem := by
  simp [doneOk]

@[simp] theorem State.timeCmd_mem (s : State) (p : Packet) : (State.timeCmd s p).1.mem = s.mem := by
  simp [State.timeCmd]

@[simp] theorem State.resetCmd_mem (s : State) (o : Origin) (p : Packet) (k : Nat) : (State.resetCmd s o p k).1.mem = s.mem := by
  simp [State.resetCmd]

@[simp] theorem State.qPut_mem (s : State) (fn q off v : Nat) : (State.qPut s fn q off v).mem = s.mem := by
  simp [State.qPut]

@[simp] theorem State.qNotBound_mem (s : State) (p : Packet) : (State.qNotBound s p).1.mem = s.mem := by
  simp [State.qNotBound]

@[simp] theorem State.queueSet_mem (s : State) (fn : Nat) (p : Packet) : (State.queueSet s fn p).1.mem = s.mem := by
  simp [State.queueSet]

@[simp] theorem State.queueEnable_mem (s : State) (fn : Nat) (p : Packet) : (State.queueEnable s fn p).1.mem = s.mem := by
  unfold State.queueEnable; (try dsimp only); (repeat' (split <;> (try (rename_i hh; obtain ⟨rfl, -⟩ := Prod.ext_iff.1 hh)))) <;> (first | (simp; done) | (simp [*]; done) | (simp_all; done))

@[simp] theorem State.queueSeqclr_mem (s : State) (fn : Nat) (p : Packet) : (State.queueSeqclr s fn p).1.mem = s.mem := by
  simp [State.queueSeqclr]

@[simp] theorem State.concurAlone_mem (s : State) (p : Packet) : (State.concurAlone s p).1.mem = s.mem := by
  simp [State.concurAlone]

@[simp] theorem State.withdrawAlone_mem (s : State) (p : Packet) : (State.withdrawAlone s p).1.mem = s.mem := by
  simp [State.withdrawAlone]

@[simp] theorem State.unlockRun_mem (s : State) (o : Origin) (p : Packet) : (State.unlockRun s o p).1.mem = s.mem := by
  simp [State.unlockRun]

@[simp] theorem State.monitorCmd_mem (s : State) (p : Packet) : (State.monitorCmd s p).1.mem = s.mem := by
  simp only [State.monitorCmd]; (repeat' split) <;> simp

@[simp] theorem State.runNow_mem (s : State) (o : Origin) (p : Packet) : (State.runNow s o p).1.mem = s.mem := by
  simp only [State.runNow]; (repeat' split) <;> simp

@[simp] theorem State.runUsed_mem (s : State) (o : Origin) (p : Packet) : (State.runUsed s o p).1.mem = s.mem := by
  simp [State.runUsed]

@[simp] theorem State.execute_mem (s : State) (o : Origin) (p : Packet) : (State.execute s o p).1.mem = s.mem := by
  simp only [State.execute]; (repeat' split) <;> simp

@[simp] theorem State.opcode_mem (s : State) (op : Nat) (o : Origin) (p : Packet) : (State.opcode s op o p).mem = s.mem := by
  simp only [State.opcode]; (repeat' split) <;> simp

@[simp] theorem State.copyLine_memWf (s : State) (src dst : Nat) (hw : Memory.wf s.mem = true) : Memory.wf (State.copyLine s src dst).1.mem = true := by
  unfold State.copyLine; (try dsimp only); (repeat' (first | (refine foldl_memWf _ (fun s x hw => ?_) _ _ ?_) | (refine upTo_memWf _ _ (fun s x hw => ?_) _ ?_) | (split <;> (first | (rename_i hh; obtain ⟨rfl, -⟩ := Prod.ext_iff.1 hh) | (rename_i hh _; obtain ⟨rfl, -⟩ := Prod.ext_iff.1 hh) | skip)))) <;> simp (maxDischargeDepth := 12) (contextual := true) [*]

@[simp] theorem State.copyLines_memWf (s : State) (src dst n : Nat) (hw : Memory.wf s.mem = true) : Memory.wf (State.copyLines s src dst n).1.mem = true := by
  unfold State.copyLines; (try dsimp only); (repeat' (first | (refine foldl_memWf _ (fun s x hw => ?_) _ _ ?_) | (refine upTo_memWf _ _ (fun s x hw => ?_) _ ?_) | (split <;> (first | (rename_i hh; obtain ⟨rfl, -⟩ := Prod.ext_iff.1 hh) | (rename_i hh _; obtain ⟨rfl, -⟩ := Prod.ext_iff.1 hh) | skip)))) <;> simp (maxDischargeDepth := 12) (contextual := true) [*]

@[simp] theorem State.imageDone_mem (s : State) (p : Packet) : (State.imageDone s p).mem = s.mem := by
  simp [State.imageDone]

@[simp] theorem State.imageFailed_mem (s : State) (c : Commit) : (State.imageFailed s c).mem = s.mem := by
  simp [State.imageFailed]

@[simp] theorem loadImageCopyDone_memWf (dst : BitVec 48) (ok : Bool) (s : State) (hw : Memory.wf s.mem = true) : Memory.wf (loadImageCopyDone dst ok s).mem = true := by
  unfold loadImageCopyDone; (try dsimp only); (repeat' (first | (refine foldl_memWf _ (fun s x hw => ?_) _ _ ?_) | (refine upTo_memWf _ _ (fun s x hw => ?_) _ ?_) | (split <;> (first | (rename_i hh; obtain ⟨rfl, -⟩ := Prod.ext_iff.1 hh) | (rename_i hh _; obtain ⟨rfl, -⟩ := Prod.ext_iff.1 hh) | skip)))) <;> simp (maxDischargeDepth := 12) (contextual := true) [*]

/-! ### Machine/CommitFx.lean -/

@[simp] theorem State.ifStill_mem (s : State) (c : Commit) (ok : Bool) (t : State) (h : t.mem = s.mem) : (s.ifStill c ok t).mem = s.mem := by
  unfold State.ifStill; split <;> simp [h]

@[simp] theorem State.ifStill_memWf (s : State) (c : Commit) (ok : Bool) (t : State) (hs : Memory.wf s.mem = true) (h : Memory.wf t.mem = true) : Memory.wf (s.ifStill c ok t).mem = true := by unfold State.ifStill; split <;> simp [*]

@[simp] theorem State.imageApply_mem (s : State) (c : Commit) : (State.imageApply s c).mem = s.mem := by
  simp [State.imageApply]

@[simp] theorem State.bankAssignApply_mem (s : State) (c : Commit) : (State.bankAssignApply s c).mem = s.mem := by
  simp [State.bankAssignApply]

@[simp] theorem State.paramApply_memWf (s : State) (c : Commit) (hw : Memory.wf s.mem = true) : Memory.wf (State.paramApply s c).mem = true := by
  unfold State.paramApply; (try dsimp only); (repeat' (first | (refine foldl_memWf _ (fun s x hw => ?_) _ _ ?_) | (refine upTo_memWf _ _ (fun s x hw => ?_) _ ?_) | (split <;> (first | (rename_i hh; obtain ⟨rfl, -⟩ := Prod.ext_iff.1 hh) | (rename_i hh _; obtain ⟨rfl, -⟩ := Prod.ext_iff.1 hh) | skip)))) <;> simp (maxDischargeDepth := 12) (contextual := true) [*]

@[simp] theorem State.routeApply_mem (s : State) : (State.routeApply s).mem = s.mem := by
  simp [State.routeApply]

@[simp] theorem State.enterJoin_mem (s : State) : (State.enterJoin s).mem = s.mem := by
  simp [State.enterJoin]

@[simp] theorem State.pairApply_mem (s : State) (c : Commit) : (State.pairApply s c).mem = s.mem := by
  simp [State.pairApply]

@[simp] theorem State.unpairApply_mem (s : State) (c : Commit) : (State.unpairApply s c).mem = s.mem := by
  simp [State.unpairApply]

@[simp] theorem State.drillApply_mem (s : State) (c : Commit) : (State.drillApply s c).mem = s.mem := by
  simp [State.drillApply]

@[simp] theorem State.fabricApply_memWf (s : State) (c : Commit) (hw : Memory.wf s.mem = true) : Memory.wf (State.fabricApply s c).mem = true := by
  unfold State.fabricApply; (try dsimp only); (repeat' (first | (refine foldl_memWf _ (fun s x hw => ?_) _ _ ?_) | (refine upTo_memWf _ _ (fun s x hw => ?_) _ ?_) | (split <;> (first | (rename_i hh; obtain ⟨rfl, -⟩ := Prod.ext_iff.1 hh) | (rename_i hh _; obtain ⟨rfl, -⟩ := Prod.ext_iff.1 hh) | skip)))) <;> simp (maxDischargeDepth := 12) (contextual := true) [*]

@[simp] theorem State.startCoreApply_mem (s : State) (c : Commit) : (State.startCoreApply s c).mem = s.mem := by
  simp [State.startCoreApply]

@[simp] theorem State.stopCoreApply_mem (s : State) (c : Commit) : (State.stopCoreApply s c).mem = s.mem := by
  simp [State.stopCoreApply]

@[simp] theorem State.benchApply_mem (s : State) (c : Commit) : (State.benchApply s c).mem = s.mem := by
  simp only [State.benchApply]; (repeat' split) <;> simp

@[simp] theorem State.applyDue_mem (s : State) (d : Nat) (p : Commit → Bool) (f : State → Commit → State) (hf : ∀ s x, (f s x).mem = s.mem) : (State.applyDue s d p f).mem = s.mem := by
  unfold State.applyDue; (repeat' split) <;> simp_all

@[simp] theorem State.applyDue_memWf (s : State) (d : Nat) (p : Commit → Bool) (f : State → Commit → State) (hf : ∀ s x, Memory.wf s.mem = true → Memory.wf (f s x).mem = true) (hw : Memory.wf s.mem = true) : Memory.wf (State.applyDue s d p f).mem = true := by
  unfold State.applyDue; exact foldl_memWf _ hf _ _ (by simp [hw])

end Sys2Proof.Machine
end

