-- ==== Sys2Proof/Laws/MemCores.lean ====
section
/-! SUPPORT. What the operations and rows of the cores do to the bytes of memory: `_mem` says that memory is as it was,
`_memWf` that its canonical form is kept. -/

namespace Sys2Proof.Machine

/-! ### Machine/CoreMem.lean -/

@[simp] theorem State.store_mem (s : State) (c : Nat) (ps : List StPart) : (State.store s c ps).mem = s.mem := by
  simp [State.store]

@[simp] theorem State.putParts_memWf (s : State) (c : Nat) (ps : List StPart) (hw : Memory.wf s.mem = true) : Memory.wf (State.putParts s c ps).mem = true := by
  unfold State.putParts; (try dsimp only); (repeat' split) <;> (try simp_all (maxDischargeDepth := 12) (contextual := true)) <;> (rename_i hh; have := congrArg (fun x => Memory.wf x.1.mem) hh; simp_all (maxDischargeDepth := 12) (contextual := true))

@[simp] theorem State.putFar_memWf (s : State) (c : Nat) (ps : List StPart) (hw : Memory.wf s.mem = true) : Memory.wf (State.putFar s c ps).mem = true := by
  unfold State.putFar; (try dsimp only); (repeat' (first | (refine foldl_memWf _ (fun s x hw => ?_) _ _ ?_) | (refine upTo_memWf _ _ (fun s x hw => ?_) _ ?_) | (split <;> (first | (rename_i hh; obtain ⟨rfl, -⟩ := Prod.ext_iff.1 hh) | (rename_i hh _; obtain ⟨rfl, -⟩ := Prod.ext_iff.1 hh) | skip)))) <;> simp (maxDischargeDepth := 12) (contextual := true) [*]

@[simp] theorem State.putLatched_memWf (s : State) (who : Nat) (e : SbEntry) (hw : Memory.wf s.mem = true) : Memory.wf (State.putLatched s who e).mem = true := by
  unfold State.putLatched; (try dsimp only); (repeat' (first | (refine foldl_memWf _ (fun s x hw => ?_) _ _ ?_) | (refine upTo_memWf _ _ (fun s x hw => ?_) _ ?_) | (split <;> (first | (rename_i hh; obtain ⟨rfl, -⟩ := Prod.ext_iff.1 hh) | (rename_i hh _; obtain ⟨rfl, -⟩ := Prod.ext_iff.1 hh) | skip)))) <;> simp (maxDischargeDepth := 12) (contextual := true) [*]

@[simp] theorem State.flushStores_memWf (s : State) (hw : Memory.wf s.mem = true) : Memory.wf (State.flushStores s).mem = true := by
  unfold State.flushStores; (try dsimp only); (repeat' (first | (refine foldl_memWf _ (fun s x hw => ?_) _ _ ?_) | (refine upTo_memWf _ _ (fun s x hw => ?_) _ ?_) | (split <;> (first | (rename_i hh; obtain ⟨rfl, -⟩ := Prod.ext_iff.1 hh) | (rename_i hh _; obtain ⟨rfl, -⟩ := Prod.ext_iff.1 hh) | skip)))) <;> simp (maxDischargeDepth := 12) (contextual := true) [*]

@[simp] theorem State.storeOut_memWf (s : State) (c : Nat) (e : SbEntry) (hw : Memory.wf s.mem = true) : Memory.wf (State.storeOut s c e).mem = true := by
  unfold State.storeOut; (try dsimp only); (repeat' (first | (refine foldl_memWf _ (fun s x hw => ?_) _ _ ?_) | (refine upTo_memWf _ _ (fun s x hw => ?_) _ ?_) | (split <;> (first | (rename_i hh; obtain ⟨rfl, -⟩ := Prod.ext_iff.1 hh) | (rename_i hh _; obtain ⟨rfl, -⟩ := Prod.ext_iff.1 hh) | skip)))) <;> simp (maxDischargeDepth := 12) (contextual := true) [*]

@[simp] theorem readElem_mem (c : Nat) (sx : State × List Elem) (x : Elem) : (readElem c sx x).1.mem = sx.1.mem := by
  simp [readElem]

theorem State.tryAccess_mem (s : State) (c b : Nat) (back : Bool) (xs : List Elem) (r : State × List Elem) (h : s.tryAccess c b back xs = some r) : r.1.mem = s.mem := by
  unfold State.tryAccess at h
  (repeat' split at h) <;> cases h <;> simp

@[simp] theorem State.accessLine_mem (c : Nat) (back : Bool) (sj : State × LoadJob) (l : Nat) : (State.accessLine c back sj l).1.mem = sj.1.mem := by
  unfold State.accessLine; dsimp only
  split
  · rename_i hh
    have := State.tryAccess_mem _ _ _ _ _ _ hh
    simp only [] at this ⊢
    split <;> simp [this]
  · rfl

@[simp] theorem State.finishLoad_mem (s : State) (c : Nat) (j : LoadJob) : (State.finishLoad s c j).mem = s.mem := by
  simp [State.finishLoad]

@[simp] theorem State.keepJob_mem (s : State) (c : Nat) (j : LoadJob) : (State.keepJob s c j).mem = s.mem := by
  simp [State.keepJob]

@[simp] theorem farLookup_mem (c : Nat) (sj : State × LoadJob) (line : Nat) : (farLookup c sj line).1.mem = sj.1.mem := by
  simp only [farLookup]; (repeat' split) <;> simp

@[simp] theorem State.load_mem (s : State) (c slot lat : Nat) (xs : List Elem) (ldx : Bool) : (s.load c slot lat xs ldx).mem = s.mem := by
  simp [State.load, foldl_fst_mem]

@[simp] theorem State.retryLoads_mem (s : State) (c : Nat) : (State.retryLoads s c).mem = s.mem := by
  simp [State.retryLoads]

@[simp] theorem State.onJob_mem (s : State) (c : Nat) (p : LoadJob → Bool) (f : State → LoadJob → State × LoadJob) (hf : ∀ s j, (f s j).1.mem = s.mem) : (s.onJob c p f).mem = s.mem := by
  unfold State.onJob; split
  · rfl
  · simp only [State.settle_mem]; split <;> simp [hf]

@[simp] theorem State.takeFill_mem (s : State) (c line : Nat) (d : BitVec 512) : (State.takeFill s c line d).mem = s.mem := by
  unfold State.takeFill; (try dsimp only); (repeat' (first | (refine (foldl_mem _ (fun s x => ?_) _ _).trans ?_) | (refine (upTo_mem _ _ (fun s x => ?_) _).trans ?_) | (split <;> (first | (rename_i hh; obtain ⟨rfl, -⟩ := Prod.ext_iff.1 hh) | (rename_i hh _; obtain ⟨rfl, -⟩ := Prod.ext_iff.1 hh) | skip)))) <;> (first | (simp; done) | (simp [*]; done) | (simp_all; done))

@[simp] theorem farWindowFill_mem (c : CoreId) (s : State) : (farWindowFill c s).mem = s.mem := by
  unfold farWindowFill; (try dsimp only); (repeat' (first | (refine (foldl_mem _ (fun s x => ?_) _ _).trans ?_) | (refine (upTo_mem _ _ (fun s x => ?_) _).trans ?_) | (split <;> (first | (rename_i hh; obtain ⟨rfl, -⟩ := Prod.ext_iff.1 hh) | (rename_i hh _; obtain ⟨rfl, -⟩ := Prod.ext_iff.1 hh) | skip)))) <;> (first | (simp; done) | (simp [*]; done) | (simp_all; done))

@[simp] theorem State.seamLost_mem (s : State) (c : Nat) (j : LoadJob) (line : Nat) (r : State × LoadJob) : (s.seamLost c j line r).1.mem = r.1.mem := by
  unfold State.seamLost; (repeat' split) <;> simp

@[simp] theorem otherBenchReturn_mem (c : CoreId) (ue : Bool) (s : State) : (otherBenchReturn c ue s).mem = s.mem := by
  unfold otherBenchReturn; dsimp only
  split
  · apply State.onJob_mem
    intro s j
    split
    · split <;> simp
    · rfl
  · rfl

@[simp] theorem State.doStx_memWf (s : State) (c : Nat) (x : LArgs) (addr due : Nat) (data : Word) (hw : Memory.wf s.mem = true) : Memory.wf (State.doStx s c x addr due data).mem = true := by
  unfold State.doStx; (try dsimp only); (repeat' split) <;> (try simp_all (maxDischargeDepth := 12) (contextual := true)) <;> (rename_i hh; have := congrArg (fun x => Memory.wf x.1.mem) hh; simp_all (maxDischargeDepth := 12) (contextual := true))

@[simp] theorem State.endDrain_memWf (s : State) (c : Nat) (hw : Memory.wf s.mem = true) : Memory.wf (State.endDrain s c).mem = true := by
  unfold State.endDrain; (try dsimp only); (repeat' split) <;> (try simp_all (maxDischargeDepth := 12) (contextual := true)) <;> (rename_i hh; have := congrArg (fun x => Memory.wf x.1.mem) hh; simp_all (maxDischargeDepth := 12) (contextual := true))

@[simp] theorem State.drained_memWf (s : State) (c : Nat) (hw : Memory.wf s.mem = true) : Memory.wf (State.drained s c).mem = true := by
  simp [State.drained, *]

@[simp] theorem State.wakeBench_memWf (s : State) (b : Nat) (hw : Memory.wf s.mem = true) : Memory.wf (State.wakeBench s b).mem = true := by
  unfold State.wakeBench; (try dsimp only); (repeat' (first | (refine foldl_memWf _ (fun s x hw => ?_) _ _ ?_) | (refine upTo_memWf _ _ (fun s x hw => ?_) _ ?_) | (split <;> (first | (rename_i hh; obtain ⟨rfl, -⟩ := Prod.ext_iff.1 hh) | (rename_i hh _; obtain ⟨rfl, -⟩ := Prod.ext_iff.1 hh) | skip)))) <;> simp (maxDischargeDepth := 12) (contextual := true) [*]

@[simp] theorem lockEnd_memWf (c : CoreId) (s : State) (hw : Memory.wf s.mem = true) : Memory.wf (lockEnd c s).mem = true := by
  unfold lockEnd; (try dsimp only); (repeat' split) <;> (try simp_all (maxDischargeDepth := 12) (contextual := true)) <;> (rename_i hh; have := congrArg (fun x => Memory.wf x.1.mem) hh; simp_all (maxDischargeDepth := 12) (contextual := true))

/-! ### Machine/Scalar.lean -/

@[simp] theorem State.opRun_mem (s : State) (c : Nat) (flt : Option FltRec) (go : Bool) (f : State → State) (hf : ∀ s, (f s).mem = s.mem) : (s.opRun c flt go f).mem = s.mem := by
  unfold State.opRun; (repeat' split) <;> simp_all

@[simp] theorem State.opRun_memWf (s : State) (c : Nat) (flt : Option FltRec) (go : Bool) (f : State → State) (hf : ∀ s, Memory.wf s.mem = true → Memory.wf (f s).mem = true) (hw : Memory.wf s.mem = true) : Memory.wf (s.opRun c flt go f).mem = true := by
  unfold State.opRun; (repeat' split) <;> simp [*]

@[simp] theorem State.xEff_mem (s : State) (c : Nat) (op : XOp) (x : XArgs) : (State.xEff s c op x).mem = s.mem := by
  simp [State.xEff]

@[simp] theorem State.xRow_mem (s : State) (c : Nat) (op : XOp) (x : XArgs) : (State.xRow s c op x).mem = s.mem := by
  simp [State.xRow]

@[simp] theorem State.cmpEff_mem (s : State) (c slot pd cc : Nat) (a b : Word) : (State.cmpEff s c slot pd cc a b).mem = s.mem := by
  simp [State.cmpEff]

@[simp] theorem State.cmpRow_mem (s : State) (c : Nat) (x : CmpArgs) : (State.cmpRow s c x).mem = s.mem := by
  simp [State.cmpRow]

@[simp] theorem State.cmpiRow_mem (s : State) (c : Nat) (x : CmpiArgs) : (State.cmpiRow s c x).mem = s.mem := by
  simp [State.cmpiRow]

@[simp] theorem State.addiRow_mem (s : State) (c : Nat) (x : AddiArgs) : (State.addiRow s c x).mem = s.mem := by
  simp [State.addiRow]

@[simp] theorem State.logiRow_mem (s : State) (c : Nat) (x : LogiArgs) : (State.logiRow s c x).mem = s.mem := by
  simp [State.logiRow]

@[simp] theorem State.shiftiRow_mem (s : State) (c : Nat) (x : ShiftiArgs) : (State.shiftiRow s c x).mem = s.mem := by
  simp [State.shiftiRow]

@[simp] theorem State.shliRow_mem (s : State) (c : Nat) (x : ShliArgs) : (State.shliRow s c x).mem = s.mem := by
  simp [State.shliRow]

@[simp] theorem State.constRow_mem (s : State) (c : Nat) (x : ConstArgs) : (State.constRow s c x).mem = s.mem := by
  simp [State.constRow]

@[simp] theorem State.movRow_mem (s : State) (c : Nat) (x : MovArgs) : (State.movRow s c x).mem = s.mem := by
  simp [State.movRow]

@[simp] theorem State.movsrRow_mem (s : State) (c : Nat) (x : MovsrArgs) : (State.movsrRow s c x).mem = s.mem := by
  simp [State.movsrRow]

@[simp] theorem State.movaRow_mem (s : State) (c : Nat) (x : MovaArgs) : (State.movaRow s c x).mem = s.mem := by
  simp [State.movaRow]

@[simp] theorem State.popRow_mem (s : State) (c : Nat) (x : PopArgs) : (State.popRow s c x).mem = s.mem := by
  simp [State.popRow]

@[simp] theorem State.pmovRow_mem (s : State) (c : Nat) (x : PmovArgs) : (State.pmovRow s c x).mem = s.mem := by
  simp [State.pmovRow]

@[simp] theorem State.moviRow_mem (s : State) (c : Nat) (x : MoviArgs) : (State.moviRow s c x).mem = s.mem := by
  simp [State.moviRow]

@[simp] theorem State.pnotRow_mem (s : State) (c : Nat) (x : PnotArgs) : (State.pnotRow s c x).mem = s.mem := by
  simp [State.pnotRow]

/-! ### Machine/CoreLoads.lean -/

@[simp] theorem State.lEff_mem (s : State) (c : Nat) (f : LForm) (x : LArgs) : (State.lEff s c f x).mem = s.mem := by
  simp [State.lEff]

@[simp] theorem State.lRow_mem (s : State) (c : Nat) (f : LForm) (x : LArgs) : (State.lRow s c f x).mem = s.mem := by
  simp [State.lRow]

@[simp] theorem State.segldRow_mem (s : State) (c : Nat) (x : LArgs) : (State.segldRow s c x).mem = s.mem := by
  simp [State.segldRow]

@[simp] theorem State.ldxRow_mem (s : State) (c : Nat) (x : LArgs) : (State.ldxRow s c x).mem = s.mem := by
  simp [State.ldxRow]

@[simp] theorem State.stxRow_memWf (s : State) (c : Nat) (x : LArgs) (hw : Memory.wf s.mem = true) : Memory.wf (s.stxRow c x).mem = true := by
  unfold State.stxRow; refine State.opRun_memWf _ _ _ _ _ (fun s hw => ?_) hw
  dsimp only; split <;> simp [hw]

@[simp] theorem State.lockRow_mem (s : State) (c : Nat) (x : LArgs) : (State.lockRow s c x).mem = s.mem := by
  simp [State.lockRow]

@[simp] theorem State.vEff_mem (s : State) (c : Nat) (k : VKind) (wr : Bool) (x : VMemArgs) : (State.vEff s c k wr x).mem = s.mem := by
  simp [State.vEff]

@[simp] theorem State.vmRow_mem (s : State) (c : Nat) (k : VKind) (wr : Bool) (x : VMemArgs) : (State.vmRow s c k wr x).mem = s.mem := by
  simp [State.vmRow]

/-! ### Machine/Control.lean -/

@[simp] theorem State.lookupEarly_mem (s : State) (c : CoreId) (bs : List FBundle) : (State.lookupEarly s c bs).mem = s.mem := by
  unfold State.lookupEarly; (try dsimp only); (repeat' (first | (refine (foldl_mem _ (fun s x => ?_) _ _).trans ?_) | (refine (upTo_mem _ _ (fun s x => ?_) _).trans ?_) | (split <;> (first | (rename_i hh; obtain ⟨rfl, -⟩ := Prod.ext_iff.1 hh) | (rename_i hh _; obtain ⟨rfl, -⟩ := Prod.ext_iff.1 hh) | skip)))) <;> (first | (simp; done) | (simp [*]; done) | (simp_all; done))

@[simp] theorem State.mispredict_mem (s : State) (c : Nat) (taken : Bool) (tgt : Word) : (State.mispredict s c taken tgt).mem = s.mem := by
  unfold State.mispredict; (try dsimp only); (repeat' (first | (refine (foldl_mem _ (fun s x => ?_) _ _).trans ?_) | (refine (upTo_mem _ _ (fun s x => ?_) _).trans ?_) | (split <;> (first | (rename_i hh; obtain ⟨rfl, -⟩ := Prod.ext_iff.1 hh) | (rename_i hh _; obtain ⟨rfl, -⟩ := Prod.ext_iff.1 hh) | skip)))) <;> (first | (simp; done) | (simp [*]; done) | (simp_all; done))

@[simp] theorem State.transfer_mem (s : State) (c : Nat) (cond : Nat) (annul taken : Bool) (tgt : Word) (bub : Nat) (reg : Bool) : (State.transfer s c cond annul taken tgt bub reg).mem = s.mem := by
  simp [State.transfer]

@[simp] theorem State.brRow_mem (s : State) (c : Nat) (x : BrArgs) : (State.brRow s c x).mem = s.mem := by
  simp [State.brRow]

@[simp] theorem State.briRow_mem (s : State) (c : Nat) (x : BriArgs) : (State.briRow s c x).mem = s.mem := by
  simp [State.briRow]

@[simp] theorem State.brsRow_mem (s : State) (c : Nat) (x : BrsArgs) : (State.brsRow s c x).mem = s.mem := by
  simp [State.brsRow]

@[simp] theorem State.callRow_mem (s : State) (c : Nat) (x : CallArgs) : (State.callRow s c x).mem = s.mem := by
  simp [State.callRow]

@[simp] theorem State.retRow_mem (s : State) (c : Nat) (x : RetArgs) : (State.retRow s c x).mem = s.mem := by
  simp [State.retRow]

@[simp] theorem State.loopRow_mem (s : State) (c : Nat) (x : LoopArgs) : (State.loopRow s c x).mem = s.mem := by
  simp [State.loopRow]

@[simp] theorem State.sysRow_mem (s : State) (c : Nat) (dsOk lockOk : Bool) (x : SysArgs) (f : State → State) (hf : ∀ s, (f s).mem = s.mem) : (State.sysRow s c dsOk lockOk x f).mem = s.mem := by
  unfold State.sysRow; (repeat' split) <;> simp_all

@[simp] theorem State.gendEff_mem (s : State) (c cycle : Nat) : (State.gendEff s c cycle).mem = s.mem := by
  simp [State.gendEff]

@[simp] theorem State.waitEff_mem (s : State) (c : Nat) : (State.waitEff s c).mem = s.mem := by
  simp [State.waitEff]

@[simp] theorem State.drainEff_mem (s : State) (c : Nat) (sync : Bool) : (State.drainEff s c sync).mem = s.mem := by
  simp [State.drainEff]

@[simp] theorem State.swevRow_mem (s : State) (c : Nat) (x : SysArgs) : (State.swevRow s c x).mem = s.mem := by
  simp [State.swevRow]

@[simp] theorem State.brkEff_mem (s : State) (c : Nat) : (State.brkEff s c).mem = s.mem := by
  simp [State.brkEff]

@[simp] theorem State.gendRow_mem (s : State) (c : Nat) (x : SysArgs) (cycle : Nat) : (State.gendRow s c x cycle).mem = s.mem := by
  simp [State.gendRow]

@[simp] theorem State.waitRow_mem (s : State) (c : Nat) (x : SysArgs) : (State.waitRow s c x).mem = s.mem := by
  simp [State.waitRow]

@[simp] theorem State.isyncRow_mem (s : State) (c : Nat) (x : SysArgs) : (State.isyncRow s c x).mem = s.mem := by
  simp [State.isyncRow]

@[simp] theorem State.fenceRow_mem (s : State) (c : Nat) (x : SysArgs) : (State.fenceRow s c x).mem = s.mem := by
  simp [State.fenceRow]

@[simp] theorem State.brkRow_mem (s : State) (c : Nat) (x : SysArgs) : (State.brkRow s c x).mem = s.mem := by
  simp [State.brkRow]

@[simp] theorem State.nopRow_mem (s : State) (c : Nat) (x : SysArgs) : (State.nopRow s c x).mem = s.mem := by
  simp [State.nopRow]

/-! ### Machine/Grains.lean -/

@[simp] theorem State.afterBoundary_mem (s : State) (d : Nat) : (State.afterBoundary s d).mem = s.mem := by
  simp [State.afterBoundary]

@[simp] theorem grainBoundary_mem (d : DomId) (v : SourceView) (ns : SubNs) (s : State) : (grainBoundary d v ns s).mem = s.mem := by
  simp [grainBoundary]

@[simp] theorem stepDomain_mem (d : DomId) (ns : SubNs) (s : State) : (stepDomain d ns s).mem = s.mem := by
  simp [stepDomain]

@[simp] theorem State.thawFabric_memWf (s : State) (hw : Memory.wf s.mem = true) : Memory.wf (State.thawFabric s).mem = true := by
  unfold State.thawFabric; (try dsimp only); (repeat' (first | (refine foldl_memWf _ (fun s x hw => ?_) _ _ ?_) | (refine upTo_memWf _ _ (fun s x hw => ?_) _ ?_) | (split <;> (first | (rename_i hh; obtain ⟨rfl, -⟩ := Prod.ext_iff.1 hh) | (rename_i hh _; obtain ⟨rfl, -⟩ := Prod.ext_iff.1 hh) | skip)))) <;> simp (maxDischargeDepth := 12) (contextual := true) [*]

@[simp] theorem State.dropOrphans_mem (s : State) (d : Nat) : (State.dropOrphans s d).mem = s.mem := by
  simp [State.dropOrphans]

@[simp] theorem State.sendGrainStart_mem (s : State) (d : Nat) : (State.sendGrainStart s d).mem = s.mem := by
  simp [State.sendGrainStart]

@[simp] theorem State.resume_mem (s : State) (i : Nat) : (State.resume s i).mem = s.mem := by
  simp [State.resume]

@[simp] theorem fabricGrainStart_memWf (d : DomId) (resNs : Word) (s : State) (hw : Memory.wf s.mem = true) : Memory.wf (fabricGrainStart d resNs s).mem = true := by
  unfold fabricGrainStart; dsimp only; split
  · rw [State.leaveStep_mem, State.sendGrainStart_mem, State.modDom_mem]
    split <;> simp (contextual := true) [hw]
  · simp [hw]

@[simp] theorem State.katCut_mem (s : State) (c : Nat) : (State.katCut s c).mem = s.mem := by
  simp [State.katCut]

@[simp] theorem State.takeRegs_mem (s : State) (c : Nat) : (State.takeRegs s c).mem = s.mem := by
  simp [State.takeRegs]

@[simp] theorem State.missAtStart_mem (s : State) (old : DWord) (c : Nat) : (State.missAtStart s old c).mem = s.mem := by
  simp [State.missAtStart]

@[simp] theorem State.cutEvent_mem (s : State) (c : Nat) : (State.cutEvent s c).mem = s.mem := by
  simp [State.cutEvent]

@[simp] theorem State.forceAbandon_mem (s : State) (c : Nat) : (State.forceAbandon s c).mem = s.mem := by
  simp [State.forceAbandon]

@[simp] theorem State.dropTrigger_mem (s : State) (c : Nat) : (State.dropTrigger s c).mem = s.mem := by
  unfold State.dropTrigger; (try dsimp only); (repeat' (first | (refine (foldl_mem _ (fun s x => ?_) _ _).trans ?_) | (refine (upTo_mem _ _ (fun s x => ?_) _).trans ?_) | (split <;> (first | (rename_i hh; obtain ⟨rfl, -⟩ := Prod.ext_iff.1 hh) | (rename_i hh _; obtain ⟨rfl, -⟩ := Prod.ext_iff.1 hh) | skip)))) <;> (first | (simp; done) | (simp [*]; done) | (simp_all; done))

@[simp] theorem State.endOldWork_mem (s : State) (old g : DWord) (c : Nat) : (State.endOldWork s old g c).mem = s.mem := by
  simp only [State.endOldWork]; (repeat' split) <;> simp

@[simp] theorem State.coreGrain_mem (s : State) (old g : DWord) (c : Nat) : (State.coreGrain s old g c).mem = s.mem := by
  simp [State.coreGrain]

@[simp] theorem State.newReports_mem (s : State) (b : Nat) : (State.newReports s b).mem = s.mem := by
  simp [State.newReports]

@[simp] theorem State.clockChange_mem (s : State) (b : Nat) : (State.clockChange s b).mem = s.mem := by
  simp [State.clockChange]

@[simp] theorem State.trimDigs_mem (s : State) (b n : Nat) : (State.trimDigs s b n).mem = s.mem := by
  simp [State.trimDigs]

@[simp] theorem benchGrainStart_memWf (b : BenchId) (s : State) (hw : Memory.wf s.mem = true) : Memory.wf (benchGrainStart b s).mem = true := by
  unfold benchGrainStart; (try dsimp only); (repeat' split) <;> (try simp_all (maxDischargeDepth := 12) (contextual := true)) <;> (rename_i hh; have := congrArg (fun x => Memory.wf x.1.mem) hh; simp_all (maxDischargeDepth := 12) (contextual := true))

@[simp] theorem reportIntervalEnd_mem (b : BenchId) (s : State) : (reportIntervalEnd b s).mem = s.mem := by
  simp [reportIntervalEnd]

@[simp] theorem triggerFire_mem (c : CoreId) (s : State) : (triggerFire c s).mem = s.mem := by
  simp [triggerFire]

@[simp] theorem triggerLatest_mem (c : CoreId) (s : State) : (triggerLatest c s).mem = s.mem := by
  simp [triggerLatest]

@[simp] theorem coreDeadline_mem (c : CoreId) (s : State) : (coreDeadline c s).mem = s.mem := by
  simp [coreDeadline]

@[simp] theorem State.beginEvent_mem (s : State) (c : Nat) : (State.beginEvent s c).mem = s.mem := by
  simp [State.beginEvent]

@[simp] theorem eventProgramStart_mem (c : CoreId) (s : State) : (eventProgramStart c s).mem = s.mem := by
  simp [eventProgramStart]

@[simp] theorem waitWake_mem (c : CoreId) (s : State) : (waitWake c s).mem = s.mem := by
  simp only [waitWake]; (repeat' split) <;> simp

@[simp] theorem eventRaise_mem (s : State) : (eventRaise s).mem = s.mem := by
  simp only [eventRaise]; (repeat' split) <;> simp

@[simp] theorem tdigSend_mem (b : BenchId) (s : State) : (tdigSend b s).mem = s.mem := by
  simp [tdigSend]

/-! ### Machine/Vector.lean -/

@[simp] theorem State.mEff_mem (s : State) (c : Nat) (op : MOp) (x : MArgs) : (State.mEff s c op x).mem = s.mem := by
  simp [State.mEff]

@[simp] theorem State.mRow_mem (s : State) (c : Nat) (op : MOp) (x : MArgs) : (State.mRow s c op x).mem = s.mem := by
  simp [State.mRow]

@[simp] theorem State.mCmpRow_mem (s : State) (c maxCc : Nat) (f : FpEnv → Nat → Word → Word → Bool × Nat) (x : MCmpArgs) : (State.mCmpRow s c maxCc f x).mem = s.mem := by
  simp [State.mCmpRow]

@[simp] theorem State.accRow_mem (s : State) (c : Nat) (fault : Option FltRec) (go : Bool) (slot : Fin 2) (n : BitVec 2) (fn : AccFn) (va vb : Nat) (m : BitVec 16) : (State.accRow s c fault go slot n fn va vb m).mem = s.mem := by
  simp [State.accRow]

@[simp] theorem State.macRow_mem (s : State) (c : Nat) (fn : AccFn) (x : AccArgs) : (State.macRow s c fn x).mem = s.mem := by
  simp [State.macRow]

@[simp] theorem State.vacrRow_mem (s : State) (c : Nat) (x : AccMovArgs) : (State.vacrRow s c x).mem = s.mem := by
  simp [State.vacrRow]

@[simp] theorem State.vacxRow_mem (s : State) (c : Nat) (x : AccMovArgs) : (State.vacxRow s c x).mem = s.mem := by
  simp [State.vacxRow]

@[simp] theorem State.schedF_mem (s : State) (c slot lat n : Nat) (r : Word × Nat) : (State.schedF s c slot lat n r).mem = s.mem := by
  simp [State.schedF]

@[simp] theorem State.fRow_mem (s : State) (c lat : Nat) (f : FpEnv → Word → Word → Word → Word × Nat) (x : FArgs) : (State.fRow s c lat f x).mem = s.mem := by
  simp [State.fRow]

@[simp] theorem State.fcmpRow_mem (s : State) (c : Nat) (x : FArgs) : (State.fcmpRow s c x).mem = s.mem := by
  simp [State.fcmpRow]

@[simp] theorem State.xferEff_mem (s : State) (c : Nat) (f : Xf) (x : XferArgs) : (State.xferEff s c f x).mem = s.mem := by
  simp only [State.xferEff]; (repeat' split) <;> simp

@[simp] theorem State.xferRow_mem (s : State) (c : Nat) (f : Xf) (x : XferArgs) : (State.xferRow s c f x).mem = s.mem := by
  simp [State.xferRow]

end Sys2Proof.Machine
end

