-- ==== Sys2Proof/Laws/MemUnit.lean ====
section
/-! SUPPORT. What the operations and rows of the faults and power, the register file, the monitor and Spall do to the bytes of memory: `_mem` says that memory is as it was,
`_memWf` that its canonical form is kept. -/

namespace Sys2Proof.Machine

/-! ### Machine/MonBase.lean -/

@[simp] theorem State.putReply_mem (s : State) (ws : List Word) : (State.putReply s ws).mem = s.mem := by
  simp [State.putReply]

@[simp] theorem State.monSay_mem (s : State) (ch : MonChan) (op tag : Byte) (mstat : Nat) (busy : Bool) (data : List Word) : (State.monSay s ch op tag mstat busy data).mem = s.mem := by
  simp only [State.monSay]; (repeat' split) <;> simp

@[simp] theorem State.monRefuse_mem (s : State) (ch : MonChan) (r : List Byte) : (State.monRefuse s ch r).mem = s.mem := by
  simp [State.monRefuse]

@[simp] theorem State.monPop_mem (s : State) : (State.monPop s).mem = s.mem := rfl

@[simp] theorem State.monAuto_mem (s : State) : (State.monAuto s).mem = s.mem := by
  unfold State.monAuto; refine upTo_mem _ _ _ (fun s x => ?_)
  (repeat' split) <;> simp

@[simp] theorem State.monReply_mem (s : State) (ch : MonChan) (op tag : Byte) (mstat : Nat) (busy : Bool) (data : List Word) : (State.monReply s ch op tag mstat busy data).mem = s.mem := by
  simp only [State.monReply]; split <;> simp

@[simp] theorem State.monTake_mem (s : State) (ch : MonChan) : (State.monTake s ch).mem = s.mem := by
  unfold State.monTake; split <;> simp

@[simp] theorem mbxGo_mem (v : Word) (s : State) : (mbxGo v s).mem = s.mem := by
  simp [mbxGo]

@[simp] theorem mspFrameReceive_mem (f : SerialFrame) (s : State) : (mspFrameReceive f s).mem = s.mem := by
  unfold mspFrameReceive; split <;> (repeat' split) <;> simp

/-! ### Machine/Faults.lean -/

@[simp] theorem State.emptySb_memWf (s : State) (c : Nat) (hw : Memory.wf s.mem = true) : Memory.wf (State.emptySb s c).mem = true := by
  unfold State.emptySb; (try dsimp only); (repeat' (first | (refine foldl_memWf _ (fun s x hw => ?_) _ _ ?_) | (refine upTo_memWf _ _ (fun s x hw => ?_) _ ?_) | (split <;> (first | (rename_i hh; obtain ⟨rfl, -⟩ := Prod.ext_iff.1 hh) | (rename_i hh _; obtain ⟨rfl, -⟩ := Prod.ext_iff.1 hh) | skip)))) <;> simp (maxDischargeDepth := 12) (contextual := true) [*]

@[simp] theorem State.fthReset_mem (s : State) (b : Nat) : (State.fthReset s b).mem = s.mem := by
  unfold State.fthReset; (try dsimp only); (repeat' (first | (refine (foldl_mem _ (fun s x => ?_) _ _).trans ?_) | (refine (upTo_mem _ _ (fun s x => ?_) _).trans ?_) | (split <;> (first | (rename_i hh; obtain ⟨rfl, -⟩ := Prod.ext_iff.1 hh) | (rename_i hh _; obtain ⟨rfl, -⟩ := Prod.ext_iff.1 hh) | skip)))) <;> (first | (simp; done) | (simp [*]; done) | (simp_all; done))

@[simp] theorem State.benchDown_memWf (s : State) (b goal : Nat) (hw : Memory.wf s.mem = true) :
    Memory.wf (s.benchDown b goal).mem = true := by
  simp only [State.benchDown, State.setBench_mem, State.setFld_mem]
  rw [foldl_mem _ (fun s x => by simp), State.fthReset_mem]
  exact foldl_memWf _ (fun s x hw => State.emptySb_memWf _ _ (by simpa using hw)) _ _ hw

@[simp] theorem State.benchReturn_mem (s : State) (b : Nat) : (State.benchReturn s b).mem = s.mem := by
  simp [State.benchReturn]

@[simp] theorem State.benchRequest_memWf (s : State) (b r : Nat) (hw : Memory.wf s.mem = true) :
    Memory.wf (s.benchRequest b r).mem = true := by
  unfold State.benchRequest
  repeat' split
  all_goals first | simpa using hw | exact State.benchDown_memWf _ _ _ (by simpa using hw)

@[simp] theorem benchPwrWrite_memWf (b : BenchId) (v : Word) (s : State) (hw : Memory.wf s.mem = true) :
    Memory.wf (benchPwrWrite b v s).mem = true := by
  unfold benchPwrWrite
  dsimp only
  repeat' split
  all_goals first | simpa using hw | exact State.benchRequest_memWf _ _ _ (by simpa using hw)

@[simp] theorem State.banksFollow_memWf (s : State) (b : Nat) (hw : Memory.wf s.mem = true) :
    Memory.wf (s.banksFollow b).mem = true := by
  unfold State.banksFollow
  refine foldl_memWf _ (fun s x hw => ?_) _ _ hw
  dsimp only
  split <;> simp [hw]

@[simp] theorem benchPowerChangeDone_memWf (b : BenchId) (s : State) (hw : Memory.wf s.mem = true) :
    Memory.wf (benchPowerChangeDone b s).mem = true := by
  unfold benchPowerChangeDone
  dsimp only
  split
  · exact hw
  · rename_i goal _
    have h2 (t : State) (ht : t.mem = s.mem) : Memory.wf (t.banksFollow b.val).mem = true :=
      State.banksFollow_memWf _ _ (by rw [ht]; exact hw)
    have h3 (t : State) (ht : Memory.wf t.mem = true) :
        Memory.wf (if goal = 1 then
          (List.finRange 8).foldl (fun s (i : Fin 8) => coreResetDone ⟨8 * b.val + i.val, by omega⟩ s)
            ((t.setFld (A.benchClkstat b.val) 0 11 (t.fld (A.benchClk b.val) 0 11)).setFld (A.benchClkstat b.val) 11 2 1)
        else if goal = 3 then t.fwcInvalidate b.val (fun _ => true) else t).mem = true := by
      split
      · rw [foldl_mem _ (fun s x => by simp)]; simpa using ht
      · split <;> simpa using ht
    split
    · exact State.benchRequest_memWf _ _ _ (h3 _ (h2 _ (by simp)))
    · exact h3 _ (h2 _ (by simp))

@[simp] theorem benchClkWrite_mem (b : BenchId) (v : Word) (s : State) : (benchClkWrite b v s).mem = s.mem := by
  simp [benchClkWrite]

@[simp] theorem benchPllLock_mem (b : BenchId) (s : State) : (benchPllLock b s).mem = s.mem := by
  simp [benchPllLock]

@[simp] theorem benchRst_mem (b : BenchId) (s : State) : (benchRst b s).mem = s.mem := by
  simp [benchRst]

@[simp] theorem benchResetDone_mem (b : BenchId) (s : State) : (benchResetDone b s).mem = s.mem := by
  simp [benchResetDone]

@[simp] theorem State.standbyDown_memWf (s : State) (hw : Memory.wf s.mem = true) : Memory.wf s.standbyDown.mem = true := by
  unfold State.standbyDown; dsimp only
  refine foldl_memWf _ (fun s b hw => ?_) _ _ (by simp [hw])
  (repeat' split) <;> simp [hw]

@[simp] theorem State.pwrBegin_memWf (s : State) (standby : Bool) (hw : Memory.wf s.mem = true) : Memory.wf (s.pwrBegin standby).mem = true := by
  unfold State.pwrBegin; dsimp only; split <;> simp [hw]

@[simp] theorem State.pwrFollow_memWf (s : State) (hw : Memory.wf s.mem = true) : Memory.wf s.pwrFollow.mem = true := by
  unfold State.pwrFollow; dsimp only; (repeat' split) <;> simp [hw]

@[simp] theorem sysPwrWrite_memWf (v : Word) (s : State) (hw : Memory.wf s.mem = true) : Memory.wf (sysPwrWrite v s).mem = true := by
  unfold sysPwrWrite; dsimp only; (repeat' split) <;> simp [hw]

@[simp] theorem State.selfRefresh_mem (s : State) (on : Bool) : (State.selfRefresh s on).mem = s.mem := by
  unfold State.selfRefresh; (try dsimp only); (repeat' (first | (refine (foldl_mem _ (fun s x => ?_) _ _).trans ?_) | (refine (upTo_mem _ _ (fun s x => ?_) _).trans ?_) | (split <;> (first | (rename_i hh; obtain ⟨rfl, -⟩ := Prod.ext_iff.1 hh) | (rename_i hh _; obtain ⟨rfl, -⟩ := Prod.ext_iff.1 hh) | skip)))) <;> (first | (simp; done) | (simp [*]; done) | (simp_all; done))

@[simp] theorem State.benchesSettle_memWf (s : State) (hw : Memory.wf s.mem = true) : Memory.wf (State.benchesSettle s).mem = true := by
  unfold State.benchesSettle; (try dsimp only); (repeat' (first | (refine foldl_memWf _ (fun s x hw => ?_) _ _ ?_) | (refine upTo_memWf _ _ (fun s x hw => ?_) _ ?_) | (split <;> (first | (rename_i hh; obtain ⟨rfl, -⟩ := Prod.ext_iff.1 hh) | (rename_i hh _; obtain ⟨rfl, -⟩ := Prod.ext_iff.1 hh) | skip)))) <;> simp (maxDischargeDepth := 12) (contextual := true) [*]

@[simp] theorem powerStateChangeDone_memWf (s : State) (hw : Memory.wf s.mem = true) : Memory.wf (powerStateChangeDone s).mem = true := by
  unfold powerStateChangeDone; split
  · exact hw
  · dsimp only; apply State.pwrFollow_memWf; split
    · simp [hw]
    · refine foldl_memWf _ (fun s b hw => ?_) _ _ (by simp [hw])
      split <;> simp [hw]

@[simp] theorem powerOnReset_mem (p : StrapPins) (s : State) : (powerOnReset p s).mem = [] := by simp [powerOnReset]

@[simp] theorem resetNAssert_memWf (lowNs : Nat) (s : State) (hw : Memory.wf s.mem = true) : Memory.wf (resetNAssert lowNs s).mem = true := by
  unfold resetNAssert; (repeat' split) <;> simp_all (maxDischargeDepth := 12) (contextual := true)

@[simp] theorem State.headIndex_mem (s : State) : (State.headIndex s).mem = s.mem := by
  simp [State.headIndex]

@[simp] theorem bootReady_mem (s : State) : (bootReady s).mem = s.mem := by
  simp [bootReady]

@[simp] theorem State.setTemp_mem (s : State) (sensor temp : Nat) : (State.setTemp s sensor temp).mem = s.mem := by
  simp [State.setTemp]

@[simp] theorem thermalWarn_mem (sensor : Fin 32) (temp : BitVec 16) (s : State) : (thermalWarn sensor temp s).mem = s.mem := by
  simp [thermalWarn]

@[simp] theorem State.latchOrder_mem (s : State) : (State.latchOrder s).mem = s.mem := by
  simp [State.latchOrder]

@[simp] theorem thermalTrip_memWf (sensor : Fin 32) (temp : BitVec 16) (s : State) (hw : Memory.wf s.mem = true) : Memory.wf (thermalTrip sensor temp s).mem = true := by
  unfold thermalTrip; dsimp only; split
  · apply State.benchesSettle_memWf; simp [hw]
  · exact hw

@[simp] theorem thermalResetHoldEnd_mem (s : State) : (thermalResetHoldEnd s).mem = s.mem := by
  simp [thermalResetHoldEnd]

@[simp] theorem railFault_memWf (rail : Fin 9) (s : State) (hw : Memory.wf s.mem = true) : Memory.wf (railFault rail s).mem = true := by
  simp [railFault, *]

@[simp] theorem State.foremanLost_mem (s : State) : (State.foremanLost s).mem = s.mem := by
  simp [State.foremanLost]

@[simp] theorem foremanRestart_mem (code : Word) (s : State) : (foremanRestart code s).mem = s.mem := by
  simp [foremanRestart]

@[simp] theorem clockUnlock_mem (i : IslandId) (s : State) : (clockUnlock i s).mem = s.mem := by
  simp [clockUnlock]

@[simp] theorem clockRelock_mem (i : IslandId) (s : State) : (clockRelock i s).mem = s.mem := by
  simp [clockRelock]

@[simp] theorem refLoss_mem (s : State) : (refLoss s).mem = s.mem := by
  simp [refLoss]

@[simp] theorem referenceReturn_memWf (s : State) (hw : Memory.wf s.mem = true) : Memory.wf (referenceReturn s).mem = true := by
  unfold referenceReturn; (repeat' split) <;> simp_all (maxDischargeDepth := 12) (contextual := true)

@[simp] theorem configUe_mem (store : BitVec 3) (entry : BitVec 16) (s : State) : (configUe store entry s).mem = s.mem := by
  simp only [configUe]; (repeat' split) <;> simp

/-! ### Machine/HostWin.lean -/

@[simp] theorem State.winRead_mem (s : State) (off n : Nat) (busy : Bool) : (State.winRead s off n busy).1.mem = s.mem := by
  unfold State.winRead; (try dsimp only); (repeat' (split <;> (try (rename_i hh; obtain ⟨rfl, -⟩ := Prod.ext_iff.1 hh)))) <;> (first | (simp; done) | (simp [*]; done) | (simp_all; done))

@[simp] theorem State.winWrite_memWf (s : State) (off : Nat) (bs : List Byte) (busy : Bool) (hw : Memory.wf s.mem = true) : Memory.wf (s.winWrite off bs busy).mem = true := by
  unfold State.winWrite
  (repeat' (split <;> (first | (rename_i hh; obtain ⟨rfl, -⟩ := Prod.ext_iff.1 hh) | skip)))  <;> simp [hw]

@[simp] theorem State.winReadSeam_mem (s : State) (off n : Nat) (busy seam : Bool) : (State.winReadSeam s off n busy seam).1.mem = s.mem := by
  unfold State.winReadSeam; (try dsimp only); (repeat' (first | (refine (foldl_mem _ (fun s x => ?_) _ _).trans ?_) | (refine (upTo_mem _ _ (fun s x => ?_) _).trans ?_) | (split <;> (first | (rename_i hh; obtain ⟨rfl, -⟩ := Prod.ext_iff.1 hh) | (rename_i hh _; obtain ⟨rfl, -⟩ := Prod.ext_iff.1 hh) | skip)))) <;> (first | (simp; done) | (simp [*]; done) | (simp_all; done))

@[simp] theorem State.winWriteSeam_memWf (s : State) (off : Nat) (bs : List Byte) (busy seam : Bool) (hw : Memory.wf s.mem = true) : Memory.wf (State.winWriteSeam s off bs busy seam).mem = true := by
  unfold State.winWriteSeam; (try dsimp only); (repeat' (first | (refine foldl_memWf _ (fun s x hw => ?_) _ _ ?_) | (refine upTo_memWf _ _ (fun s x hw => ?_) _ ?_) | (split <;> (first | (rename_i hh; obtain ⟨rfl, -⟩ := Prod.ext_iff.1 hh) | (rename_i hh _; obtain ⟨rfl, -⟩ := Prod.ext_iff.1 hh) | skip)))) <;> simp (maxDischargeDepth := 12) (contextual := true) [*]

@[simp] theorem hostWindowAccess_memWf (off : BitVec 30) (a : HostAcc) (busy seam : List Nat) (s : State) (hw : Memory.wf s.mem = true) : Memory.wf (hostWindowAccess off a busy seam s).mem = true := by
  unfold hostWindowAccess; (try dsimp only); (repeat' (first | (refine foldl_memWf _ (fun s x hw => ?_) _ _ ?_) | (refine upTo_memWf _ _ (fun s x hw => ?_) _ ?_) | (split <;> (first | (rename_i hh; obtain ⟨rfl, -⟩ := Prod.ext_iff.1 hh) | (rename_i hh _; obtain ⟨rfl, -⟩ := Prod.ext_iff.1 hh) | skip)))) <;> simp (maxDischargeDepth := 12) (contextual := true) [*]

/-! ### Machine/Issue.lean -/

@[simp] theorem State.runOp_memWf (s : State) (c : Nat) (i : Instr) (hw : Memory.wf s.mem = true) : Memory.wf (s.runOp c i).mem = true := by
  unfold State.runOp; split <;> simp [hw]

@[simp] theorem State.readAhead_mem (s : State) (c : Nat) (b : FBundle) : (State.readAhead s c b).mem = s.mem := by
  unfold State.readAhead; (try dsimp only); (repeat' (first | (refine (foldl_mem _ (fun s x => ?_) _ _).trans ?_) | (refine (upTo_mem _ _ (fun s x => ?_) _).trans ?_) | (split <;> (first | (rename_i hh; obtain ⟨rfl, -⟩ := Prod.ext_iff.1 hh) | (rename_i hh _; obtain ⟨rfl, -⟩ := Prod.ext_iff.1 hh) | skip)))) <;> (first | (simp; done) | (simp [*]; done) | (simp_all; done))

@[simp] theorem State.refillPath_mem (s : State) (c : Nat) (b : FBundle) (n : Nat) (jumped : Bool) : (State.refillPath s c b n jumped).mem = s.mem := by
  simp [State.refillPath]

@[simp] theorem State.beginBundle_mem (s : State) (c : Nat) (b : FBundle) : (State.beginBundle s c b).mem = s.mem := by
  simp [State.beginBundle]

@[simp] theorem State.nextPc_mem (s : State) (c : Nat) (redirect : Bool) : (State.nextPc s c redirect).mem = s.mem := by
  simp [State.nextPc]

@[simp] theorem State.countBundle_mem (s : State) (c : Nat) (held : Bool) (is : List Instr) : (State.countBundle s c held is).mem = s.mem := by
  simp [State.countBundle]

@[simp] theorem State.reachE1_mem (s : State) (c : CoreId) (b : FBundle) (ahead : Nat) (held : Bool) : (State.reachE1 s c b ahead held).mem = s.mem := by
  simp only [State.reachE1]; (repeat' split) <;> simp

@[simp] theorem State.fetchFault_mem (s : State) (c cause : Nat) (code : Bool) : (State.fetchFault s c cause code).mem = s.mem := by
  simp [State.fetchFault]

@[simp] theorem State.presentAgain_memWf (s : State) (c : Nat) (hw : Memory.wf s.mem = true) : Memory.wf (State.presentAgain s c).mem = true := by
  unfold State.presentAgain; (try dsimp only); (repeat' (first | (refine foldl_memWf _ (fun s x hw => ?_) _ _ ?_) | (refine upTo_memWf _ _ (fun s x hw => ?_) _ ?_) | (split <;> (first | (rename_i hh; obtain ⟨rfl, -⟩ := Prod.ext_iff.1 hh) | (rename_i hh _; obtain ⟨rfl, -⟩ := Prod.ext_iff.1 hh) | skip)))) <;> simp (maxDischargeDepth := 12) (contextual := true) [*]

@[simp] theorem State.issue_memWf (s : State) (c : CoreId) (ahead : Nat) (hw : Memory.wf s.mem = true) :
    Memory.wf (s.issue c ahead).mem = true := by
  have h (p q : Bool) (a n : Nat) : (if p then s else if q then s.eccRead a n else s.denied (bankOf a) c.val a true).mem = s.mem := by
    repeat' split
    all_goals simp
  unfold State.issue
  dsimp only
  split
  · exact hw
  split
  · exact State.presentAgain_memWf _ _ hw
  split
  · simpa using hw
  split
  · simpa using hw
  split
  · simpa using hw
  split
  · rw [State.fetchFault_mem, h _ _ _ _]; exact hw
  · rw [State.reachE1_mem, h _ _ _ _]; exact hw

@[simp] theorem bundleIssue_memWf (c : CoreId) (ahead : Fin 9) (s : State) (hw : Memory.wf s.mem = true) : Memory.wf (bundleIssue c ahead s).mem = true := by
  unfold bundleIssue; (try dsimp only); (repeat' (first | (refine foldl_memWf _ (fun s x hw => ?_) _ _ ?_) | (refine upTo_memWf _ _ (fun s x hw => ?_) _ ?_) | (split <;> (first | (rename_i hh; obtain ⟨rfl, -⟩ := Prod.ext_iff.1 hh) | (rename_i hh _; obtain ⟨rfl, -⟩ := Prod.ext_iff.1 hh) | skip)))) <;> simp (maxDischargeDepth := 12) (contextual := true) [*]

/-! ### Machine/RegFile.lean -/

@[simp] theorem State.regRead_mem (s : State) (off : Nat) : (State.regRead s off).1.mem = s.mem := by
  simp [State.regRead]

@[simp] theorem State.fieldWrite_mem (s : State) (off : Nat) (v : Word) (lo w : Nat) (bad : Nat → Bool) : (State.fieldWrite s off v lo w bad).mem = s.mem := by
  simp [State.fieldWrite]

@[simp] theorem State.sysWrite_memWf (s : State) (off : Nat) (v : Word) (hw : Memory.wf s.mem = true) : Memory.wf (s.sysWrite off v).mem = true := by
  unfold State.sysWrite; (repeat' split) <;> simp [hw]

@[simp] theorem State.evtWrite_mem (s : State) (off : Nat) (v : Word) : (State.evtWrite s off v).mem = s.mem := by
  simp only [State.evtWrite]; (repeat' split) <;> simp

@[simp] theorem State.strmPageWrite_mem (s : State) (off : Nat) (v : Word) : (State.strmPageWrite s off v).mem = s.mem := by
  simp [State.strmPageWrite]

@[simp] theorem State.tapWrite_mem (s : State) (off : Nat) (v : Word) : (State.tapWrite s off v).mem = s.mem := by
  simp only [State.tapWrite]; (repeat' split) <;> simp

@[simp] theorem State.linkWrite_mem (s : State) (off : Nat) (v : Word) : (State.linkWrite s off v).mem = s.mem := by
  simp [State.linkWrite]

@[simp] theorem State.dmaPageWrite_memWf (s : State) (off : Nat) (v : Word) (hw : Memory.wf s.mem = true) : Memory.wf (State.dmaPageWrite s off v).mem = true := by
  unfold State.dmaPageWrite; (try dsimp only); (repeat' (first | (refine foldl_memWf _ (fun s x hw => ?_) _ _ ?_) | (refine upTo_memWf _ _ (fun s x hw => ?_) _ ?_) | (split <;> (first | (rename_i hh; obtain ⟨rfl, -⟩ := Prod.ext_iff.1 hh) | (rename_i hh _; obtain ⟨rfl, -⟩ := Prod.ext_iff.1 hh) | skip)))) <;> simp (maxDischargeDepth := 12) (contextual := true) [*]

@[simp] theorem State.benchCtlWrite_mem (s : State) (b : Nat) (v : Word) : (State.benchCtlWrite s b v).mem = s.mem := by
  simp [State.benchCtlWrite]

@[simp] theorem State.fltStatWrite_mem (s : State) (off : Nat) (v : Word) : (State.fltStatWrite s off v).mem = s.mem := by
  simp [State.fltStatWrite]

@[simp] theorem State.perfCtlWrite_mem (s : State) (c : Nat) (v : Word) : (State.perfCtlWrite s c v).mem = s.mem := by
  simp [State.perfCtlWrite]

@[simp] theorem State.benchPageWrite_memWf (s : State) (who off : Nat) (v : Word) (hw : Memory.wf s.mem = true) : Memory.wf (s.benchPageWrite who off v).mem = true := by
  simp only [State.benchPageWrite]; (repeat' split) <;> simp [hw]

@[simp] theorem State.testWrite_mem (s : State) (off : Nat) (v : Word) : (State.testWrite s off v).mem = s.mem := by
  simp [State.testWrite]

@[simp] theorem State.pf1Write_mem (s : State) (off : Nat) (v : Word) : (State.pf1Write s off v).mem = s.mem := by
  simp [State.pf1Write]

@[simp] theorem State.regWrite_memWf (s : State) (who off : Nat) (v : Word) (hw : Memory.wf s.mem = true) : Memory.wf (s.regWrite who off v).mem = true := by
  unfold State.regWrite; dsimp only; (repeat' split) <;> simp [hw]

@[simp] theorem State.keyBreak_mem (s : State) (who off : Nat) : (State.keyBreak s who off).mem = s.mem := by
  simp [State.keyBreak]

@[simp] theorem State.readReg_mem (s : State) (who off : Nat) : (State.readReg s who off).1.mem = s.mem := by
  simp [State.readReg]

@[simp] theorem State.writeReg_memWf (s : State) (who off : Nat) (v : Word) (hw : Memory.wf s.mem = true) : Memory.wf (s.writeReg who off v).mem = true := by
  unfold State.writeReg; dsimp only; split
  · apply State.regWrite_memWf; simpa using hw
  · simpa using hw

@[simp] theorem State.readBad_mem (s : State) (who off : Nat) : (State.readBad s who off).1.mem = s.mem := by
  unfold State.readBad; (try dsimp only); (repeat' (first | (refine (foldl_mem _ (fun s x => ?_) _ _).trans ?_) | (refine (upTo_mem _ _ (fun s x => ?_) _).trans ?_) | (split <;> (first | (rename_i hh; obtain ⟨rfl, -⟩ := Prod.ext_iff.1 hh) | (rename_i hh _; obtain ⟨rfl, -⟩ := Prod.ext_iff.1 hh) | skip)))) <;> (first | (simp; done) | (simp [*]; done) | (simp_all; done))

@[simp] theorem State.writeBad_mem (s : State) (who off : Nat) : (State.writeBad s who off).mem = s.mem := by
  unfold State.writeBad; (try dsimp only); (repeat' (first | (refine (foldl_mem _ (fun s x => ?_) _ _).trans ?_) | (refine (upTo_mem _ _ (fun s x => ?_) _).trans ?_) | (split <;> (first | (rename_i hh; obtain ⟨rfl, -⟩ := Prod.ext_iff.1 hh) | (rename_i hh _; obtain ⟨rfl, -⟩ := Prod.ext_iff.1 hh) | skip)))) <;> (first | (simp; done) | (simp [*]; done) | (simp_all; done))

@[simp] theorem registerWrite_memWf (off : BitVec 33) (who : Requester) (d : RegData) (s : State) (hw : Memory.wf s.mem = true) : Memory.wf (registerWrite off who d s).mem = true := by
  unfold registerWrite; dsimp only; (repeat' split) <;> simp [hw, State.writeBad]

@[simp] theorem dataBack_mem (who : Nat) (r : State × Word) : (dataBack who r).mem = r.1.mem := by
  unfold dataBack; (try dsimp only); (repeat' (first | (refine (foldl_mem _ (fun s x => ?_) _ _).trans ?_) | (refine (upTo_mem _ _ (fun s x => ?_) _).trans ?_) | (split <;> (first | (rename_i hh; obtain ⟨rfl, -⟩ := Prod.ext_iff.1 hh) | (rename_i hh _; obtain ⟨rfl, -⟩ := Prod.ext_iff.1 hh) | skip)))) <;> (first | (simp; done) | (simp [*]; done) | (simp_all; done))

@[simp] theorem counterReadClear_mem (off : BitVec 33) (who : Requester) (n : RegSize) (s : State) : (counterReadClear off who n s).mem = s.mem := by
  unfold counterReadClear; (try dsimp only); (repeat' (first | (refine (foldl_mem _ (fun s x => ?_) _ _).trans ?_) | (refine (upTo_mem _ _ (fun s x => ?_) _).trans ?_) | (split <;> (first | (rename_i hh; obtain ⟨rfl, -⟩ := Prod.ext_iff.1 hh) | (rename_i hh _; obtain ⟨rfl, -⟩ := Prod.ext_iff.1 hh) | skip)))) <;> (first | (simp; done) | (simp [*]; done) | (simp_all; done))

@[simp] theorem State.putCtl_memWf (s : State) (c : Nat) (ps : List StPart) (hw : Memory.wf s.mem = true) : Memory.wf (s.putCtl c ps).mem = true := by
  unfold State.putCtl; exact foldl_memWf _ (fun s p hw => State.writeReg_memWf _ _ _ _ hw) _ _ hw

@[simp] theorem storeBufferWrite_memWf (c : CoreId) (s : State) (hw : Memory.wf s.mem = true) : Memory.wf (storeBufferWrite c s).mem = true := by
  have hf : Memory.wf s.flushStores.mem = true := State.flushStores_memWf _ hw
  unfold storeBufferWrite; dsimp only; split
  · exact hf
  · split
    · exact hf
    · split <;> simp [hf]

@[simp] theorem controlLoadReturn_mem (c : CoreId) (s : State) : (controlLoadReturn c s).mem = s.mem := by
  unfold controlLoadReturn; dsimp only; split
  · rfl
  · refine State.onJob_mem _ _ _ _ fun s j => ?_
    split <;> simp

/-! ### Machine/Monitor.lean -/

@[simp] theorem State.dbgRead_mem (s : State) (a : Nat) (live busy : Bool) : (State.dbgRead s a live busy).1.mem = s.mem := by
  unfold State.dbgRead; (try dsimp only); (repeat' (split <;> (try (rename_i hh; obtain ⟨rfl, -⟩ := Prod.ext_iff.1 hh)))) <;> (first | (simp; done) | (simp [*]; done) | (simp_all; done))

@[simp] theorem State.dbgWrite_memWf (s : State) (a : Nat) (v : Word) (busy : Bool) (hw : Memory.wf s.mem = true) : Memory.wf (s.dbgWrite a v busy).mem = true := by
  unfold State.dbgWrite
  (repeat' split) <;> simp [hw]

@[simp] theorem State.dbgReads_mem (s : State) (a n : Nat) (live : Bool) (busy : List Nat) : (State.dbgReads s a n live busy).1.mem = s.mem := by
  simp [State.dbgReads]

@[simp] theorem State.monDo_mem (s : State) (ch : MonChan) (req : List Byte) (argOk wait : Bool) (f : State → State) (hf : ∀ s, (f s).mem = s.mem) : (State.monDo s ch req argOk wait f).mem = s.mem := by
  unfold State.monDo; dsimp only; (repeat' split) <;> simp [hf]

@[simp] theorem State.monDo_memWf (s : State) (ch : MonChan) (req : List Byte) (argOk wait : Bool) (f : State → State) (hf : ∀ s, Memory.wf s.mem = true → Memory.wf (f s).mem = true) (hw : Memory.wf s.mem = true) : Memory.wf (State.monDo s ch req argOk wait f).mem = true := by
  unfold State.monDo; dsimp only; (repeat' split) <;> first | exact hf _ (by simp [hw]) | simp [hw]

@[simp] theorem monRead_mem (ch : MonChan) (tag : Byte) (addr : BitVec 48) (count : BitVec 16) (live : Bool) (busy : List Nat) (s : State) : (monRead ch tag addr count live busy s).mem = s.mem := by
  simp [monRead]

@[simp] theorem monWrite_memWf (ch : MonChan) (tag : Byte) (addr : BitVec 48) (count : BitVec 16) (ws : List Word) (busy : List Nat) (s : State) (hw : Memory.wf s.mem = true) : Memory.wf (monWrite ch tag addr count ws busy s).mem = true := by
  unfold monWrite; dsimp only; split
  · exact hw
  · refine State.monDo_memWf _ _ _ _ _ _ (fun s hw => ?_) hw
    rw [State.monReply_mem]; exact foldl_memWf _ (fun s x hw => by simp [hw]) _ _ hw

@[simp] theorem State.monCore_mem (s : State) (ch : MonChan) (op : Nat) (tag core : Byte) (rest : List Byte) (halted argOk : Bool) (f : State → Nat → State) (hf : ∀ s i, (f s i).mem = s.mem) : (State.monCore s ch op tag core rest halted argOk f).mem = s.mem := by
  unfold State.monCore; (repeat' split) <;> simp_all

@[simp] theorem State.monCore_memWf (s : State) (ch : MonChan) (op : Nat) (tag core : Byte) (rest : List Byte) (halted argOk : Bool) (f : State → Nat → State) (hf : ∀ s i, Memory.wf s.mem = true → Memory.wf (f s i).mem = true) (hw : Memory.wf s.mem = true) : Memory.wf (State.monCore s ch op tag core rest halted argOk f).mem = true := by
  unfold State.monCore; refine State.monDo_memWf _ _ _ _ _ _ (fun s hw => ?_) hw
  (repeat' split) <;> simp [*]

@[simp] theorem State.answerMon_mem (s : State) (c mstat : Nat) (data : List Word) : (State.answerMon s c mstat data).mem = s.mem := by
  simp only [State.answerMon]; (repeat' split) <;> simp

@[simp] theorem State.takeHalt_mem (s : State) (c : Nat) (q : BitVec 2) : (State.takeHalt s c q).mem = s.mem := by
  simp only [State.takeHalt]; (repeat' split) <;> simp

@[simp] theorem coreHalted_mem (c : CoreId) (s : State) : (coreHalted c s).mem = s.mem := by
  simp only [coreHalted]; (repeat' split) <;> simp

@[simp] theorem monHalt_mem (ch : MonChan) (tag core : Byte) (s : State) : (monHalt ch tag core s).mem = s.mem := by
  simp [monHalt]

@[simp] theorem monResume_mem (ch : MonChan) (tag core : Byte) (s : State) : (monResume ch tag core s).mem = s.mem := by
  simp [monResume]

@[simp] theorem monStep_mem (ch : MonChan) (tag core : Byte) (n : BitVec 16) (s : State) : (monStep ch tag core n s).mem = s.mem := by
  simp [monStep]

@[simp] theorem State.feedBundle_memWf (s : State) (c : CoreId) (ops : List RawOp) (m : MonPend) (hw : Memory.wf s.mem = true) : Memory.wf (s.feedBundle c ops m).mem = true := by
  unfold State.feedBundle; simp only [State.modCore_mem]
  split
  · simp [hw]
  · exact foldl_memWf _ (fun s x hw => by simp [hw]) _ _ (by simp [hw])

@[simp] theorem monFeed_memWf (ch : MonChan) (tag core : Byte) (bundle : BitVec 256) (s : State) (hw : Memory.wf s.mem = true) : Memory.wf (monFeed ch tag core bundle s).mem = true := by
  unfold monFeed; dsimp only; split
  · refine State.monCore_memWf _ _ _ _ _ _ _ _ _ (fun s n hw => ?_) hw
    split <;> simp [hw]
  · simp [hw]

theorem State.regSet_mem (s t : State) (c cls num : Nat) (v : BitVec 1152) (h : s.regSet c cls num v = some t) : t.mem = s.mem := by
  unfold State.regSet at h
  (repeat' split at h) <;> simp at h <;> subst h <;> simp

@[simp] theorem State.regSet_getD_mem (s : State) (c cls num : Nat) (v : BitVec 1152) : ((s.regSet c cls num v).getD s).mem = s.mem := by
  cases h : s.regSet c cls num v with
  | none => rfl
  | some t => exact State.regSet_mem s t c cls num v h

@[simp] theorem monRegget_mem (ch : MonChan) (tag core cls num : Byte) (s : State) : (monRegget ch tag core cls num s).mem = s.mem := by
  simp [monRegget]

@[simp] theorem monRegset_mem (ch : MonChan) (tag core cls num : Byte) (value : BitVec 1152) (s : State) : (monRegset ch tag core cls num value s).mem = s.mem := by
  unfold monRegset; exact State.monCore_mem _ _ _ _ _ _ _ _ _ (by simp)

@[simp] theorem monInfo_mem (ch : MonChan) (tag : Byte) (s : State) : (monInfo ch tag s).mem = s.mem := by
  simp [monInfo]

@[simp] theorem monBaud_mem (ch : MonChan) (tag rate : Byte) (s : State) : (monBaud ch tag rate s).mem = s.mem := by
  simp [monBaud]

@[simp] theorem State.zeroRegs_mem (s : State) (p : Nat → Bool) : (State.zeroRegs s p).mem = s.mem := by
  simp [State.zeroRegs]

@[simp] theorem State.forget_mem (s : State) : (State.forget s).mem = s.mem := by
  unfold State.forget; (try dsimp only); (repeat' (first | (refine (foldl_mem _ (fun s x => ?_) _ _).trans ?_) | (refine (upTo_mem _ _ (fun s x => ?_) _).trans ?_) | (split <;> (first | (rename_i hh; obtain ⟨rfl, -⟩ := Prod.ext_iff.1 hh) | (rename_i hh _; obtain ⟨rfl, -⟩ := Prod.ext_iff.1 hh) | skip)))) <;> (first | (simp; done) | (simp [*]; done) | (simp_all; done))

@[simp] theorem debugOpened_memWf (s : State) (hw : Memory.wf s.mem = true) : Memory.wf (debugOpened s).mem = true := by
  unfold debugOpened; (repeat' split) <;> simp_all (maxDischargeDepth := 12) (contextual := true)

/-! ### Machine/Transmit.lean -/

@[simp] theorem State.txSend_mem (s : State) (e t ns : Nat) (x : TxItem) : (State.txSend s e t ns x).mem = s.mem := by
  simp [State.txSend]

@[simp] theorem ethFrameTransmit_mem (e : EthId) (edge : NetEdge) (s : State) : (ethFrameTransmit e edge s).mem = s.mem := by
  simp only [ethFrameTransmit]; (repeat' split) <;> simp

@[simp] theorem State.takeEntry_mem (s : State) (q : Nat) : (State.takeEntry s q).mem = s.mem := by
  unfold State.takeEntry; (try dsimp only); (repeat' (first | (refine (foldl_mem _ (fun s x => ?_) _ _).trans ?_) | (refine (upTo_mem _ _ (fun s x => ?_) _).trans ?_) | (split <;> (first | (rename_i hh; obtain ⟨rfl, -⟩ := Prod.ext_iff.1 hh) | (rename_i hh _; obtain ⟨rfl, -⟩ := Prod.ext_iff.1 hh) | skip)))) <;> (first | (simp; done) | (simp [*]; done) | (simp_all; done))

@[simp] theorem hostFrameTx_mem (q : QueueId) (len : BitVec 16) (frame : List Byte) (hostErr : Bool) (s : State) : (hostFrameTx q len frame hostErr s).mem = s.mem := by
  simp [hostFrameTx]

@[simp] theorem hostFrameRx_mem (q : QueueId) (buf : DWord) (bufLen : BitVec 16) (frame : List Byte) (edge : NetEdge) (hostErr : Bool) (s : State) : (hostFrameRx q buf bufLen frame edge hostErr s).mem = s.mem := by
  simp [hostFrameRx]

/-! ### Machine/SpallEng.lean -/

@[simp] theorem State.spallFail_mem (s : State) (kind obj detail : Nat) : (State.spallFail s kind obj detail).mem = s.mem := by
  simp [State.spallFail]

@[simp] theorem State.modSpall_mem (s : State) (f : Spall → Spall) : (State.modSpall s f).mem = s.mem := by
  simp [State.modSpall]

@[simp] theorem katChunkStart_mem (c : CoreId) (s : State) : (katChunkStart c s).mem = s.mem := by
  simp [katChunkStart]

@[simp] theorem katChunkDone_mem (c : CoreId) (bad : Option (Fin 32)) (s : State) : (katChunkDone c bad s).mem = s.mem := by
  simp only [katChunkDone]; (repeat' split) <;> simp

@[simp] theorem stripeBorrow_mem (n : BankId) (stripe : Fin 128) (s : State) : (stripeBorrow n stripe s).mem = s.mem := by
  simp [stripeBorrow]

@[simp] theorem State.scramble_memWf (s : State) (a : Nat) (hw : Memory.wf s.mem = true) : Memory.wf (State.scramble s a).mem = true := by
  simp [State.scramble, *]

@[simp] theorem State.restoreStripe_memWf (s : State) (a : Nat) (hw : Memory.wf s.mem = true) : Memory.wf (s.restoreStripe a).mem = true := by
  unfold State.restoreStripe; split
  · exact hw
  · exact foldl_tset_memWf _ _ (filter_memWf _ _ hw)

@[simp] theorem stripeRelease_memWf (r : StripeResult) (s : State) (hw : Memory.wf s.mem = true) : Memory.wf (stripeRelease r s).mem = true := by
  unfold stripeRelease; split
  · exact hw
  · cases r <;> (dsimp only; split <;> simp [hw])

@[simp] theorem fabricProbe_mem (w : Fin 8) (dest : Fin 30) (s : State) : (fabricProbe w dest s).mem = s.mem := by
  simp [fabricProbe]

@[simp] theorem probeReturn_mem (w : Fin 8) (value : Word) (roundTrip : BitVec 32) (inBound : Bool) (s : State) : (probeReturn w value roundTrip inBound s).mem = s.mem := by
  simp only [probeReturn]; (repeat' split) <;> simp

/-! ### Machine/Time.lean -/

@[simp] theorem State.holdTimers_mem (s : State) : (State.holdTimers s).mem = s.mem := by
  simp [State.holdTimers]

@[simp] theorem State.utimeTick_mem (s : State) : (State.utimeTick s).mem = s.mem := by
  unfold State.utimeTick; (try dsimp only); (repeat' (first | (refine (foldl_mem _ (fun s x => ?_) _ _).trans ?_) | (refine (upTo_mem _ _ (fun s x => ?_) _).trans ?_) | (split <;> (first | (rename_i hh; obtain ⟨rfl, -⟩ := Prod.ext_iff.1 hh) | (rename_i hh _; obtain ⟨rfl, -⟩ := Prod.ext_iff.1 hh) | skip)))) <;> (first | (simp; done) | (simp [*]; done) | (simp_all; done))

@[simp] theorem State.ptpSend_mem (s : State) (e : Nat) : (State.ptpSend s e).mem = s.mem := by
  unfold State.ptpSend; (try dsimp only); (repeat' (first | (refine (foldl_mem _ (fun s x => ?_) _ _).trans ?_) | (refine (upTo_mem _ _ (fun s x => ?_) _).trans ?_) | (split <;> (first | (rename_i hh; obtain ⟨rfl, -⟩ := Prod.ext_iff.1 hh) | (rename_i hh _; obtain ⟨rfl, -⟩ := Prod.ext_iff.1 hh) | skip)))) <;> (first | (simp; done) | (simp [*]; done) | (simp_all; done))

@[simp] theorem idleTick_mem (s : State) : (idleTick s).mem = s.mem := by
  simp [idleTick]

end Sys2Proof.Machine
end

