-- ==== Sys2Proof/Tests/Slice0.lean ====
section
/-! SUPPORT. Tests: the check of well-formed commands refuses what breaks each of its conditions; words that the manual spells
out decode to what they stand for; for every statement that has hypotheses, a state and operands that meet them, at the ends of
their ranges where they have ranges; and one step of some rows on a small state, its result worked out from the manual by
hand. -/

set_option Elab.async false

open Sys2Proof Sys2Proof.Machine

namespace Sys2Proof.Tests

/-- The state after a row; the state itself where it answers none. -/
def after (f : State → Host.Outcome State Fault Refusal) (s : State) : State :=
  match f s with
  | .next t => t
  | _ => s

/-! ## Well-formed commands -/

theorem test_wf_shortRegister : (Instr.add 0 ⟨0, 0, true, 15, 15, 15⟩).wf = true ∧ (Instr.add 0 ⟨0, 0, true, 16, 16, 15⟩).wf = false ∧
    (Instr.add 0 ⟨0, 0, true, 3, 4, 5⟩).wf = false ∧ (Instr.add 0 ⟨0, 1, true, 3, 3, 5⟩).wf = false := by decide
theorem test_wf_noShortForm : (Instr.mulh 0 ⟨0, 0, false, 3, 4, 5⟩).wf = true ∧ (Instr.mulh 0 ⟨0, 0, true, 3, 3, 5⟩).wf = false := by decide
theorem test_wf_unary : (Instr.neg 0 ⟨0, 0, false, 3, 4, 0⟩).wf = true ∧ (Instr.neg 0 ⟨0, 0, false, 3, 4, 5⟩).wf = false := by decide
theorem test_wf_addi : (Instr.addi 0 ⟨0, 0, true, 3, 7⟩).wf = true ∧ (Instr.addi 0 ⟨0, 0, true, 3, 0xFF8⟩).wf = true ∧
    (Instr.addi 0 ⟨0, 0, true, 3, 8⟩).wf = false ∧ (Instr.addi 0 ⟨0, 0, true, 3, 0xFF7⟩).wf = false := by decide
theorem test_wf_memory : (Instr.ldw 0 ⟨0, 0, true, 15, 3, 7, 0⟩).wf = true ∧ (Instr.ldw 0 ⟨0, 0, true, 15, 4, 7, 0⟩).wf = false ∧
    (Instr.ldw 0 ⟨0, 0, true, 15, 3, 8, 0⟩).wf = false ∧ (Instr.ldw 0 ⟨0, 0, true, 15, 3, 7, 1⟩).wf = false ∧
    (Instr.ldb 0 ⟨0, 0, true, 15, 3, 7, 0⟩).wf = false := by decide
theorem test_wf_moves : (Instr.mov 0 ⟨7, 0, true, 15, 31⟩).wf = true ∧ (Instr.mov 0 ⟨6, 0, true, 15, 3⟩).wf = false ∧
    (Instr.mov 0 ⟨4, 0, false, 15, 3⟩).wf = false ∧ (Instr.mova 0 ⟨0, 2, 1, 0, 9⟩).wf = true ∧ (Instr.mova 0 ⟨0, 2, 1, 3, 9⟩).wf = false ∧
    (Instr.mova 0 ⟨0, 1, 1, 3, 9⟩).wf = false := by decide
theorem test_wf_system : (Instr.nop 0 ⟨0, true, 0⟩).wf = true ∧ (Instr.nop 0 ⟨0, true, 1⟩).wf = false ∧
    (Instr.swev 0 ⟨0, false, 5⟩).wf = true ∧ (Instr.swev 0 ⟨0, true, 0⟩).wf = false := by decide
theorem test_wf_vector : (Instr.vld 0 ⟨0, 0, 4, 1, 2, 3, true, 0, 0⟩).wf = true ∧ (Instr.vld 0 ⟨0, 0, 4, 1, 2, 3, true, 1, 0⟩).wf = false ∧
    (Instr.vlds 0 ⟨0, 0, 4, 1, 2, 3, true, 1, 0⟩).wf = false ∧ (Instr.vgth 0 ⟨0, 0, 16, 1, 2, 3, false, 0, 5⟩).wf = false ∧
    (Instr.vmov 0 ⟨0, 0, false, 1, 2, 3, 0⟩).wf = false ∧ (Instr.vmacq 0 ⟨0, 0, true, 1, 2, 3, 0⟩).wf = false ∧
    (Instr.vacz 0 ⟨0, 0, true, 1, 2, 0, 0⟩).wf = false := by decide
theorem test_wf_rows : (Instr.cmdNop .serial 0).wf = true ∧ (Instr.cmdNop .serial 1).wf = false ∧
    (Instr.seti 0 0x0400000000000000).wf = true ∧ (Instr.seti 0 0x4000000000000000).wf = true ∧ (Instr.seti 0 0).wf = false ∧
    (Instr.aluiXor 0 0x0D00000000000000).wf = true ∧ (Instr.aluiXor 0 0x0C00000000000000).wf = false ∧
    (Instr.domainEnable 0 0).wf = false ∧ (Instr.hostWindowAccess 0 (.rd 0) [] []).wf = false ∧
    (Instr.fabricBankWrite 3 (some 3) false false 0).wf = false := by decide +kernel

/-! ## Words -/

/-- 07, the worked bundle: LDW s20, [seg1 + a3 + 8]; ADD s5, s3, s40; BR NE with annul to 16 bundles' words back. -/
theorem test_decode_scalarBundle : decodeOp 9 ⟨true, true, 0, 0x11950803⟩ = some (.ldw 9 ⟨0, 0, false, 20, 1, 3, 2⟩) ∧
    decodeOp 9 ⟨true, true, 4, 0x05018A13⟩ = some (.add 9 ⟨0, 0, false, 5, 3, 40⟩) ∧
    decodeOp 9 ⟨false, true, 6, 0xFFFE125A⟩ = some (.br 9 ⟨2, true, 0x7FFF0⟩) := by decide +kernel
/-- 07, the worked LOOP: LV 0, CI 1, CNT 4, LEN 4. -/
theorem test_decode_loop : decodeOp 9 ⟨false, true, 6, 0x02024A1A⟩ = some (.loop 9 ⟨0, 0, true, 4, 4⟩) := by decide +kernel
/-- 08, the worked filter: VLDS, VACZ, VMACQ, VACX. -/
theorem test_decode_vectorBundle : decodeOp 9 ⟨true, true, 0, 0x42A13403⟩ = some (.vlds 9 ⟨0, 0, 4, 0, 2, 5, false, 1, 0⟩) ∧
    decodeOp 9 ⟨false, true, 2, 0xA800000A⟩ = some (.vacz 9 ⟨0, 0, false, 0, 0, 0, 0⟩) ∧
    decodeOp 9 ⟨true, true, 2, 0x8041000B⟩ = some (.vmacq 9 ⟨0, 0, false, 0, 4, 8, 0⟩) ∧
    decodeOp 9 ⟨false, true, 2, 0x981F140A⟩ = some (.vacx 9 ⟨0, 0, 10, 0, 31, 0⟩) := by decide +kernel
/-- R219, R235: P 0, L 1, slot 7 (K), COND 0, KF 0, H 0, RD 5 in bits 15 to 11, IMM16 0x1234. -/
theorem test_decode_constant : decodeOp 9 ⟨false, true, 7, 0x1234281E⟩ = some (.constant 9 ⟨0, false, 5, 0x1234⟩) := by decide +kernel

/-! ## A core's state for the witnesses

Core 13, of bench 1, whose banks begin at 0x100_0000. Segment 1 is its own memory, 2 that of bench 0, 3 far memory, 4 its
control registers, 7 its stack. -/

/-- A descriptor that may read, write and execute: base, limit and class (06 R208). -/
def descr (base limit cls : Nat) : BitVec 128 := BitVec.ofNat 128 (base + 2 ^ 48 + limit * 2 ^ 64 + 0xF * 2 ^ 96 + cls * 2 ^ 101)

def kc : Core :=
  { Core.init with
    prog := .grain, t := 100
    segs := [(1, ⟨1, descr 0x1000000 0xFFF 0, true⟩), (2, ⟨2, descr 0 0xFFF 0, true⟩), (3, ⟨3, descr farBase 0xFFF 0, true⟩),
      (4, ⟨4, descr (ctlBase + A.coreCfg 1 0) 0xFFF 1, true⟩), (7, ⟨7, descr 0x1001000 0xFFF 2, true⟩)]
    code := ⟨5, descr 0x1002000 0xFFF 0, true⟩
    a := [(3, 0xFF8), (5, 0x40), (15, 0x100)], s := [(5, 7), (6, 0xFFFFFFFF)]
    p := [(1, 0xFFFFFFFFFFFFFFFF), (2, 0xF000000000000001)] }

/-- The bank that holds an address belongs to an owner. -/
def own (s : State) (n o : Nat) : State := s.setFld (bankReg A.bankOwn n) 0 8 o

def sc : State := own (State.reset.setCore 13 kc) 32 13

/-- The same with the core changed. -/
def scWith (f : Core → Core) : State := sc.setCore 13 (f kc)

/-! ## Hypotheses met: operations of a core -/

/-- OpRuns: short, long under AL, long under a true condition (NE: Z is 0), in either predicate mode (06 R199, R200). -/
theorem test_meets_OpRuns : OpRuns sc 13 true 0xF ∧ OpRuns sc 13 false 0 ∧ OpRuns sc 13 false 2 := by
  unfold OpRuns; decide +kernel
/-- ScalarMinMulBits, MovesAndPredicates: MULW and PMOV name an even pair, the last one too. -/
theorem test_meets_pairs : OpRuns sc 13 (⟨1, 0, false, 62, 3, 4⟩ : XArgs).short 0 ∧ (⟨1, 0, false, 62, 3, 4⟩ : XArgs).rd.toNat % 2 = 0 ∧
    (⟨0, true, 7, 62⟩ : PmovArgs).rp.toNat % 2 = 0 ∧ (⟨0, true, 7, 62⟩ : PmovArgs).p ≠ 0 := by unfold OpRuns; decide +kernel
/-- ScalarDivide: a divisor that is not 0, and 0 where the division does not trap. -/
theorem test_meets_ScalarDivide : OpRuns sc 13 false 0 ∧ sc.sreg 13 5 ≠ 0 ∧ sc.sreg 13 7 = 0 ∧ sc.dzt 13 = false := by
  unfold OpRuns; decide +kernel
/-- ScalarCompareImmediate, MovesAndPredicates, VectorCompare, AccumulatorsAndTransfers: the fields at the ends of their ranges. -/
theorem test_meets_fields : OpRuns sc 13 false 0 ∧ (7 : BitVec 3) ≠ 0 ∧ (6 : BitVec 3) ≠ 7 ∧ (2 : BitVec 2) ≠ 3 ∧
    (sc.core 13).squash = false ∧ srReads 23 = true ∧ srReads 0 = true ∧ srWrites 14 = true ∧ srWrites 0 = true ∧
    sc.sreg 13 5 &&& 0xFFFCF0C0 = 0 ∧ (4 : BitVec 3).toNat ≤ 4 ∧ (40 : BitVec 7).toNat ≤ 40 ∧ (63 : BitVec 7).toNat ≤ 63 ∧
    (31 : BitVec 6).toNat < 32 := by unfold OpRuns; decide +kernel
/-- FloatEdges: a quiet and a signalling NaN, and a number that is neither zero nor subnormal. -/
theorem test_meets_FloatEdges : (0x7FC00000 : Word) &&& 0x7F800000 = 0x7F800000 ∧ (0x7FC00000 : Word) &&& 0x007FFFFF ≠ 0 ∧
    (0xFF800001 : Word) &&& 0x7F800000 = 0x7F800000 ∧ (0xFF800001 : Word) &&& 0x007FFFFF ≠ 0 ∧
    (0x00800000 : Word) &&& 0x7F800000 ≠ 0 ∧ (0x7F7FFFFF : Word) &&& 0x7F800000 ≠ 0x7F800000 := by decide
/-- ScalarLoads: the last doubleword of a segment, from a bank of the core's own bench. -/
theorem test_meets_ScalarLoads_own : sc.accessOk 13 1 0xFF8 8 false ∧ sc.bankReady 13 0x1000FF8 ∧ sc.notQueued 13 0x1000FF8 8 ∧
    (⟨1, 0, false, 62, 1, 3, 0⟩ : LArgs).rt.toNat % 2 = 0 := by
  unfold State.accessOk State.bankReady State.notQueued; decide +kernel
/-- ScalarLoads: another bench, a far line that is not held, a control register. -/
theorem test_meets_ScalarLoads_waiting : sc.accessOk 13 2 0xFFC 4 false ∧ regionOf 13 0xFFC = .other ∧ sc.notQueued 13 0xFFC 4 ∧
    sc.accessOk 13 3 0xFFF 1 false ∧ inFar (farBase + 0xFFF) = true ∧ sc.fwcFind 1 ((farBase + 0xFFF) / 64) = none ∧
    sc.accessOk 13 4 0 4 false ∧ inCtl (ctlBase + A.coreCfg 1 0) = true := by
  unfold State.accessOk State.notQueued; decide +kernel
/-- ScalarStores: a store within the segment; the head of the store buffer goes to a bank the core owns, or does not own. -/
theorem test_meets_ScalarStores : sc.accessOk 13 1 0xFF8 8 true ∧ sc.accessOk 13 4 0 4 true ∧
    (let s := scWith fun k => { k with sb := [⟨[⟨0x1000FFF, 1, 5⟩], false, 0, 90⟩, ⟨[⟨0x1000000, 8, 5⟩], false, 0, 91⟩] }
     (s.core 13).sb = [⟨[⟨0x1000FFF, 1, 5⟩], false, 0, 90⟩] ++ [⟨[⟨0x1000000, 8, 5⟩], false, 0, 91⟩] ∧ (s.core 13).drain = .none ∧
     s.islandUp 1 = true ∧ inBanks 0x1000FFF = true ∧ s.coreWaits 13 0x1000FFF = false ∧ s.fab.stores = [] ∧ s.awake (bankOf 0x1000FFF) = true ∧
     s.owner (bankOf 0x1000FFF) = 13 ∧ (own s 32 255).owner (bankOf 0x1000FFF) ≠ 13) := by
  unfold State.accessOk; decide +kernel
/-- WaitingLoads: the youngest overlapping store holds all bytes of a word, or only its first two. -/
theorem test_meets_WaitingLoads_forward :
    (let s := scWith fun k => { k with sb := [⟨[⟨0x1000040, 8, 5⟩], false, 0, 90⟩, ⟨[⟨0x1000080, 4, 5⟩], false, 0, 99⟩] }
     OpRuns s 13 false 0 ∧ (s.areg 13 5).toNat = 0x40 ∧ s.accessOk 13 1 0x40 4 false ∧ inBanks 0x1000040 = true ∧
     (s.core 13).sb ++ (s.core 13).sbWait = [] ++ ⟨[⟨0x1000040, 8, 5⟩], false, 0, 90⟩ :: [⟨[⟨0x1000080, 4, 5⟩], false, 0, 99⟩] ∧
     90 < (s.core 13).t ∧ (0x1000080 + 4 ≤ 0x1000040 ∨ 0x1000040 + 4 ≤ 0x1000080)) ∧
    (let s := scWith fun k => { k with sb := [⟨[⟨0x1000040, 2, 5⟩], false, 0, 90⟩] }
     OpRuns s 13 false 0 ∧ s.accessOk 13 1 0x40 4 false ∧ (0x1000040 : Nat) < 0x1000040 + 4 ∧ (0x1000040 : Nat) + 2 < 0x1000040 + 4) := by
  unfold OpRuns State.accessOk; decide +kernel
/-- WaitingLoads: a load waits for a far line, for another bench (owned or not), for a control register. -/
theorem test_meets_WaitingLoads_return :
    (let s := scWith fun k => { k with jobs := [⟨106, 99, 0, [⟨farBase + 60, 4, .s 5 32 false, none⟩], [(farBase + 60) / 64], false⟩] }
     (s.core 13).dlPend = false ∧ inFar (farBase + 60) = true ∧ s.islandUp 32 = true ∧ s.islandUp 1 = true ∧
     s.stackFailed (stackOf (farBase + 60)) = false ∧ s.farBad (farBase + 60) = false ∧ s.fwcBusy 1 = false ∧
     s.fwcSet 1 (fwcIndex ((farBase + 60) / 64)) = FwcSet.init ∧ (s.bench 1).noInstall.contains ((farBase + 60) / 64) = false) ∧
    (let s := scWith fun k => { k with jobs := [⟨109, 99, 0, [⟨0x40, 4, .s 5 32 false, none⟩], [], false⟩] }
     regionOf 13 0x40 = .other ∧ s.islandUp 1 = true ∧ s.islandUp 12 = true ∧ s.coreWaits 13 0x40 = false ∧ s.notQueued 13 0x40 4 ∧
     s.portAWrites 0x40 = false ∧ s.awake (bankOf 0x40) = true ∧ s.owner (bankOf 0x40) ≠ 13 ∧ (own s 0 13).owner (bankOf 0x40) = 13) ∧
    (let a := ctlBase + coreReg A.coreDllast 13
     let s := scWith fun k => { k with jobs := [⟨104, 99, 0, [⟨a, 4, .s 5 32 false, none⟩], [], false⟩], sb := [⟨[⟨0x1000080, 4, 5⟩], false, 0, 99⟩] }
     a % 4 = 0 ∧ inCtl a = true ∧ s.islandUp 1 = true ∧ (∀ e ∈ (s.core 13).sb ++ (s.core 13).sbWait, 99 ≤ e.bundle)) := by
  unfold State.notQueued; decide +kernel
/-- VectorMemory, loads: all lanes of a whole line, no lane, an element of another bench, a far element that misses; three fields
up to v31; 06 R208's limits at the last byte. -/
theorem test_meets_VectorMemory_loads :
    (let x : VMemArgs := ⟨0, 0, 31, 0, 1, 5, true, 0, 0⟩
     OpRuns sc 13 false x.cond ∧ (sc.areg 13 x.areg.toNat).toNat % 4 = 0 ∧ sc.active 13 x.pg.toNat ≠ 0 ∧
     (∀ l, l < 16 → sc.accessOk 13 1 (0x40 + 4 * (l : Nat)) 4 false ∧ sc.bankReady 13 (0x1000040 + 4 * l) ∧
       sc.notQueued 13 (0x1000040 + 4 * l) 4) ∧ dClass (sc.segReg 13 1).desc ≠ 1) ∧
    sc.active 13 3 = 0 ∧
    (sc.active 13 2).getLsbD 15 = true ∧ sc.accessOk 13 2 0x7C 4 false ∧ regionOf 13 0x7C = .other ∧ sc.notQueued 13 0x7C 4 ∧
    (∀ l, l < 16 → sc.accessOk 13 3 (0x40 + 4 * (l : Nat)) 4 false ∧ regionOf 13 (farBase + 0x40 + 4 * l) ≠ .other ∧
      inFar (farBase + 0x40 + 4 * l) = true ∧ sc.fwcFind 1 ((farBase + 0x40 + 4 * l) / 64) = none) ∧
    (let x : VMemArgs := ⟨1, 0, 29, 2, 1, 5, false, 2, 0⟩
     x.nf ≠ 0 ∧ x.vt.toNat + x.nf.toNat ≤ 31 ∧ sc.accessOk 13 1 (0x40 + 4 * ((3 * 15 + 2 : Nat) : Int)) 4 false) ∧
    (let x : VMemArgs := ⟨0, 0, 15, 3, 1, 5, false, 0, 31⟩
     x.slot = 0 ∧ x.pm = false ∧ sc.accessOk 13 1 (0x40 + 4 * (lane (sc.vreg 13 x.vi.toNat) 0).toInt) 4 false) := by
  unfold OpRuns State.accessOk State.bankReady State.notQueued; and_intros <;> decide +kernel
/-- VectorMemory, stores: lanes 0 and 15 of a line, the last lane at the segment's last word. -/
theorem test_meets_VectorMemory_stores :
    (List.range 16).filter (fun l => (sc.active 13 2).getLsbD l) = [0, 15] ∧ sc.accessOk 13 1 0xFC0 4 true ∧
    sc.accessOk 13 1 (0xFC0 + 4 * 15) 4 true ∧ dClass (sc.segReg 13 1).desc ≠ 1 := by
  unfold State.accessOk; and_intros <;> decide +kernel

/-- Descriptor 127 of core 13 is written. -/
def scDesc : State := (List.range 4).foldl (fun s w => s.setReg (A.desc ((13 * 128 + 127) * 4 + w))
  (((descr 0x1000000 0xFF 0) >>> (32 * w)).setWidth 32)) (scWith fun k => { k with s := [(5, 127), (6, 0x1007F)] })
/-- SegmentsAndExclusion, SEGLD: a selector with generation 0, and one with the descriptor's. -/
theorem test_meets_segld : OpRuns scDesc 13 false 0 ∧ scDesc.inSeq 13 = false ∧ scDesc.sreg 13 6 &&& 0xFF80 = 0 ∧
    scDesc.descOf 13 127 = descr 0x1000000 0xFF 0 ∧ (scDesc.sreg 13 6 >>> 16).toNat = dGen (scDesc.descOf 13 127) ∧
    scDesc.sreg 13 5 >>> 16 = 0 ∧ dClass (scDesc.descOf 13 127) ≠ 2 := by unfold OpRuns; decide +kernel
/-- SegmentsAndExclusion, LDX and STX: the reservation covers the line, or not; stores are queued, or the bundle's own is still to
come. -/
theorem test_meets_exclusive :
    sc.accessOk 13 1 0x40 4 false ∧ sc.bankReady 13 0x1000040 ∧ sc.notQueued 13 0x1000040 4 ∧
    (let s := scWith fun k => { k with res := some (0x1000040 / 64) }
     s.accessOk 13 1 0x40 4 true ∧ inBanks 0x1000040 = true ∧ s.coreWaits 13 0x1000040 = false ∧ (s.core 13).sb = [] ∧
     (s.core 13).sbWait = [] ∧ (s.core 13).ownStore = false ∧ (s.core 13).prog ≠ .none ∧ (s.core 13).waiting = false ∧ (s.core 13).res = some (0x1000040 / 64) ∧
     s.awake (bankOf 0x1000040) = true ∧ s.owner (bankOf 0x1000040) = 13) ∧
    (sc.core 13).res ≠ some (0x1000040 / 64) ∧
    (let s := scWith fun k => { k with sbWait := [⟨[⟨0x1000080, 4, 5⟩], false, 0, 99⟩] }
     (s.core 13).sb ++ (s.core 13).sbWait ≠ []) ∧
    ((scWith fun k => { k with ownStore := true }).core 13).ownStore = true := by
  unfold State.accessOk State.bankReady State.notQueued; decide +kernel
/-- SegmentsAndExclusion, LOCK: the bank is the core's and free, is another's, is locked for another core's sequence; the segment
reaches the word's last byte. -/
theorem test_meets_lock :
    dV (sc.segReg 13 1).desc = true ∧ 0xFF8 + 3 ≤ dLimit (sc.segReg 13 1).desc ∧ sc.lockedFor (bankOf 0x1000FF8) 13 = false ∧
    regionOf 13 0x1000FF8 = .own ∧ sc.owner (bankOf 0x1000FF8) = 13 ∧ sc.awake (bankOf 0x1000FF8) = true ∧ (3 : BitVec 5).toNat < 4 ∧
    regionOf 13 0xFF8 ≠ .own ∧ sc.lockedFor (bankOf 0xFF8) 13 = false ∧
    (sc.setCore 14 { Core.init with locks := [⟨32, 90, 93, true⟩], t := 90 }).lockedFor 32 13 = true := by decide +kernel
/-- SegmentsAndExclusion, the end of a LOCK sequence: its last bundle has issued and its stores are written, while core 14 waits; it
has not issued; a store of it is queued. -/
theorem test_meets_lockEnd :
    (let s := (scWith fun k => { k with locks := [⟨32, 97, 100, true⟩] }).setCore 14
      { Core.init with lockWait := some ⟨7, 0x1000040, 4, 12, 0⟩, prog := .grain }
     let s := own s 32 14
     (s.core 13).locks = [⟨32, 97, 100, true⟩] ∧ benchOfBank 32 = 1 ∧ s.islandUp 1 = true ∧ (s.core 13).lockWait = none ∧
     100 ≤ (s.core 13).t ∧ (∀ e ∈ (s.core 13).sb ++ (s.core 13).sbWait, e.touches 32 = false) ∧
     (s.core 14).lockWait = some ⟨7, 0x1000040, 4, 12, 0⟩ ∧ (s.core 14).dlPend = false ∧ bankOf 0x1000040 = 32 ∧
     (∀ y : CoreId, y.val / 8 = 1 → y ≠ 13 → (s.core y.val).locks = [] ∧ (y ≠ 14 → (s.core y.val).lockWait = none)) ∧
     s.owner 32 = 14 ∧ s.awake 32 = true) ∧
    (let s := scWith fun k => { k with locks := [⟨32, 98, 101, true⟩] }
     (s.core 13).t < 101) ∧
    (let s := scWith fun k => { k with locks := [⟨32, 97, 100, true⟩], sb := [⟨[⟨0x1000040, 4, 5⟩], false, 0, 97⟩] }
     ∃ e ∈ (s.core 13).sb ++ (s.core 13).sbWait, 97 ≤ e.bundle ∧ e.bundle ≤ 100 ∧ e.touches 32 = true) := by decide +kernel

/-- ControlTransfers: the B slot is free; a frame of no register and of all sixteen at the stack segment's ends; the conditions true
and false; a loop with a count of 0, and of 63 in the immediate. -/
theorem test_meets_ControlTransfers :
    BFree sc 13 0 ∧ BFree sc 13 2 ∧ sc.condTrue 13 2 = true ∧ BFree sc 13 1 ∧ sc.condTrue 13 1 = false ∧
    (let d := (sc.segReg 13 7).desc
     dV d = true ∧ dR d = true ∧ dW d = true ∧ dF d = false ∧ dClass d = 2 ∧
     (0 : Int) ≤ (sc.areg 13 15).toNat - 4 * 17 ∧ (0x100 : Int) + 4 * 17 ≤ dLimit d + 1 ∧ (0x100 : Int) % 4 = 0) ∧
    (let s : State := { scWith (fun k => { k with npc := 0x40 }) with mem := memPut [] 0x1002040 [0x12, 0x8A, 0x01, 0x05] }
     ((s.core 13).npc.toNat + (s.bundleAt 13 (s.core 13).npc.toNat).size) % 4 = 0) ∧ (sc.core 13).npc.toNat % 4 = 0 ∧
    (∀ i, i ≤ 16 → sc.bankReady 13 (0x1001000 + 0x100 + 4 * i) ∧ sc.notQueued 13 (0x1001000 + 0x100 + 4 * i) 4) ∧
    (2 : BitVec 2) ≠ 3 ∧ (63 : BitVec 8).toNat < 64 ∧ sc.sreg 13 63 = 0 := by
  unfold BFree State.bankReady State.notQueued; and_intros <;> decide +kernel
/-- SystemOperations: the store buffer empty and not; debug sealed, open, and open with the bundle that was halted on; the program's
grain is the bench's; SWEV's highest number. -/
theorem test_meets_SystemOperations : OpRuns sc 13 true 0 ∧ (sc.core 13).ds = none ∧ sc.inSeq 13 = false ∧ sc.debugOpen = false ∧
    (sc.core 13).sb = [] ∧ (sc.core 13).sbWait = [] ∧ (sc.core 13).grain = (sc.bench 1).grain ∧ (sc.core 13).drain = .none ∧
    (let s := (scWith fun k => { k with sb := [⟨[⟨0x1000040, 4, 5⟩], false, 0, 97⟩] }).setFld A.dbgStat 0 2 3
     s.debugOpen = true ∧ (s.core 13).brkNop = false ∧ ¬((s.core 13).sb = [] ∧ (s.core 13).sbWait = [])) ∧
    (191 : BitVec 8).toNat < 192 := by unfold OpRuns; decide +kernel

/-- A core whose code holds the words from its pc on. -/
def scCode (f : Core → Core) (ws : List Word) : State :=
  { scWith (fun k => f { k with pc := 0x40 }) with mem := memPut [] 0x1002040 (ws.flatMap fun w => bytesOf w.toNat 4) }
/-- `ADD s5, s3, s40` alone; `BRS`, taken, as a short operation; a loop of one bundle at its end. -/
def scAdd : State := scCode id [0x05018A12]
def addBundle : FBundle := ⟨0x40, false, [0x8A12, 0x0501]⟩
def addOp : Instr := .add 13 ⟨0, 0, false, 5, 3, 40⟩
theorem test_meets_BundleIssues_sequence :
    scAdd.fetches 13 addBundle ∧ (scAdd.core 13).annul = false ∧ (scAdd.core 13).dslot = none ∧
    (scAdd.beginBundle 13 addBundle).sound 13 addBundle [addOp] ∧ (scAdd.beginBundle 13 addBundle).redirects 13 addOp = false ∧
    (let now := takeDue (scAdd.halfWidth 13) (scAdd.core 13) 101
     ∀ lv, lv < 3 → (tget 0 now.lc lv = 0 ∨ tget 0 now.le lv ≠ (scAdd.core 13).pc)) := by
  unfold State.fetches State.sound; decide +kernel
theorem test_meets_BundleIssues_loopAndSlot :
    (let s := scCode (fun k => { k with lc := [(0, 1), (2, 3)], le := [(0, 0x40), (2, 0x40)], ls := [(2, 0x20)] }) [0x05018A12]
     let now := takeDue (s.halfWidth 13) (s.core 13) 101
     s.fetches 13 addBundle ∧ tget 0 now.le 2 = (s.core 13).pc ∧ tget 0 now.lc 2 = 3 ∧ 1 < (3 : Word).toNat) ∧
    (let s := scCode (fun k => { k with lc := [(1, 1)], le := [(1, 0x40)] }) [0x05018A12]
     let now := takeDue (s.halfWidth 13) (s.core 13) 101
     (∀ l, l < 3 → l ≠ 1 → (tget 0 now.lc l = 0 ∨ tget 0 now.le l ≠ (s.core 13).pc)) ∧ tget 0 now.le 1 = (s.core 13).pc ∧
     tget 0 now.lc 1 = 1) ∧
    (let s := scCode (fun k => { k with dslot := some (true, 0x80) }) [0x05018A12]
     s.fetches 13 addBundle ∧ (s.core 13).dslot = some (true, 0x80)) ∧
    (let s := scCode (fun k => { k with dslot := some (false, 0x80), annul := true }) [0x05018A12]
     s.fetches 13 addBundle ∧ (s.core 13).annul = true ∧ (s.core 13).dslot = some (false, 0x80)) ∧
    (let s := (scCode (fun k => { k with dslot := some (false, 0x80), annul := true, gctl := 1 }) [0x05018A12]).setFld (coreReg A.perfCtl 13) 0 1 1
     s.perfOn 13 = true ∧ s.fetches 13 addBundle) := by
  unfold State.fetches; and_intros <;> decide +kernel
/-- BR taken 16 bundles' words back, alone in its bundle. -/
def brOp : Instr := .br 13 ⟨0, false, 0x7FFF0⟩
def brBundle : FBundle := ⟨0x40, false, [0x021A, 0xFFFE]⟩
theorem test_meets_BundleIssues_redirect :
    (let s := scCode id [0xFFFE021A]
     s.fetches 13 brBundle ∧ (s.beginBundle 13 brBundle).sound 13 brBundle [brOp] ∧
     (s.beginBundle 13 brBundle).redirects 13 brOp = true) := by
  unfold State.fetches State.sound; decide +kernel
/-- ResultsReachRegisters: one result due, one accumulator change due. -/
theorem test_meets_ResultsReachRegisters : (⟨100, 97, 4, .s 63, 5⟩ : PW).due ≤ 100 ∧ (kc.accs = []) ∧
    (⟨104, 100, 2, 3, .mac, 5, 7, 0x8000⟩ : AccChg).due ≤ 104 ∧ (0x8000 : BitVec 16).getLsbD 15 = true := by decide +kernel
/-- OperationGate: squashed; a condition that is false; a division by zero that traps. -/
theorem test_meets_OperationGate :
    (encodeOp false addOp).isSome = true ∧ ((scWith fun k => { k with squash := true }).core 13).squash = true ∧
    (let i : Instr := .add 13 ⟨0, 1, false, 5, 3, 40⟩
     ∃ q, encodeOp false i = some q ∧ i.wf = true ∧ q.2.long = true ∧ sc.opFault 13 i = none ∧ sc.condTrue 13 (q.2.w / 32 % 16) = false) ∧
    (let i : Instr := .div 13 ⟨1, 0, false, 5, 3, 40⟩
     ∃ f q, encodeOp false i = some q ∧ sc.opFault 13 i = some f) := by
  refine ⟨by decide +kernel, by decide +kernel, ⟨_, rfl, ?_⟩, ⟨_, _, rfl, rfl⟩⟩
  decide +kernel
/-- IllegalOperations: an undefined condition in either mode; each field at the first value outside its range; a delay slot; a LOCK
sequence; a division by 0 that traps. -/
theorem test_meets_IllegalOperations :
    (let i : Instr := .add 13 ⟨0, 0xF, false, 5, 3, 40⟩
     ∃ q, encodeOp false i = some q ∧ i.wf = true ∧ q.2.long = true ∧ sc.predMode 13 = false ∧ q.2.w / 32 % 16 = 0xF) ∧
    (let s := sc.setFld (coreReg A.coreCfgact 13) 0 1 1
     s.predMode 13 = true) ∧
    (let s := scWith fun k => { k with locks := [⟨32, 97, 100, true⟩], ds := some (true, 0) }
     s.inSeq 13 = true ∧ (s.core 13).ds.isSome = true) ∧
    (41 : BitVec 7).toNat ≥ 41 ∧ (64 : BitVec 7).toNat ≥ 64 ∧ (5 : BitVec 3).toNat ≥ 5 ∧ (24 : BitVec 5).toNat ≥ 24 ∧
    (16 : BitVec 5).toNat ≥ 16 ∧ (30 : BitVec 5).toNat + (2 : BitVec 2).toNat > 31 := by
  refine ⟨⟨_, rfl, ?_⟩, ?_⟩ <;> decide +kernel
/-- IllegalOperations, CoreFaults: a division by 0 that traps. -/
theorem test_meets_divisionTrap : (let s := sc.setFld (coreReg A.coreCfgact 13) 3 1 1
    s.sreg 13 40 = 0 ∧ s.dzt 13 = true) := by decide +kernel
/-- CoreFaults: the record free and taken; the three actions, debug open and sealed; a fault with a slot, a lane and an access. -/
theorem test_meets_CoreFaults :
    (let f : FltRec := ⟨0x08, some 7, some ⟨7, some 0x1000, true⟩, some 15⟩
     (sc.core 13).halted = false ∧ f.cause < 256 ∧ (∀ sl, f.slot = some sl → sl < 8) ∧ (∀ e, f.elem = some e → e < 16) ∧
     (∀ a, f.acc = some a → a.seg < 8)) ∧
    sc.bit (coreReg A.fltStat 13) 0 = false ∧ (sc.setFld (coreReg A.fltStat 13) 0 1 1).bit (coreReg A.fltStat 13) 0 = true ∧
    sc.fact 13 = 0 ∧ (sc.setFld (coreReg A.coreCfgact 13) 5 2 1).fact 13 = 1 ∧
    (sc.setFld (coreReg A.coreCfgact 13) 5 2 2).fact 13 = 2 ∧ sc.debugOpen = false ∧ (sc.setFld A.dbgStat 0 2 3).debugOpen = true ∧
    (sc.core 13).lockWait = none ∧ (∀ x ∈ (sc.core 13).pws, x.due ≤ (sc.core 13).t + 16) := by
  refine ⟨⟨by decide +kernel, by decide, ?_, ?_, ?_⟩, ?_⟩
  · intro sl h; cases h; decide
  · intro e h; cases h; decide
  · intro a h; cases h; decide
  · decide +kernel
/-- CoreFaults, fetch: past the limit, a null segment, an uncorrectable error, a register target that is not aligned. -/
theorem test_meets_CoreFaults_fetch :
    sc.islandUp 1 = true ∧ canIssue (sc.core 13) = true ∧ sc.bit (coreReg A.fltStat 13) 0 = false ∧
    (let s := scWith fun k => { k with regTgt := true, pc := 2 }
     (s.core 13).regTgt = true ∧ (s.core 13).dslot = none ∧ (s.core 13).pc.toNat % 4 ≠ 0) ∧
    (let s := scWith fun k => { k with pc := 0x1000 }
     (s.core 13).pc.toNat % 4 = 0 ∧ s.coreWaits 13 (0x1002000 + 0x1000) = false ∧
     dLimit (s.core 13).code.desc + 1 < 0x1000 + (s.bundleAt 13 0x1000).size) ∧
    (let s := scWith fun k => { k with code := Seg.null }
     dV (s.core 13).code.desc = false) ∧
    (let s : State := { scAdd with ue := [0x1002040] }
     dV (s.core 13).code.desc = true ∧ dX (s.core 13).code.desc = true ∧
     0x40 + (s.bundleAt 13 0x40).size ≤ dLimit (s.core 13).code.desc + 1 ∧ (s.bundleAt 13 0x40).ue = true) := by decide +kernel
/-- AccessFaults: each cause of the order in turn; a vector load whose lane 15 alone lies past the limit. -/
theorem test_meets_AccessFaults :
    dV 0 = false ∧ dV (descr 0 0xFF 0) = true ∧ dW (descr 0 0xFF 0 &&& ~~~((1 : BitVec 128) <<< 98)) = false ∧ dF (descr 0 0xFF 0 ||| ((1 : BitVec 128) <<< 100)) = true ∧
    ((dLimit (descr 0 0xFF 0) : Int) < 0xFD + 4 - 1) ∧ (0xFC + 4 - 1 ≤ (dLimit (descr 0 0xFF 0) : Int)) ∧ ((0xFE : Int) % 4 ≠ 0) ∧
    dClass (descr 0 0xFF 1) = 1 ∧ coreCtlOk 13 0 = false ∧ coreCtlOk 13 (ctlBase + A.coreCfg 1 0) = true ∧
    (let d := (sc.segReg 13 1).desc
     sc.active 13 2 ≠ 0 ∧ (sc.active 13 2).getLsbD 15 = true ∧ (sc.active 13 2).getLsbD 0 = true ∧
     (∀ i, i < 15 → (0xFC4 : Int) + 4 * (i : Nat) + 3 ≤ dLimit d) ∧ (dLimit d : Int) < 0xFC4 + 4 * 15 + 3 ∧ dR d = true ∧ dClass d ≠ 1) := by
  and_intros <;> decide +kernel
/-- TallyDigests: a pair, the twin link up or only chain-out; a bench's grain ended by its eight cores, or not by the last. -/
def tdS : State :=
  let s := ((State.reset.setFld A.twStat 0 3 3).setFld (A.chPstat 2) 0 2 2).setFld (A.chPstat 3) 0 2 2
  s.setBench 3 { Bench.init with started := true, tdigNext := 41, grain := 41 }
theorem test_meets_TallyDigests :
    tdS.paired = true ∧ (tdS.bench 3).started = true ∧ (tdS.bench 3).tdigNext ≤ (tdS.bench 3).grain.toNat ∧ tdS.islandUp 30 = true ∧
    (∀ c ∈ (List.range 8).map (fun i => 8 * 3 + i), tdS.endedGrain c 41 = true) ∧ tdS.portUp 2 = true ∧
    ((tdS.setFld (A.chPstat 2) 0 2 0).portUp 2 = false ∧ (tdS.setFld (A.chPstat 2) 0 2 0).portUp 3 = true) ∧
    (tdS.setCore 31 { Core.init with prog := .grain, gctl := 1, grain := 41 }).endedGrain 31 41 = false := by
  decide +kernel
/-- StepRunsFront, StepKeepsMemoryCanonical, OtherRowsKeepMemory, OtherCoresKept, DecodeEncode, EncodeDecode. -/
theorem test_meets_StepKeepsMemoryCanonical : Memory.wf scAdd.mem = true ∧ ∃ t, step { scAdd with pending := [addOp] } = .next t :=
  ⟨by decide +kernel, _, rfl⟩
theorem test_meets_OtherRowsKeepMemory : mayWriteMemory addOp = false ∧ ∃ t, exec addOp sc = .next t := ⟨rfl, _, rfl⟩
theorem test_meets_OtherCoresKept : (∃ q, encodeOp true addOp = some q ∧ q.1 = 13) ∧ ∃ t, exec addOp sc = .next t :=
  ⟨⟨_, rfl, rfl⟩, _, rfl⟩
theorem test_meets_DecodeEncode : addOp.wf = true ∧ encodeOp true addOp = some (13, ⟨true, true, 4, 0x05018A13⟩) := by decide +kernel
theorem test_meets_EncodeDecode : (let r : RawOp := ⟨true, true, 4, 0x05018A13⟩
    r.w < 2 ^ 32 ∧ r.w % 2 = r.p.toNat ∧ r.w / 2 % 2 = r.long.toNat ∧ r.w / 4 % 8 = r.slot ∧ decodeOp 13 r = some addOp) := by
  decide +kernel

/-! ## Hypotheses met: grains, banks, fabric, ports -/

/-- Domain 1 LOCKED at grain 41. -/
def sDom : State := ({ State.reset with utime := 77 }.setFld (A.rdStat 1) 0 2 2).setDom 1 { Dom.init with cnt := 41 }
/-- Domain 1 in ACQUIRE from a source. -/
def sAcq (src : Nat) : State := (State.reset.setFld (A.rdStat 1) 0 2 1).setFld (A.rdCtl 1) 4 2 src
theorem test_meets_RateDomains :
    sDom.domRuns 1 = true ∧ sDom.sys.fatal = false ∧ sDom.sys.refLost = false ∧
    (sAcq 0).domState 1 = 1 ∧ (sAcq 0).islandUp 12 = true ∧ (sAcq 0).domSrc 1 = 0 ∧ (sAcq 0).bit (A.rdStat 1) 3 = false ∧
    ((sAcq 1).domSrc 1 = 1 ∧ (sAcq 1).wclkOk 1 = true) ∧
    (let s := (sAcq 2).setFld (A.netServo 0) 0 3 3
     s.domSrc 1 = 2 ∧ 3 ≤ s.fld (A.netServo (s.fld (A.rdCtl 1) 6 3)) 0 3) ∧
    (let s := (sAcq 3).setDom 1 { Dom.init with marks := 16 }
     s.domSrc 1 = 3 ∧ 16 ≤ (s.dom 1).marks) ∧
    (let s := sDom.setFld (A.rdCtl 1) 4 2 3
     let t := sDom.setFld (A.rdCtl 1) 4 2 2
     let u := s.setDom 1 { Dom.init with cnt := 41, quiet := 4 }
     t.domState 1 = 2 ∧ t.domSrc 1 = 2 ∧ t.fld (A.netServo (t.fld (A.rdCtl 1) 6 3)) 0 3 < 3 ∧
     s.domRuns 1 = true ∧ s.domSrc 1 = 3 ∧ (s.dom 1).quiet < 4 ∧ u.domState 1 = 2 ∧ 4 ≤ (u.dom 1).quiet) ∧
    (sDom.setFld (A.rdStat 1) 4 1 1).bit (A.rdStat 1) 4 = true ∧ State.reset.bit (A.rdCtl 1) 0 = false ∧
    (sDom.setFld (A.rdCtl 1) 0 1 1).bit (A.rdCtl 1) 0 = true ∧ sDom.mainReach 140 = true ∧ sDom.mainReach 5 = false := by
  and_intros <;> decide +kernel

/-- Bench 3 at grain 41, its core 24 as given. -/
def sBench (k : Core) : State := (State.reset.setBench 3 { Bench.init with grain := 41 }).setCore 24 k
theorem test_meets_GrainOrder :
    (let s := (sDom.setDom 1 { Dom.init with cnt := 41, fabDue := true }).setFld (A.benchCtl 3) 0 2 1
     s.domRuns 1 = true ∧ s.islandUp 12 = true ∧ (s.dom 1).fabDue = true ∧ s.benchDom 3 = 1 ∧ s.benchUp 3 = true ∧
     s.fld A.dbgStat 0 2 = 0 ∧ s.cmds.commits = [] ∧ s.sys.thaw = []) ∧
    (let s := State.reset.setBench 3 { Bench.init with due := true }
     let ahead (s : State) := (s.bench 3).ahead.flatMap fun e => (s.wq e.1).take e.2
     let t : State := { State.reset.setBench 3 { Bench.init with due := true, ahead := [(7, 1)] } with
       fab := { State.reset.fab with q := [(7, [⟨97 * 0x80000, 5, none⟩])] } }
     (s.bench 3).due = true ∧ s.islandUp 3 = true ∧ s.benchResets 3 = false ∧ s.cmds.commits = [] ∧ ahead s = [] ∧
     ∃ x ∈ ahead t, benchOfBank (bankOf x.dst) = 3) ∧
    (let s := sBench { Core.init with trigWait := true, trigHit := true }
     s.islandUp 3 = true ∧ (s.core 24).halted = false ∧ (s.core 24).trigWait = true ∧ (s.core 24).trigHit = true ∧
     (s.core 24).haltPend ≠ some 2 ∧ (s.core 24).resetting = false) ∧
    (sBench { Core.init with trigWait := true }).core 24 = { Core.init with trigWait := true } ∧
    (let k := (sBench { Core.init with prog := .grain, grain := 41, gctl := 3 }).core 24
     k.halted = false ∧ k.noDl = false ∧ k.missed = false ∧ k.prog = .grain ∧ k.grain = 41 ∧ bitAt k.gctl.toNat 1 = true ∧
     stalled k = false ∧ inLock k = false) ∧
    bitAt (1 : Word).toNat 1 = false ∧ State.reset.domRuns (State.reset.benchDom 3) = false ∧
    (let s : State := { State.reset with timer := 25 }
     s.timer / 25 ≠ (s.bench 3).period ∧ s.domRuns (s.benchDom 3) = false) ∧
    State.reset.timer / 25 = (State.reset.bench 3).period := by decide +kernel

theorem test_meets_Banks :
    (let s := own State.reset 5 141
     let v : Word := 0x03000000
     ownIdentity 5 141 = some 141 ∧ s.bit (bankReg A.bankOwn 5) 16 = false ∧ s.owner 5 = 141 ∧ s.lender 5 = 255 ∧ fget v 24 8 < 142 ∧
     (s.setFld (A.bankElig 5 0) 3 1 1).eligible 5 3 = true ∧ fget v 24 8 ≠ 141 ∧ fget v 23 1 = 0 ∧ fget v 17 6 = 0) ∧
    fget 0xFF000000 24 8 = 255 ∧ ((own State.reset 5 141).setFld (bankReg A.bankOwn 5) 16 1 1).bit (bankReg A.bankOwn 5) 16 = true ∧
    (let s := State.reset.setBank 5 { Bank.init with chg := some ⟨3, 7, false⟩ }
     (s.bank 5).chg = some ⟨3, 7, false⟩ ∧ (s.bank 5).next = none) ∧
    (ownIdentity 5 3 = some 3 ∧ fget 2 0 2 ≠ 3 ∧ 3 = (own State.reset 5 3).owner 5 ∧ 3 ≠ (own State.reset 5 4).owner 5) ∧
    (let s := (State.reset.setFld (bankReg A.bankPwr 5) 0 2 2).setBank 5 { Bank.init with pwrTo := some 2 }
     (s.bank 5).pwrTo = some 2 ∧ (2 : BitVec 2).toNat = s.bankWants 5) ∧
    (let s := own State.reset 383 140
     let a := bankEnd - 64
     s.borrowed a = false ∧ s.awake (bankOf a) = true ∧ s.owner (bankOf a) = 140 ∧ a % 64 + 64 ≤ 64) ∧
    (State.reset.hostr 383 = false ∧ State.reset.owner 383 ≠ 140 ∧ (State.reset.setFld (A.bankEligF 5) 1 1 1).hostr 5 = true) := by
  and_intros <;> decide +kernel

/-- One route: kind 1 of domain 1, wagon 7, two words from word 0x20001 to word 0x40000, strides 1 and 2. -/
def rtw0 : Nat := 1 * 2 ^ 60 + 1 * 2 ^ 58 + 7 * 2 ^ 52 + 2 * 2 ^ 26 + 0x20000
def rtw1 : Nat := 1 * 2 ^ 56 + 2 * 2 ^ 48 + 0x40000
def route (s : State) (p i w0 w1 : Nat) : State :=
  { s with regs := (List.range 4).foldl (fun r k => tset 0 r (A.routePage p (4 * i + k)) (BitVec.ofNat 32 ((w0 + w1 * 2 ^ 64) / 2 ^ (32 * k)))) s.regs }
def sRt : State := (route sDom 0 0 rtw0 rtw1).poke (0x20001 * 4) [0x44, 0x33, 0x22, 0x11]
theorem test_meets_TapFabric_sched : (sRt.rtEntries (sRt.schedPg 1)).find? (fun e => e.1 == 0) = some (0, rtw0, rtw1) ∧ rtKind rtw0 = 1 ∧
    rtDom rtw0 = 1 ∧ 1 < rtCount rtw0 ∧ sRt.domRuns 1 = true ∧ sRt.fabFrozen = false ∧
    sRt.awake (bankOf ((rtSrc rtw0 + 1 * rtSstride rtw1) * 4)) = true := by decide +kernel
theorem test_meets_TapFabric_others :
    (∀ n, n = 1023 ∨ n = 1024 → (State.reset.setDom 1 Dom.init).fabFrozen = false) ∧
    (let s := { State.reset with fab := { State.reset.fab with carries := [⟨55, 0x80004, .bank 0x1000, 0⟩], q := [(55, List.replicate 1023 ⟨0, 0, none⟩)] } }
     s.borrowed 0x80004 = false ∧ s.awake (bankOf 0x80004) = true ∧ (s.wq 55).length < 1024) ∧
    (let s := { State.reset with fab := { State.reset.fab with q := [(55, List.replicate 1024 ⟨0, 0, none⟩)] } }
     1024 ≤ (s.wq 55).length) ∧
    (let s := (route State.reset 0 0 (3 * 2 ^ 60 + 3 * 2 ^ 16 + 10) (2 * 2 ^ 48 + 0x40000)).setBench 3
      { Bench.init with fth := { Fathom.init with pushes := [(10, 99)] } }
     (s.bench 3).fth.pushes = [(10, 99)] ∧ s.pushOf 3 10 = some 0x40000 ∧ s.pushOf 3 11 = none) ∧
    (let s := { (own State.reset 5 141).setFld (A.bankEligF 5) 0 1 1 with
      fab := { State.reset.fab with q := [(7, [⟨5 * 0x80000 + 0x7FFFC, 0x55, none⟩])] } }
     let t : State := { s with fab := { s.fab with q := [(7, [⟨5 * 0x80000 + 0x7FFFC, 0x55, none⟩]), (44, [⟨5 * 0x80000 + 0x7FFFC, 0x66, none⟩])] } }
     s.borrowed (5 * 0x80000 + 0x7FFFC) = false ∧ s.awake 5 = true ∧ s.fabw 5 = true ∧ (own State.reset 6 141).fabw 6 = false ∧
     t.wq 7 = [⟨5 * 0x80000 + 0x7FFFC, 0x55, none⟩] ∧ t.wq 44 = [⟨5 * 0x80000 + 0x7FFFC, 0x66, none⟩]) ∧
    (State.reset.rtPage = 0 ∧ (State.reset.setFld A.fabStat 2 1 1).bit A.fabStat 2 = true ∧ State.reset.bit A.fabStat 2 = false) := by
  and_intros <;> (first | decide +kernel | (intros; decide +kernel))

/-- Bench 3's list of one descriptor in bank 97, which its engine owns: operation, ACC, PUSH. -/
def bk : Nat := 97 * 0x80000
def sFth (op acc push : Nat) : State :=
  let d : Nat := op * 2 ^ 124 + acc * 2 ^ 121 + push * 2 ^ 120 +
    (if op = 1 then 0x3F800000 * 2 ^ 32 + (if acc = 1 then 0 else if push = 1 then 9 else (bk / 4 + 5)) + 2 * 4096 * 2 ^ 64 else 0)
  (((own State.reset 97 99).poke bk (bytesOf d 16)).setFld (A.fthList 3 0) 4 22 (bk / 64)).setBench 3
    { Bench.init with fth := { Fathom.init with running := true, outs := [⟨3, false, bk / 4 + 5, 0x1234⟩] } }
theorem test_meets_FathomEngines :
    (let s := sFth 0 0 0
     let d := memNat s.mem bk 16
     (s.fth 3).running = true ∧ s.fthLcnt 3 (s.fth 3).page = (s.fth 3).idx + 1 ∧ s.fthFrozen 3 = false ∧ (s.wq 55).length < 1024 ∧
     (s.fth 3).toFeed = [] ∧ s.groupWaits 3 (s.fth 3).page 0 = false ∧ (∀ w ∈ wordsOf bk 16, s.portAWrites w = false) ∧
     s.borrowed ((bk / 4 + 5) * 4) = false ∧ s.fthBase 3 (s.fth 3).page = bk ∧ s.fthOwns 3 bk = true ∧ s.awake (bankOf bk) = true ∧ tdCheck d = 0 ∧ tdOp d = 0 ∧
     (s.fth 3).later = none ∧ s.fthOwns 3 ((bk / 4 + 5) * 4) = true ∧ s.awake (bankOf ((bk / 4 + 5) * 4)) = true) ∧
    (let d := memNat (sFth 1 1 0).mem bk 16
     tdCheck d = 0 ∧ tdOp d = 1 ∧ tdAcc d = true) ∧
    (let d := memNat (sFth 1 0 1).mem bk 16
     tdCheck d = 0 ∧ tdOp d = 1 ∧ tdAcc d = false) ∧
    ((sFth 0 0 0).setFld (A.fthRun 3 0) 19 1 1).fthFinish 3 0 = true ∧ (sFth 0 0 0).fthFinish 3 0 = false ∧ ((sFth 0 0 0).fth 3).missed = false ∧
    (let s := (sFth 0 0 0).setBench 3 { Bench.init with fth := { Fathom.init with running := true, later := some 9 } }
     (s.fth 3).later = some 9 ∧ (s.fth 3).laterMissed = false ∧ s.fthFrozen 3 = false) ∧
    fthPaged 8 = some (0, 512) ∧ (regOf (A.fthCtl 3 + 8)).isSome = true ∧ (fthPaged 16).isSome = true ∧ fthPaged 16 ≠ some (0, 512) ∧
    State.reset.fthPage 3 = 0 ∧ (State.reset.setFld (A.fthStat 3) 2 1 1).bit (A.fthStat 3) 2 = true := by
  and_intros <;> decide +kernel

/-- Group 9, of port group 1, enabled in domain 1, in a state, as slave or master. -/
def sCg (st master : Nat) : State :=
  (((sDom.setFld (cgReg A.cgCtl 9) 0 1 1).setFld (cgReg A.cgCtl 9) 2 2 1).setFld (cgReg A.cgCtl 9) 1 1 master).setFld (cgReg A.cgStat 9) 0 2 st
/-- With one slot-map entry on port group 1's page 0. -/
def sMap (e : Nat) : State :=
  let s := sCg 2 0
  { s with regs := tset 0 (tset 0 s.regs (smOff 1 0 0x400) (BitVec.ofNat 32 e)) (smOff 1 0 0x401) (BitVec.ofNat 32 (e / 2 ^ 32)) }
theorem test_meets_ConverterPorts_marks :
    (sCg 2 0).cgEn 9 = true ∧ (sCg 2 0).domRuns ((sCg 2 0).cgDom 9) = true ∧ (sCg 2 0).islandUp 14 = true ∧ (sCg 2 0).cgState 9 = 2 ∧
    (let s (f : DWord) := (sCg 2 0).setGroup 9 { Group.init with frame := f }
     let m : MarkObs := ⟨(sCg 2 0).cgSlots 9 * (sCg 2 0).cgWidth 9, true⟩
     m.bits = (s 40).cgSlots 9 * (s 40).cgWidth 9 ∧ m.inPlace = true ∧ (s 40).cgState 9 = 2 ∧ ((s 40).dom ((s 40).cgDom 9)).cnt = 41 ∧
     ((s 41).group 9).frame ≠ 42 ∧ ¬((41 : DWord).toNat < 41) ∧ ((s 40).group 9).frame.toNat < 41 ∧ 41 < (42 : DWord).toNat) ∧
    (sCg 1 0).cgState 9 = 1 ∧ (sCg 1 0).cgMaster 9 = false ∧ ((sCg 1 0).group 9).marks = 0 ∧
    1 ≤ (((sCg 1 0).setGroup 9 { Group.init with marks := 1 }).group 9).marks ∧
    State.reset.cgEn 9 = false ∧ State.reset.cgInvalid ((1 + 1 * 2 ^ 8 + 1 * 2 ^ 10 : Word) ||| 1) = false ∧
    State.reset.cgInvalid ((1 + 3 * 2 ^ 8 + 1 * 2 ^ 10 : Word) ||| 1) = true := by decide +kernel
theorem test_meets_ConverterPorts_in :
    (let e : Nat := 1 * 2 ^ 60 + 8 * 2 ^ 54 + 0x12345
     let s := sMap e
     s.cgState 9 = 2 ∧ 0 < s.cgSlots 9 ∧ s.smDir 1 (s.groupPage 9) 8 = false ∧ s.pgFrozen 1 = false ∧
     s.smEntries 1 (s.groupPage 9) = [(0, e)] ∧ smLane e = 8 ∧ smSlot e = 0 ∧ smOp e = 1 ∧ smCount e = 1 ∧ smTs e = false ∧ (s.wq 1).length < 128) ∧
    (let e : Nat := 3 * 2 ^ 60 + 8 * 2 ^ 54 + 5 * 2 ^ 43 + 1 * 2 ^ 38 + 0x4000
     let s := sMap e
     s.smEntries 1 (s.groupPage 9) = [(0, e)] ∧ smLane e = 8 ∧ smSlot e = 0 ∧ smOp e = 3 ∧ smMute e = false ∧ s.paired = false) := by
  and_intros <;> decide +kernel
theorem test_meets_ConverterPorts_out :
    (let e : Nat := 2 * 2 ^ 60 + 8 * 2 ^ 54 + 1 * 2 ^ 26 + 0x12345
     let s0 := sMap e
     let s : State := { s0 with regs := tset 0 s0.regs (smOff 1 0 0) (2 ^ 8) }
     s.islandUp 14 = true ∧ s.cgEn 9 = true ∧ s.pgFrozen 1 = false ∧ s.pageFor 9 41 = 0 ∧
     0 < s.cgSlots 9 ∧ s.smDir 1 0 8 = true ∧ s.smOutEntry 1 0 8 0 = some e ∧ s.laneCode 72 = 0 ∧
     (s.egrOf 72 0).late = none ∧ (s.egrOf 72 0).peek 40 = none ∧ smFb e < 2 ∧
     ((s.setEgr 72 0 { Egr.init with even := some (40, 0x777) }).egrOf 72 0).peek 40 = some 0x777) ∧
    (let s := { State.reset with fab := { State.reset.fab with carries := [⟨3, 0x80004, .lane 72 0, 9⟩], eq := [(4, [⟨.lane 72 0, 9, 5⟩])] } }
     carryToBank ⟨3, 0x80004, .lane 72 0, 9⟩ = false ∧ s.borrowed 0x80004 = false ∧ s.awake (bankOf 0x80004) = true ∧
     (s.weq 3).length < wagonDepth 3 ∧ s.weq 4 = [⟨.lane 72 0, 9, 5⟩] ∧ s.paired = false ∧ s.islandUp 12 = true) ∧
    ((State.reset.setGroup 9 { Group.init with due := some (0, 5) }).group 9).due = some (State.reset.cgDom 9, 5) := by
  and_intros <;> decide +kernel
theorem test_meets_ConverterPorts_pages :
    State.reset.pgActive 1 = 0 ∧ State.reset.pgPend 1 = false ∧ (State.reset.setFld (A.pgStat 1) 3 1 1).pgPend 1 = true ∧
    (let s0 := sDom.setFld (A.pgStat 1) 3 1 1
     let t := s0.setGroup 9 { Group.init with due := some (1, 41) }
     let s := t.setGroup 10 { Group.init with due := some (1, 41) }
     s.islandUp 14 = true ∧ s.slotmapDue 9 = true ∧ (s.group (8 * 1 + 2)).due ≠ none ∧ t.slotmapDue 9 = true ∧
     ∀ c, c < 8 → 8 * 1 + c ≠ 9 → (t.group (8 * 1 + c)).due = none) := by and_intros <;> decide +kernel

/-! ## Hypotheses met: events and the host interface -/

def rz (src : Nat) : Raise := ⟨src, 5, 6, []⟩
/-- Source 70 with a configuration and a state, delivered to every core of the first mask, with one raise on its way. -/
def sEv (cfg : Nat) (cs : BitVec 2) : State :=
  { ((State.reset.setReg (A.evtCfg 70) (BitVec.ofNat 32 cfg)).setSrc 70 { Src.init with cstate := cs }).setReg (A.evtTgt 70 0) 0xFFFFFFFF with
    raises := [rz 70] }
/-- Source 70 PENDING. -/
def sPend : State := (sEv 1 1).setSrc 70 { Src.init with cstate := 1, firing := some ⟨1, rz 70⟩ }
theorem test_meets_EventController_raise :
    ((sEv 1 0).silencing 70 = false ∧ (sEv 1 0).evCtime 70 = 0 ∧ (sEv 1 0).evCen 70 = true ∧ (sEv 1 0).evHen 70 = false ∧
      ((sEv 1 0).src 70).cstate = csIdle) ∧
    (((sEv 1 2).src 70).cstate = csActive ∧ ((sEv 1 2).src 70).later = none) ∧
    ((sEv 2 0).evCen 70 = false ∧ (sEv 2 0).evHen 70 = true) ∧
    (let s : State := { (sEv 1 0).setSrc 70 { Src.init with win := some (5, ⟨2, rz 70⟩) } with timer := 5 }
     (s.src 70).win = some (5, ⟨2, rz 70⟩) ∧ 5 ≤ s.timer ∧ s.evCen 70 = true ∧ s.evHen 70 = false ∧ (s.src 70).cstate = csIdle) := by
  decide +kernel
theorem test_meets_EventController_delivery :
    (let s := sPend.setReg (A.evtCentry 5) 1
     s.coreIdle 5 = true ∧ s.bit (A.evtCentry 5) 0 = true ∧ (s.firstDeliver 5).isSome = true) ∧
    (let s : State := { sPend with evt := { sPend.evt with starts := [5] } }
     s.evt.starts.contains 5 = true ∧ s.bit (A.evtCmask 5) 0 = false ∧ s.coreIdle 5 = true ∧ s.islandUp 0 = true) ∧
    (let s := sPend.setCore 5 { Core.init with waiting := true, prog := .grain }
     s.firstDeliver 5 = some 70 ∧ (s.core 5).waiting = true ∧ (s.core 5).halted = false ∧ (s.core 5).locks = []) ∧
    sPend.holds 5 = none ∧ sPend.firstClaim 5 = some 70 ∧ State.reset.firstClaim 5 = none ∧
    (let s := (sPend.setFld (A.evtCstat 5) 0 10 70).setFld (A.evtCstat 5) 10 1 1
     let s := s.setSrc 70 { Src.init with cstate := csActive, holder := 5 }
     s.holds 5 = some (fget 70 0 10) ∧ (s.src 70).cstate = csActive ∧ s.holds 5 ≠ some (fget 71 0 10)) ∧
    (let s := (sPend.setFld (A.evtCstat 5) 0 10 70).setFld (A.evtCstat 5) 10 1 1
     let s := s.setSrc 70 { Src.init with cstate := csActivePending, holder := 5, later := some ⟨1, rz 70⟩ }
     s.holds 5 = some (fget 70 0 10) ∧ (s.src 70).cstate = csActivePending) ∧
    tget 0 State.reset.evt.chold 97 ≤ State.reset.timer ∧ tget 0 State.reset.evt.hhold 97 ≤ State.reset.timer := by
  and_intros <;> decide +kernel

/-- Queue q of a type and a function, HEAD, TAIL, SIZE, STATE. -/
def queue (s : State) (q ty fn hd tl sz st : Nat) : State :=
  (((((s.setFld (A.qBind q) 0 2 fn).setFld (A.qCtl q) 0 4 (1 + 2 * ty)).setFld (A.qHead q) 0 16 hd).setFld (A.qTail q) 0 16 tl).setFld
    (A.qSize q) 0 16 sz).setFld (A.qStat q) 0 2 st
/-- Function f may send, with the link up. -/
def ready (s : State) (f : Nat) : State := (s.setFn f { Fn.init with bme := true }).setFld (hostStat f) 0 3 3
theorem test_meets_EventController_record :
    (let s := (ready (queue (sEv 2 0) 9 2 0 0 3 7 1) 0).setFld (A.evtEq 70) 0 16 9
     let s := s.setSrc 70 { Src.init with hrec := some ⟨1, rz 70⟩ }
     s.evt.src.find? (fun e => s.recReady e.1) = some (70, s.src 70) ∧ (s.src 70).hrec = some ⟨1, rz 70⟩) := by decide +kernel

def pkt (op seq commit rest : Nat) : Packet := BitVec.ofNat 512 (op + seq * 2 ^ 32 + 0xFFFF * 2 ^ 64 + commit * 2 ^ 128 + rest)
def cpl1 : Completion := ⟨1, 0, 0, 55, 0, 0, 0, 0⟩
/-- A submission queue with its completion queue. -/
def sSq : State := (ready (queue (queue State.reset 9 0 0 7 3 7 1) 10 1 0 0 0 7 1) 0).setFld (A.qLink 9) 0 16 10
theorem test_meets_HostQueues_doorbell :
    (let s := queue State.reset 9 3 0 0 3 7 1
     s.ifrstBusy 0 = false ∧ s.qState 9 = 1 ∧ s.qFn 9 = 0 ∧ (7 : DWord).toNat < s.qLen 9 ∧ s.qType 9 = 3 ∧ s.qLen 9 ≤ (8 : DWord).toNat) ∧
    (let s := queue State.reset 65535 1 0 1 3 7 1
     s.qType 65535 = 1 ∧ ((3 : DWord).toNat + s.qLen 65535 - s.qHd 65535) % s.qLen 65535 ≤ s.qUsed 65535 ∧ s.qFn 65535 ≠ 1) ∧
    State.reset.qState 9 ≠ 1 := by decide +kernel
theorem test_meets_HostQueues_commands :
    (let p := pkt 1 55 0 (2 ^ 24)
     sSq.qState 9 = 1 ∧ sSq.qType 9 = 0 ∧ sSq.qHd 9 ≠ sSq.qTl 9 ∧ sSq.qFn 9 < 2 ∧ sSq.fnReady (sSq.qFn 9) = true ∧
     sSq.qFull (sSq.qLnk 9) = false ∧ (sSq.qst 9).window = [] ∧ sSq.findProg (.sq 9) (pkSeq p) = none ∧ sSq.isTarget p = true ∧
     sSq.receiveCheck (.sq 9) p = none) ∧
    (let s := sSq.setQst 9 { QState.init with window := [(55, cpl1)] }
     (s.qst 9).window.find? (fun e => e.1 == pkSeq (pkt 1 55 0 0)) = some (pkSeq (pkt 1 55 0 0), cpl1)) ∧
    (let s : State := { sSq with cmds := { sSq.cmds with done := [⟨.sq 9, cpl1, false⟩] } }
     s.cmds.done = ⟨.sq 9, cpl1, false⟩ :: [] ∧ s.cmds.resets = [] ∧ s.qState (s.qLnk 9) = 1 ∧ s.qFull (s.qLnk 9) = false ∧
     s.fnReady (s.qFn (s.qLnk 9)) = true) ∧
    (let s : State := { sSq with cmds := { sSq.cmds with resets := [(.sq 9, 55, 1)] } }
     s.cmds.resets = [(.sq 9, 55, 1)] ∧ 1 < 2 ∧ s.cmds.done = []) ∧
    (let s := ((ready (queue State.reset 10 1 0 0 3 7 1) 0).setFld (A.qIrq 10) 0 12 (2048 + 5)).setFld (A.qStat 10) 3 1 1
     s.sigDue 10 = true ∧ (s.setFld (A.msixCtl0 5) 0 1 0).bit (A.msixCtl0 (s.fld (A.qIrq 10) 0 11)) 0 = false ∧
     (s.setFld (A.msixCtl0 5) 0 1 1).bit (A.msixCtl0 (s.fld (A.qIrq 10) 0 11)) 0 = true) := by and_intros <;> decide +kernel
/-- HostQueues: it is the turn of queue 9. -/
theorem test_meets_HostQueues_turn : (let s : State := { sSq with cmds := { sSq.cmds with turn := 8 } }
    s.fetchedOf 9 < 32 ∧ ∀ x, s.sqReady x = true → (9 + 65535 - s.cmds.turn) % 65536 ≤ (x + 65535 - s.cmds.turn) % 65536) :=
  ⟨by decide +kernel, fun _ _ => Nat.zero_le _⟩
theorem test_meets_HostQueues_states :
    (let s := (queue State.reset 10 1 0 5 6 7 0).setFld (A.qCtl 10) 0 1 0
     s.qFn 10 = 0 ∧ s.ifrstBusy 0 = false ∧ s.bad 7 10 = false ∧ s.enableOk 0 10 = true ∧ s.qEn 10 = false ∧
     fget 3 1 3 = s.fld (A.qCtl 10) 1 3 ∧ fget 3 4 1 = 0 ∧ s.qState 10 = 0 ∧ (s.setFld (A.qSize 10) 0 16 0).enableOk 0 10 = false ∧
     s.qFn 10 ≠ 1) ∧
    (let s := queue State.reset 10 0 0 5 6 7 1
     s.qState 10 = 1 ∧ s.qEn 10 = true ∧ s.qType 10 ≠ 1) ∧
    (let s := queue State.reset 10 0 0 5 6 7 2
     s.qState 10 = 2 ∧ s.cmds.inprog = [] ∧ s.cmds.done = [] ∧ s.frameWaits 10 = false ∧ (s.qst 10).wbs = []) := by decide +kernel
theorem test_meets_HostPort :
    State.reset.ifrstBusy 0 = false ∧ ((State.reset.setFn 0 { Fn.init with key := true }).fn 0).key = true ∧ (State.reset.fn 0).key = false ∧
    (State.reset.setFld (hostStat 1) 8 1 1).sys.perst = false ∧
    (let s := (queue (State.reset.setSrc 70 { Src.init with hrec := some ⟨1, rz 70⟩ }) 12 2 1 0 0 7 1).setFld (A.evtEq 70) 0 16 12
     s.recFor 1 = true) ∧
    (let s : State := { State.reset.setFn 1 { Fn.init with d3 := true, pmeStatus := true, pmeAt := 7 } with timer := 100007 }
     (s.fn 1).d3 = true ∧ (s.fn 1).pmeStatus = true ∧ (s.fn 1).pmeAt + 100000 ≤ s.timer ∧
     ({ s with timer := 100006 } : State).timer < (s.fn 1).pmeAt + 100000) ∧
    ((8 : BitVec 5).toNat ∈ [1, 2, 4, 8, 16] ∧ (5 : BitVec 3).toNat < 6) ∧ (3 : BitVec 5).toNat ∉ [1, 2, 4, 8, 16] ∧
    State.reset.fld A.hostStat0 0 8 ≠ 5 + 8 * 8 ∧ (State.reset.setFld A.hostStat0 0 8 (5 + 8 * 8)).fld A.hostStat0 0 8 = 5 + 8 * 8 := by
  decide +kernel
/-- An interface reset ends the wait for a forwarded command, and keeps one sent to the twin (17 R539). -/
theorem test_ifrst_forwarded :
    let x (st : Stage) : InProg := ⟨.sq 9, 55, pkt 1 55 0 0, st, 0⟩
    let s : State := { sSq with cmds := { sSq.cmds with inprog := [x .ready, x .forwarded, x .pair] } }
    (∀ y ∈ s.cmds.inprog, s.fromFn 0 y.origin = true) ∧ (s.ifrst 0).cmds.inprog = [x .pair] := by decide +kernel
/-- HOST_IFRST is busy after a function level reset. -/
theorem test_meets_HostPort_busy : (after (execFunctionLevelReset 0) State.reset).ifrstBusy 0 = true := by decide +kernel
/-- A stream queue of network port 2 that sends (0) or receives (1). -/
def sStream (dir : Nat) : State :=
  ((((queue (ready State.reset 0) 20 3 0 3 5 7 1).setFld (A.qCtl 20) 3 1 dir).setFld (A.qLink 20) 0 16 2).setFld (A.netPctl 2) 0 1 1).setFld
    (A.netPstat 2) 0 1 1
theorem test_meets_HostPort_frames :
    ((sStream 0).islandUp 29 = true ∧ (sStream 0).streamReady 20 0 = true ∧ (sStream 0).qLnk 20 % 8 = 2 ∧ (sStream 0).ethEn 2 = true ∧ (sStream 0).ethLink 2 = true ∧
      64 ≤ (64 : BitVec 16).toNat ∧ (1518 : BitVec 16).toNat ≤ 1518 ∧ (63 : BitVec 16).toNat < 64 ∧ 1518 < (1519 : BitVec 16).toNat) ∧
    ((sStream 0).setFld (A.netPstat 2) 0 1 0).ethLink 2 = false ∧
    (let s := (sStream 1).setFld (A.netPctl 2) 5 1 1
     s.streamReady 20 1 = true ∧ s.bit (A.netPctl 2) 5 = true ∧ s.ethEn 2 = true ∧ s.ethLink 2 = true ∧ (1522 : BitVec 16).toNat ≤ 1522 ∧
     (1521 : BitVec 16).toNat < 1522) := by and_intros <;> decide +kernel

/-! ## Hypotheses met: the chain, the twin, the network -/

def up (s : State) (p : Nat) : State := s.setFld (A.chPstat p) 0 2 2
def held (n : Nat) : Held := ⟨0, n / 4, BitVec.ofNat 16 n, 1, 2, .acc 5⟩
/-- Port 1 UP, with four frames not acknowledged. -/
def sLink : State := (up State.reset 1).setChPort 1 ⟨14, 100, [held 10, held 11, held 12, held 13]⟩
theorem test_meets_ChainLinkPorts :
    ((sLink.chPort 1).held = [held 10, held 11] ++ [held 12, held 13] ∧ (∀ h ∈ [held 12, held 13], h.lseq ≠ (12 : BitVec 16) - 1) ∧
      (∀ h ∈ [held 12, held 13], h.tries < 8) ∧ [held 10, held 11] = [held 10] ++ [held 11] ∧ (held 11).lseq = (12 : BitVec 16) - 1 ∧ ∀ x ∈ [held 10], x.lseq ≠ (12 : BitVec 16) - 1) ∧
    (∀ h ∈ (sLink.chPort 1).held, h.lseq ≠ (10 : BitVec 16) - 1 ∧ h.tries < 8) ∧ sLink.portUp 1 = true ∧ (sLink.chPort 1).held ≠ [] ∧
    (∃ h ∈ [held 32], 8 ≤ h.tries) ∧ (∃ h ∈ (sLink.chPort 1).held, h.sent + 2 ≤ ({ sLink with timer := 2 } : State).timer) ∧
    (let s := State.reset.setFld A.chCtl 0 1 1
     s.bit A.chCtl 0 = true ∧ s.fld (A.chPstat 3) 0 2 = 0 ∧ s.islandUp 30 = true) ∧
    (102 : BitVec 16) ≠ (sLink.chPort 1).rxSeq + 1 := by decide +kernel
/-- A frame from unit 3 with the LSEQ expected first. -/
def hd1 : ChHdr := ⟨3, 0xFF, 1, 0⟩
/-- All four ports UP; domain 0 LOCKED at 100. -/
def sChain : State :=
  ((up (up (up (up State.reset 0) 1) 2) 3).setDom 0 { Dom.init with cnt := 100, fab := 100, fabOn := true }).setFld (A.rdStat 0) 0 2 2
def sHead : State := sChain.setFld A.chStat 7 1 1
/-- One stream entry: enabled, from unit 3, SID 9. -/
def sStrm : State := (sChain.setReg (chOff 0 0 (4 * 5)) (BitVec.ofNat 32 (1 + 3 * 2 + 1 * 2 ^ 10 + 9 * 2 ^ 24))).setReg (chOff 0 0 (4 * 5 + 1)) 0x1000
theorem test_meets_Chain :
    sChain.takes 0 hd1 ∧ sChain.portUp 1 = true ∧ sHead.isHead = true ∧ sHead.chain.tokenSent = false ∧ sHead.chain.tokenOut = false ∧
    (sHead.took 0 hd1).isHead = true ∧ (sHead.took 0 hd1).chain.requests = 0 ∧ (sChain.took 0 hd1).isHead = false ∧
    (sChain.took 0 hd1).index = none ∧ (sChain.took 0 hd1).role ≠ 2 ∧ tokenIndex (sChain.took 0 hd1).role 63 ≤ 63 ∧
    (State.reset.setFld (A.chPstat 1) 0 2 1).fld (A.chPstat 1) 0 2 = 1 ∧ State.reset.islandUp 30 = true ∧
    (let s := ((sChain.setFld (A.rdCtl 0) 4 2 3).setFld (A.rdCtl 0) 12 2 2).setDom 0 { (sChain.dom 0) with marks := 3, markGrain := 99, markAt := 40 }
     let place (ns : Nat) : Int := (s.refNs ns : Int) - (5 : Word).toNat - s.fld (A.chPdelay 0) 0 16 * 32 / 25 + 200
     let near (ns : Nat) : Prop := ((place ns - 40) * s.domHz 0 - 1000000000).natAbs ≤ 3 * s.domHz 0
     s.domSrc 0 = 3 ∧ s.fld (A.rdCtl 0) 12 2 = (2 : DomId).val ∧ s.domState 0 ≠ 0 ∧ 0 < (s.dom 0).marks ∧ (100 : DWord) = (s.dom 0).markGrain + 1 ∧
     s.domHz 0 = 96000 ∧ ¬ near 0 ∧ (let u : State := { s with timer := 10 }
       (((u.refNs 262 : Int) - (5 : Word).toNat - 0 + 200 - 40) * 96000 - 1000000000).natAbs ≤ 3 * 96000)) ∧
    (let s : State := { sHead with chain := { sHead.chain with tokenOut := true } }
     s.isHead = true ∧ s.chain.tokenOut = true) ∧
    (let s : State := { sChain with chain := { sChain.chain with filling := [(7, [⟨1, 2, 3, 4⟩])] } }
     tget [] s.chain.filling 7 ≠ []) := by unfold State.takes; decide +kernel
theorem test_meets_Chain_stream :
    (let e := sStrm.chEntry 0 0 5
     let sel (q : Nat) := (sStrm.chLive 0 q).filter (fun i => cePeer (sStrm.chEntry 0 q i) == 3 && ceSid (sStrm.chEntry 0 q i) == 9)
     let r (tag : BitVec 16) := sStrm.tagGrain (ceDom e) tag + ceLink e - 1
     sStrm.takes 0 hd1 ∧ sStrm.chain.page = 0 ∧ sel 0 = [5] ∧ sel 1 = [] ∧ sStrm.chShadow (ceDom e) (r 105) = false ∧ 0 < ceNch e ∧
     sStrm.lastFab (ceDom e) < r 105 ∧ r 90 ≤ sStrm.lastFab (ceDom e)) := by unfold State.takes; decide +kernel

/-- A member of a pair in a state, EPOCH 7, index 4. -/
def sTwin (st : Nat) : State :=
  let s := ((sChain.setFld A.twStat 0 3 st).setReg A.twEpoch 7).setFld A.chStat 0 10 (0x40 + 4 + 256)
  { s with twin := { Twin.init with hbSeen := true, lastHb := 99, hbState := 2 } }
def digs (k : Nat) : List Word := (List.range 8).map fun i => BitVec.ofNat 32 (i + k)
theorem test_meets_Twin :
    (sTwin 1).takes 3 hd1 ∧ (sTwin 1).twin.lastHb.toNat ≤ (100 : DWord).toNat ∧ (sTwin 1).twState = twJoin ∧
    (sTwin 3).twState = twActive ∧ (sTwin 3).epoch.toNat < (8 : Word).toNat ∧ (sTwin 3).silent = false ∧ (7 : Word).toNat ≤ (sTwin 2).epoch.toNat ∧
    (sTwin 2).paired = true ∧ (sTwin 2).twState ≠ twActive ∧ (sTwin 2).twState = twStandby ∧ (sTwin 3).twState ≠ twStandby ∧
    tfind (sTwin 2).twin.own (50 * 16 + 11) = none ∧
    (let s : State := { sTwin 2 with twin := { (sTwin 2).twin with own := [(50 * 16 + 11, digs 0)] } }
     tfind s.twin.own (50 * 16 + 11) = some (digs 0) ∧ (digs 0).getD 7 0 ≠ ((digs 0).set 7 77).getD 7 0 ∧
     ∀ j, j < 8 → j ≠ 7 → (digs 0).getD j 0 = ((digs 0).set 7 77).getD j 0) ∧
    (let s0 := (sTwin 3).setFld A.twStat 3 2 3
     let s : State := { s0 with twin := { s0.twin with h := some 97, drill := true } }
     s.silent = true ∧ s.twin.h = some 97 ∧ 97 + 3 ≤ (s.dom s.pairDom).cnt.toNat) ∧
    (let s : State := { sTwin 3 with twin := { (sTwin 3).twin with driveAt := some 5 } }
     s.twin.driveAt = some 5 ∧ s.twState = twActive) := by unfold State.takes; and_intros <;> decide +kernel

def stop5 (c : Nat) : Packet := pkt 0x0102 55 c (5 * 2 ^ 192)
theorem test_meets_PairCommands_chain :
    (sTwin 0).takes 0 hd1 ∧ (tget [] (sTwin 0).cmds.remote hd1.src.toNat).find? (fun e => e.1 == 9 && e.2.1 == pkSeq (stop5 0)) = none ∧
    (sTwin 0).findProg (.chain 3 9 88 2) (pkSeq (stop5 0)) = none ∧
    (let s : State := { sTwin 0 with cmds := { (sTwin 0).cmds with inprog := [⟨originOf 9, 88, 0, .forwarded, 0⟩, ⟨.serial, 1, 0, .ready, 0⟩] } }
     s.cmds.inprog = ⟨originOf 9, 88, 0, .forwarded, 0⟩ :: [⟨.serial, 1, 0, .ready, 0⟩]) := by unfold State.takes; decide +kernel
theorem test_meets_PairCommands_prepare :
    (let s1 := (sTwin 3).took 2 hd1
     (sTwin 3).takes 2 hd1 ∧ s1.isCoord (stop5 110) = true ∧ goesOn (s1.pairStep1 (stop5 110) s1.twinSrc).2.1 = true ∧
     (s1.pairStep1 (stop5 110) s1.twinSrc).1.portUp 2 = true ∧ s1.isCoord (stop5 101) = true ∧
     goesOn (s1.pairStep1 (stop5 101) s1.twinSrc).2.1 = false ∧ (s1.pairStep1 (stop5 101) s1.twinSrc).1.portUp 2 = true) ∧
    (let s1 := (sTwin 2).took 2 hd1
     s1.isCoord (stop5 110) = false ∧ s1.portUp 2 = true ∧ (s1.twinCheck (stop5 110) 110 0 (s1.rawReg A.twCfg) 100).2 = Verdict.ok ∧
     (s1.twinCheck (stop5 110) 110 0 (s1.rawReg A.twCfg) 100).1.portUp 2 = true ∧
     (s1.twinCheck (stop5 101) 101 0 (s1.rawReg A.twCfg) 100).2 ≠ Verdict.ok ∧
     (s1.twinCheck (stop5 101) 101 0 (s1.rawReg A.twCfg) 100).1.portUp 2 = true) := by unfold State.takes; and_intros <;> decide +kernel
theorem test_meets_PairCommands_commit :
    (let s : State := { sTwin 3 with twin := { (sTwin 3).twin with out := [⟨88, stop5 0, 0x0102, none, false, 102, 0⟩] } }
     s.twin.out = [⟨88, stop5 0, 0x0102, none, false, 102, 0⟩] ∧ pkOpcode (stop5 0) = 0x0102 ∧ s.domRuns (pkDom (stop5 0)) = true ∧
     (s.took 2 hd1).portUp 2 = true ∧ (s.dom (pkDom (stop5 0))).cnt.toNat + 1 < (102 : DWord).toNat ∧
     (101 : DWord).toNat ≤ (s.dom (pkDom (stop5 0))).cnt.toNat + 1) ∧
    (let s : State := { sTwin 2 with twin := { (sTwin 2).twin with inn := [⟨88, stop5 0, 0x0102, 110, 0⟩] } }
     s.takes 2 hd1 ∧ s.twin.inn = ⟨88, stop5 0, 0x0102, 110, 0⟩ :: [] ∧ s.twin.out = []) := by unfold State.takes; decide +kernel

/-- Network port 2 enabled, its link up, another port in its place as NET_CTL's, its servo in a state. -/
def sNet (x : Nat) : State :=
  (((State.reset.setFld (A.netPctl 2) 0 1 1).setFld (A.netPstat 2) 0 1 1).setFld A.netCtl 0 4 9).setFld (A.netServo 2) 0 3 x
def putWords (s : State) (off : Nat → Nat) (n v : Nat) : State := (List.range n).foldl (fun s k => s.setReg (off k) (BitVec.ofNat 32 (v / 2 ^ (32 * k)))) s
theorem test_meets_Network_port :
    (let s := (sNet 1).setEthPort 2 { EthPort.init with proto := 1 + 5 * 2 ^ 8 }
     s.ethProto 2 ≠ 0 ∧ (5 : BitVec 8).toNat = s.ethPdom 2 ∧ s.ethRole 2 ≠ 1 ∧ s.ethRole 2 ≠ 2 ∧ s.servo 2 = 1 ∧ (6 : BitVec 8).toNat ≠ s.ethPdom 2) ∧
    (sNet 0).ethProto 2 = 0 ∧ (sNet 0).islandUp 29 = true ∧ ({ State.reset with sys := { State.reset.sys with stopped := [29] } } : State).islandUp 29 = false ∧
    (sNet 1).ethEn 2 = true ∧ (sNet 1).ethLink 2 = true ∧ (sNet 1).servo 2 = 1 ∧ ((sNet 1).ethPort 2).gm ≠ 77 ∧ ((sNet 1).ethPort 2).gm = 0 ∧
    (let s := (sNet 2).setEthPort 2 { EthPort.init with syncs := 15 }
     s.fld A.netCtl 0 4 ≠ 2 ∧ s.servo 2 = 2 ∧ (s.ethPort 2).syncs = 15 ∧ (-100 : Int).natAbs ≤ 100) ∧
    (let s := (sNet 3).setEthPort 2 { EthPort.init with bad := 3 }
     s.servo 2 = 3 ∧ (s.ethPort 2).bad = 3 ∧ 1000 < (-1001 : Int).natAbs ∧ ∀ d, d < 4 → s.domSrc d ≠ 2) ∧
    ((sNet 0).setFld (A.netPstat 2) 0 1 0).ethLink 2 = false ∧ (sNet 2).servo 2 < 3 ∧ State.reset.mainReach 140 = true ∧
    (let s := (sNet 0).setFld (A.netGclCtl 2) 2 1 1
     s.bit (A.netGclCtl 2) 2 = true ∧ (s.setReg (A.netGclCycle 2) 1000).cycleStart 2 2000 = true ∧
     (s.setReg (A.netGclCycle 2) 1000).cycleStart 2 999 = false) ∧
    3 * (sNet 0).ethRate 2 < 4 * 0x1FFFF ∧ 4 * 1000 ≤ 3 * (sNet 0).ethRate 2 ∧
    (let s := (sNet 0).setEthPort 2 { EthPort.init with txq := [(3, [.host 20 4 (List.replicate 64 1), .ptp true])] }
     s.txReady 2 3 100 = some (.host 20 4 (List.replicate 64 1)) ∧ (∀ u ∈ [4, 5, 6, 7], s.txReady 2 u 100 = none)) ∧
    (∀ u, u < 8 → (sNet 0).txReady 2 u 100 = none) := by and_intros <;> decide +kernel
/-- One ingress stream: port 2, domain 1, two channels, link offset 10. -/
def sIn : State :=
  let e : Nat := 1 + 2 * 2 + 1 * 64 + 1 * 2 ^ 8 + 1 * 2 ^ 11 + 0x1000 * 2 ^ 32 + 1 * 2 ^ 64 + 9 * 2 ^ 72 + 5 * 2 ^ 96 + (0xC0A80001 + 5004 * 2 ^ 32) * 2 ^ 128
  ((putWords (sNet 0) (fun k => netOff 0 0 (8 * 300 + k)) 8 e).setDom 1 { Dom.init with cnt := 1000, fab := 1000, fabOn := true }).setFld (A.rdStat 1) 0 2 2
theorem test_meets_Network_ingress :
    (let x := sIn.netEntry 0 sIn.net.page 300
     let r (ts : Word) := sIn.mediaGrain x true ts 0 + neLink x - 1
     sIn.netMatch sIn.net.page 2 0 (0xC0A80001 + 5004 * 2 ^ 32) = some (300, x) ∧
     sIn.netMatch (1 - sIn.net.page) 2 0 (0xC0A80001 + 5004 * 2 ^ 32) = none ∧ 6 = neNch x * sfmtBytes (neSfmt x) ∧
     sIn.netShadow (neDom x) (r 1005) = false ∧ sIn.lastFab (neDom x) < r 1005 ∧ r 1005 < (sIn.dom (neDom x)).cnt.toNat + 2048 ∧
     sIn.net.store = [] ∧ r 990 ≤ sIn.lastFab (neDom x)) := by decide +kernel
/-- One egress stream: port 2, domain 1, two channels, ten or so samples to a packet. -/
def sOut (cnt : DWord) : State :=
  let e : Nat := 1 + 2 * 2 + 1 * 64 + 1 * 2 ^ 8 + 1 * 2 ^ 11 + 1 * 2 ^ 23 + 5 * 2 ^ 26 + 0x1000 * 2 ^ 32 + 1 * 2 ^ 64 + 9 * 2 ^ 72 + 5 * 2 ^ 96 + 3 * 2 ^ 192
  ((putWords (sNet 0) (fun k => netOff 1 0 (8 * 7 + k)) 8 e).setDom 1 { Dom.init with cnt := cnt, fab := cnt, fabOn := true }).setFld (A.rdStat 1) 0 2 2
theorem test_meets_Network_egress :
    (let s := sOut 1201
     let x := s.netEntry 1 s.net.page 7
     (s.dom 1).fabOn = true ∧ s.netFrozen = false ∧ s.netLive 1 s.net.page = [7] ∧ s.net.outstat = [] ∧ neDom x = 1 ∧
     (s.outstat 7).preps = [] ∧ ((s.dom 1).fab - 1).toNat % s.neSpp x = 0) ∧
    (let n := (sOut 0).neSpp ((sOut 0).netEntry 1 0 7)
     let s := (sOut (1200 + BitVec.ofNat 64 n)).setOutstat 7 { Strm.init with preps := [⟨0, 1200, List.replicate (n - 1) [1, 2]⟩] }
     let x := s.netEntry 1 s.net.page 7
     1200 + (n - 1) = ((s.dom 1).fab - 1).toNat ∧ n - 1 + 1 = s.neSpp x ∧ ((s.dom 1).fab - 1).toNat % s.neSpp x ≠ 0 ∧
     (∀ y ∈ s.net.outstat, y.1 = 7) ∧ (∀ y ∈ s.net.ports, ∀ q ∈ y.2.txq, q.2.any (isStream 7) = false)) := by decide +kernel

/-! ## Hypotheses met: commands, changes under protection, DMA -/

/-- A unit in the READY state, domain 0 LOCKED at 100, with a packet of host queue 9 in hand. -/
def sCmd : State := ((State.reset.setDom 0 { Dom.init with cnt := 100, fab := 100, fabOn := true }).setFld (A.rdStat 0) 0 2 2).setFld A.sysPwr 2 2 2
def inHand (s : State) (p : Packet) : State := { s with cmds := { s.cmds with inprog := [⟨.sq 9, pkSeq p, p, .ready, 0⟩] } }
theorem test_meets_inHand : (inHand sCmd (stop5 0)).inHand (.sq 9) (stop5 0) [] := ⟨by decide +kernel, rfl⟩
theorem test_meets_CommandChecks_packet :
    CommandRow .stopCore 0x0102 ∧ pkOpcode (stop5 0) = 0x0102 ∧ (opOf 0x0102).isSome = true ∧ (inHand sCmd (stop5 0)).isPairCmd (stop5 0) = false ∧
    4 ≤ pk (pkt 0x0102 55 0 (4 * 2 ^ 16)) 2 1 ∧ pk (stop5 0) 2 1 < 4 ∧ pk (pkt 0x0102 55 0 (2 ^ (8 * 15 + 7))) 10 6 ≠ 0 ∧ pk (stop5 0) 10 6 = 0 ∧
    (opOf 0x0102).any (fun x => paramReserved (pkFields x (pkt 0x0102 55 0 (2 ^ (8 * 63 + 7)))) (pkt 0x0102 55 0 (2 ^ (8 * 63 + 7))) == some 63) = true ∧
    (let q := pkt 0x0102 55 0 (0xE5 * 2 ^ 192)
     (opOf 0x0102).any (fun x => reservedAt x q == none) = true ∧ (firstFail (sCmd.paramRules q)).isSome = true) := by
  refine ⟨.stopCore, ?_⟩; and_intros <;> decide +kernel
theorem test_meets_CommandChecks_grain :
    (let p (c : Nat) := stop5 c
     (∀ c ∈ [101, 102, 100 + 2 ^ 24, 100 + 2 ^ 24 + 1],
       ((((inHand sCmd (p c)).checkPacket (p c)).1.dom (pkDom (p c))).cnt, ((inHand sCmd (p c)).checkPacket (p c)).1.domRuns (pkDom (p c))) = (100, true)) ∧
     (let s := inHand (sCmd.setFld (A.rdStat 0) 0 2 1) (p 101);
       (s.checkPacket (p 101)).2 = Verdict.ok ∧ (s.checkPacket (p 101)).1.domRuns (pkDom (p 101)) = false) ∧
     (opOf 0x0102).any (fun x => x.used) = true ∧ pkCommit (p 101) ≠ 0 ∧
     (∀ c ∈ [101, 102, 100 + 2 ^ 24, 100 + 2 ^ 24 + 1], ((inHand sCmd (p c)).checkPacket (p c)).2 = Verdict.ok) ∧
     sCmd.domRuns (pkDom (p 101)) = true ∧ (sCmd.setFld (A.rdStat 0) 0 2 1).domRuns (pkDom (p 101)) = false ∧
     (sCmd.dom 0).cnt.toNat + 2 ^ 24 < (pkCommit (p (100 + 2 ^ 24 + 1))).toNat ∧ (pkCommit (p 101)).toNat < (sCmd.dom 0).cnt.toNat + 2 ∧
     (sCmd.dom 0).cnt.toNat + 2 ≤ (pkCommit (p 102)).toNat ∧ (pkCommit (p (100 + 2 ^ 24))).toNat ≤ (sCmd.dom 0).cnt.toNat + 2 ^ 24) ∧
    (let q := pkt 0x0000 55 5 0
     ((inHand sCmd q).checkPacket q).2 = Verdict.ok ∧ (opOf 0).any (fun x => !x.used) = true ∧ pkCommit q ≠ 0) := by
  and_intros <;> decide +kernel
/-- CommandChecks: 4096 changes wait already. -/
theorem test_meets_CommandChecks_limit :
    (let s := inHand { sCmd with cmds := { sCmd.cmds with commits := List.replicate 4096 ⟨0x102, 0, 110, 0, 5, 0, 0⟩ } } (stop5 111);
      (s.checkPacket (stop5 111)).2 = Verdict.ok ∧ (s.checkPacket (stop5 111)).1.resourceBusy (stop5 111) 111 = true) := by
  decide +kernel
/-- The packet passes the checks, and the state they leave accepts it. -/
def passes (s : State) (p : Packet) : Bool :=
  let r := (inHand s p).checkPacket p
  let c : DWord := if pkCommit p = 0 then BitVec.ofNat 64 ((r.1.dom (pkDom p)).cnt.toNat + 2) else pkCommit p
  r.2 == Verdict.ok && !r.1.stateBusy p && !(inHand s p).isPairCmd p && !r.1.resourceBusy p c && r.1.domRuns (pkDom p) &&
    decide ((r.1.dom (pkDom p)).cnt.toNat + 2 ^ 25 < 2 ^ 64) && decide ((r.1.dom (pkDom p)).cnt.toNat + 2 ≤ c.toNat) &&
    decide (c.toNat ≤ (r.1.dom (pkDom p)).cnt.toNat + 2 ^ 24)
/-- CommandsNow: QUEUE_SET of queue 300, own and another's; MONITOR; a queue to enable, its descriptor good and not. -/
def setQ (q : Nat) : Packet := pkt 0x500 55 0 (q * 2 ^ 192 + (1 * 2 + 1) * 2 ^ (26 * 8) + 7 * 2 ^ (28 * 8) + 0x40 * 2 ^ 256 + 0xFFF * 2 ^ (42 * 8))
theorem test_meets_CommandsNow :
    passes sCmd (pkt 0 55 0 0) = true ∧
    passes sCmd (pkt 1 55 0 0) = true ∧
    passes sCmd (pkt 2 55 0 0) = true ∧
    passes sCmd (pkt 3 55 0 (2 ^ 192)) = true ∧
    passes sCmd (pkt 4 55 0 (0xA5A5 * 2 ^ 192)) = true ∧
    passes sCmd (setQ 300) = true ∧
    passes sCmd (setQ 65533) = true ∧
    passes sCmd (pkt 0x501 55 0 (300 * 2 ^ 192 + 2 ^ 208)) = true ∧
    passes sCmd (pkt 0x501 55 0 (65533 * 2 ^ 192 + 2 ^ 208)) = true ∧
    passes sCmd (pkt 0x502 55 0 (300 * 2 ^ 192)) = true ∧
    passes sCmd (pkt 0x502 55 0 (65533 * 2 ^ 192)) = true ∧
    passes sCmd (pkt 0x800 55 0 (2 ^ 192)) = true ∧
    passes sCmd (pkt 0x801 55 0 0) = true ∧
    passes sCmd (pkt 0x901 55 0 0) = true ∧
    passes sCmd (pkt 0x901 55 0 (2 ^ 192)) = true ∧ pkCommit (pkt 0 55 0 0) = 0 ∧
    sCmd.issuerCode (.sq 9) = sCmd.qFn 300 ∧ sCmd.ifrstBusy (sCmd.qFn 300) = false ∧ sCmd.qState 300 = 0 ∧ sCmd.qEn 300 = false ∧ sCmd.bad 7 300 = false ∧
    sCmd.enableOk 0 300 = false ∧ ((queue sCmd 300 1 0 5 6 7 0).setFld (A.qCtl 300) 0 1 0).enableOk 0 300 = true ∧
    sCmd.issuerCode (.sq 9) < 2 ∧ sCmd.qFn 65533 ≠ sCmd.issuerCode (.sq 9) ∧ sCmd.bit A.dbgStat 2 = false := by
  and_intros <;> decide +kernel
/-- The state that the checks leave is the one they are given. -/
theorem test_meets_CommandsNow_same : (inHand sCmd (pkt 0 55 0 0)).checkPacket (pkt 0 55 0 0) = (inHand sCmd (pkt 0 55 0 0), Verdict.ok) := by
  decide +kernel
theorem test_meets_CommandsCommitted :
    passes sCmd (stop5 0) = true ∧
    passes sCmd (stop5 102) = true ∧
    passes sCmd (stop5 (100 + 2 ^ 24)) = true ∧
    passes sCmd (pkt 0x101 55 0 (5 * 2 ^ 192 + 4 * 2 ^ 200)) = true ∧
    passes sCmd (pkt 0x200 55 0 (0x1000000 * 2 ^ 192 + 2 * 2 ^ 240 + 77 * 2 ^ 256)) = true ∧
    passes sCmd (pkt 0x300 55 0 0) = true ∧
    passes sCmd (pkt 0x301 55 0 0) = true ∧
    passes sCmd (pkt 0x400 55 0 0) = true ∧
    passes sCmd (pkt 0x401 55 0 0) = true ∧
    passes sCmd (pkt 0x402 55 0 0) = true ∧
    passes sCmd (pkt 0x403 55 0 0) = true ∧
    passes sCmd (pkt 0x404 55 0 0) = true ∧
    passes sCmd (pkt 0x405 55 0 0) = true ∧
    passes sCmd (pkt 0x406 55 0 0) = true ∧ sCmd.domRuns 0 = true ∧
    (let p := pkt 0x100 55 120 (0x1000000 * 2 ^ 192 + 0x2000000 * 2 ^ 256 + 64 * 2 ^ 320 + 255 * 2 ^ 352)
     let s := own sCmd 64 141
     passes s p = true ∧ ((inHand s p).checkPacket p).1.imageInTime p 120 = true ∧
     (let l : State := { s with utime := 10 ^ 9 }
      passes l p = true ∧ ((inHand l p).checkPacket p).1.imageInTime p 120 = false)) ∧
    (let p := pkt 0x103 55 0 (5 * 2 ^ 192 + 1 * 2 ^ (8 * 26) + 255 * 2 ^ (8 * 27))
     passes sCmd p = true) ∧
    (let p := pkt 0x701 55 0 0
     let s := sCmd.setFld A.twStat 0 3 4
     passes s p = true ∧ s.twState ≠ twSolo) := by
  and_intros <;> decide +kernel

/-- A PROPOSE of a route change, with its digest. -/
def sProt : State := sCmd.setReg A.protCwin 1000
def ppk (dig c : Nat) : Packet := pkt 0x600 55 c (2 * 2 ^ 192 + 300 * 2 ^ (26 * 8) + 1 * 2 ^ (28 * 8) + 64 * 2 ^ 256 + dig * 2 ^ 320)
def pdig : Nat := (sProt.protDigest 2 0 300 1 110 (sProt.stagedWords (ppk 0 110))).toNat
/-- Proposal 1 PROPOSED, with a digest of 77. -/
def prop1 : Proposal := ⟨1, 2, 0, 1, 300, 1, 110, 1000, 77, [], 55, 0, 0⟩
def sSlot (x : Proposal) : State := { sProt with prot := { sProt.prot with slots := [(0, some x)], nextPid := 2 } }
theorem test_meets_ProtectionCommands_propose :
    (let s := inHand sProt (ppk pdig 110)
     let p := ppk pdig 110
     (s.checkPacket p).2 = Verdict.ok ∧ s.isPairCmd p = false ∧ (s.proposeCheck p (pkCommit p)).2 = none ∧ s.commitGrain p = (Verdict.ok, 110) ∧
     s.proposeBusy p = false ∧ s.stateBusy p = false ∧ s.freeSlot = some 0) := by and_intros <;> decide +kernel
theorem test_meets_ProtectionCommands_decide :
    (let s := sSlot prop1
     s.slotOf 1 = some (0, prop1) ∧ prop1.state = 1 ∧ s.commitCount < 4096 ∧
     s.tooLate prop1 = false ∧ ({ s with timer := 1000 } : State).tooLate prop1 = true ∧
     prop1.digest = BitVec.ofNat 64 (pk (pkt 0x601 56 0 (1 * 2 ^ 192 + 77 * 2 ^ 320)) 40 8) ∧
     prop1.digest ≠ BitVec.ofNat 64 (pk (pkt 0x601 56 0 (1 * 2 ^ 192 + 78 * 2 ^ 320)) 40 8) ∧
     passes s (pkt 0x601 56 0 (1 * 2 ^ 192 + 77 * 2 ^ 320)) = true ∧ passes s (pkt 0x602 57 0 (1 * 2 ^ 192)) = true ∧ pk (pkt 0x602 57 0 (1 * 2 ^ 192)) 24 4 = 1 ∧
     (sSlot { prop1 with state := 2 }).slotOf 1 = some (0, { prop1 with state := 2 })) := by and_intros <;> decide +kernel
theorem test_meets_ProtectionCommands_only : ∀ e ∈ (sSlot prop1).prot.slots, ∀ y, e.2 = some y → y.pid = 1 → e.1 = 0 ∧ y = prop1 := by
  intro e he y hy _
  cases List.mem_singleton.1 he
  exact ⟨rfl, (Option.some.inj hy).symm⟩
theorem test_meets_ProtectionCommands_unlock :
    (let dig := (sProt.protDigest 0xFF 0 0 0 0 []).toNat
     let p := pkt 0x900 55 0 (dig * 2 ^ 320)
     ((inHand sProt p).checkPacket p).2 = Verdict.ok ∧ sProt.debugOpen = false ∧ sProt.stateBusy p = false ∧ pk p 24 4 = 0 ∧ sProt.unlockWaits = none ∧
     pkDom p = 0 ∧ BitVec.ofNat 64 dig = BitVec.ofNat 64 (pk p 40 8) ∧ sProt.issuerCode (.sq 9) = 0 ∧ sProt.issuerCode (.sq 65000) ≠ 0 ∧
     sProt.paired = false) ∧
    (let s : State := { sProt with prot := { sProt.prot with unlock := some ⟨1, true, 77, 1000⟩ } }
     let p := pkt 0x900 56 0 (1 * 2 ^ 192 + 77 * 2 ^ 320)
     ((inHand s p).checkPacket p).2 = Verdict.ok ∧ pk p 24 4 = 1 ∧ pk p 40 8 = 77 ∧ s.timer < 1000) := by and_intros <;> decide +kernel
theorem test_meets_ProtectionCommands_image :
    (let p := pkt 0x100 55 120 (0x1000000 * 2 ^ 192 + 0x2000000 * 2 ^ 256 + 64 * 2 ^ 320 + 255 * 2 ^ 352)
     let c : Commit := ⟨0x0100, 0, 120, p, 55, 0, 0⟩
     let c' : Commit := { c with pkt := pkt 0x100 55 120 (farBase * 2 ^ 192 + 0x2000000 * 2 ^ 256 + 64 * 2 ^ 320 + 255 * 2 ^ 352) }
     let s : State := own (own { sCmd with cmds := { sCmd.cmds with images := [⟨p, false⟩], commits := [c] } } 64 141) 32 141
     s.cmds.images = [⟨p, false⟩] ∧ pk p 32 8 = 0x2000000 ∧ s.cmds.commits = [c] ∧ c.opcode = 0x0100 ∧ c.pkt = p ∧ s.islandUp 33 = true ∧ pk c.pkt 40 4 = 64 ∧
     s.rangeWaits (pk c.pkt 24 8) (pk c.pkt 40 4) = false ∧ s.rangeWaits 0x2000000 (pk c.pkt 40 4) = false ∧ pk c.pkt 24 8 = 0x1000000 ∧
     inBanks 0x2000000 = true ∧ s.awake 64 = true ∧ s.owner 64 = 141 ∧ s.portAReads 0x2000000 64 = false ∧ inBanks 0x1000000 = true ∧
     s.awake 32 = true ∧ s.owner 32 = 141 ∧ (wordsOf 0x1000000 64).any (fun w => s.portAWrites w) = false ∧ inFar 0x1000000 = false ∧
     (own s 64 5).owner 64 ≠ 141 ∧ pk c'.pkt 24 8 = farBase ∧ inFar (pk c'.pkt 24 8) = true ∧ s.stackFailed (stackOf farBase) = false ∧
     s.islandUp 32 = true) := by decide +kernel
theorem test_meets_PairCommandsStart :
    (∀ e ∈ [(sTwin 3, stop5 110), (sTwin 0, pkt 0x0700 55 110 0), (sTwin 3, pkt 0x0702 55 110 0)],
      (inHand e.1 e.2).isPairCmd e.2 = true ∧ (inHand e.1 e.2).isCoord e.2 = true ∧
      ((inHand e.1 e.2).islandUp 33 = true) ∧ ((inHand e.1 e.2).pairStep1 e.2 ((inHand e.1 e.2).originIndex (.sq 9))).2.1.status = 0 ∧
      ((inHand e.1 e.2).pairStep1 e.2 ((inHand e.1 e.2).originIndex (.sq 9))).1.portUp 2 = true) ∧
    (let s := inHand (sTwin 2) (stop5 110)
     s.isPairCmd (stop5 110) = true ∧ s.isCoord (stop5 110) = false ∧ s.portUp 2 = true ∧
     (((s.setFld (A.chPstat 2) 0 2 0).setFld (A.chPstat 3) 0 2 0).setFld A.chStat 6 1 0).pairPath = none) := by and_intros <;> decide +kernel

/-- Sequencer n RUNNING at a PC with an instruction and d registers; domain 1 LOCKED at 100. -/
def sDma (n pc : Nat) (w : DWord) (ds : List (Nat × DWord)) : State :=
  let s := (((State.reset.setFld A.sysPwr 2 2 2).setFld (A.dmaStat n) 0 2 1).setFld (A.dmaStat n) 8 8 pc).setReg64 (A.dmaProg n (2 * pc)) (A.dmaProg n (2 * pc + 1)) w
  let s := (s.setDom 1 { Dom.init with cnt := 100, fab := 100, fabOn := true }).setFld (A.rdStat 1) 0 2 2
  ds.foldl (fun s x => s.setDreg n x.1 x.2) s
def ins (op r : Nat) : DWord := BitVec.ofNat 64 (op * 2 ^ 58 + r)
/-- DmaInstructions: each operation code as the instruction at the last PC of the last sequencer. -/
theorem test_meets_DmaInstructions_codes : ∀ op, op < 16 → (sDma 31 255 (ins op 0) []).dmaAt 31 op (ins op 0) := by
  unfold State.dmaAt; decide +kernel
theorem test_meets_DmaInstructions_operands :
    (sDma 31 255 (ins 1 (7 * 2 ^ 52 + (2 ^ 48 - 1))) []).dmaAt 31 1 (ins 1 (7 * 2 ^ 52 + (2 ^ 48 - 1))) ∧ 0x10 ≤ diOpc (ins 0x10 5) ∧
    diBits (ins 3 0) 56 2 = 0 ∧ (sDma 0 3 (ins 3 (2 ^ 56)) []).dmaAt 0 3 (ins 3 (2 ^ 56)) ∧ diBits (ins 3 (2 ^ 56)) 56 2 = 1 ∧
    (let s := sDma 0 3 (ins 6 (2 ^ 56 + 4 * 2 ^ 52)) [(4, 100)]
     s.dmaAt 0 6 (ins 6 (2 ^ 56 + 4 * 2 ^ 52)) ∧ s.domRuns 1 = true ∧ (s.dreg 0 4).toNat ≤ (s.dom 1).cnt.toNat ∧ s.domState 1 ≠ 0 ∧ s.domState 0 = 0 ∧
     (s.dom 1).cnt.toNat < (101 : DWord).toNat ∧ (s.dom 1).fabOn = true ∧ (100 : DWord).toNat ≤ (s.dom 1).fab.toNat) ∧
    (let s := (sDma 0 3 (ins 7 (4 * 2 ^ 52 + 11 * 2 ^ 46)) [(4, 100)]).setFld (A.benchCtl 11) 0 2 1
     s.dmaAt 0 7 (ins 7 (4 * 2 ^ 52 + 11 * 2 ^ 46)) ∧ (s.seqr 0).dlv = none ∧ diBits (ins 7 (4 * 2 ^ 52 + 11 * 2 ^ 46)) 46 4 = 11 ∧ s.domState (s.benchDom 11) ≠ 0) := by
  unfold State.dmaAt; and_intros <;> decide +kernel
theorem test_meets_DmaInstructions_banks :
    (let a := 11 * 0x1000000 + 0x40
     let w := ins 8 (4 * 2 ^ 52 + 1)
     let s := (own (sDma 0 3 w [(4, BitVec.ofNat 64 a)]) (bankOf a) 108).setSeqr 0 { Dma.init with dlv := some ⟨100, 11, 0, false⟩ }
     s.dmaAt 0 8 w ∧ (s.seqr 0).txs = [] ∧ inBanks a = true ∧ benchOfBank (bankOf a) = 11 ∧ (s.dreg 0 4).toNat % 4 = 0 ∧
     s.awake (bankOf a) = true ∧ s.owner (bankOf a) = 108) ∧
    (let w := ins 12 (4 * 2 ^ 52 + 109 * 2 ^ 24)
     let s := (own (sDma 0 3 w [(4, 0x1000000)]) 32 108).setFld (A.bankElig 32 3) 13 1 1
     s.dmaAt 0 12 w ∧ inBanks 0x1000000 = true ∧ s.ownFails 32 108 (BitVec.ofNat 32 (diBits w 0 32)) = none ∧ diBits w 24 8 ≠ s.owner 32 ∧
     (own s 32 5).ownFails 32 108 (BitVec.ofNat 32 (diBits w 0 32)) ≠ none) ∧
    (let w := ins 13 (4 * 2 ^ 52)
     let s := ((own (sDma 0 3 w [(4, 0x1000000)]) 32 108).setFld (bankReg A.bankOwn 32) 8 8 109).setFld (A.bankElig 32 3) 13 1 1
     s.dmaAt 0 13 w ∧ s.bit (bankReg A.bankOwn 32) 16 = false ∧ s.owner 32 = 108 ∧ s.lender 32 = 109 ∧ s.eligible 32 (s.lender 32) = true) ∧
    (let w := ins 15 (5 * 2 ^ 48 + 0x801 * 2 ^ 28)
     let s := sDma 0 3 w [(5, 0x1000)]
     s.dmaAt 0 15 w ∧ (List.range 12).filter (fun b => w.getLsbD (28 + b)) = [0, 11] ∧ s.dreg 0 (diT w) ≠ 0 ∧ s.dreg 0 6 = 0) := by
  unfold State.dmaAt; and_intros <;> decide +kernel
def tx0 : DmaTx := ⟨0x1000040, 0x2000080, 16, false, false, false, 2⟩
theorem test_meets_DmaTransfers_issue :
    (let w := ins 4 (5 * 2 ^ 52 + 6 * 2 ^ 48 + 2 ^ 42 + 15)
     let s := sDma 0 3 w [(5, 0x1000000), (6, 0x2000040)]
     s.dmaAt 0 4 w ∧ (diSrcHost w = false ∨ diDstHost w = false) ∧ (s.dreg 0 5).toNat % 64 + 4 * 16 ≤ 64 ∧ (s.dreg 0 6).toNat % 64 + 4 * 16 ≤ 64 ∧
     diD w ≠ diT w ∧ ((s.setDreg 0 5 0x1000002).dreg 0 (diD w)).toNat % 4 ≠ 0) ∧
    (let w := ins 4 (2 ^ 46 + 2 ^ 44)
     (sDma 0 3 w []).dmaAt 0 4 w ∧ diSrcHost w = true ∧ diDstHost w = true) ∧
    (let w := ins 5 (5 * 2 ^ 52 + 6 * 2 ^ 48 + 7 * 2 ^ 40 + 102 * 2 ^ 16 + 3)
     let s := sDma 0 3 w [(5, 0x1000000), (6, 0x2000000), (7, 0xFFFFFFC000000100)]
     let g := s.dreg 0 (diG w)
     s.dmaAt 0 5 w ∧ (s.seqr 0).txs = [] ∧ diSrcHost w = false ∧ diBits w 16 16 + 1 < 104 ∧ ((s.setDreg 0 5 0x1000002).dreg 0 5).toNat % 4 ≠ 0 ∧
     (∀ r, r < 103 → (s.dreg 0 5 + BitVec.ofNat 64 r * (g.setWidth 32).signExtend 64).toNat % 4 = 0 ∧
       (s.dreg 0 5 + BitVec.ofNat 64 r * (g.setWidth 32).signExtend 64).toNat % 64 + 16 ≤ 64) ∧
     (∀ r, r < 103 → (s.dreg 0 6 + BitVec.ofNat 64 r * ((g >>> 32).setWidth 32).signExtend 64).toNat % 4 = 0 ∧
       (s.dreg 0 6 + BitVec.ofNat 64 r * ((g >>> 32).setWidth 32).signExtend 64).toNat % 64 + 16 ≤ 64)) := by
  unfold State.dmaAt; and_intros <;> decide +kernel
theorem test_meets_DmaTransfers_complete :
    (let s := (own (own (sDma 0 3 0 []) 32 108) 64 108).setSeqr 0 { Dma.init with txs := [tx0] }
     s.islandUp 32 = true ∧ (s.seqr 0).txs = [tx0] ∧ (s.seqr 0).wait = .none ∧ (s.seqr 0).err = none ∧ (s.seqr 0).stop = false ∧ inBanks tx0.src = true ∧ inBanks tx0.dst = true ∧
     s.borrowed tx0.src = false ∧ s.borrowed tx0.dst = false ∧ s.awake (bankOf tx0.src) = true ∧ s.awake (bankOf tx0.dst) = true ∧
     s.owner (bankOf tx0.src) = 108 ∧ s.owner (bankOf tx0.dst) = 108 ∧ (own s (bankOf tx0.src) 109).owner (bankOf tx0.src) ≠ 108 ∧
     tx0.srcHost = false ∧ tx0.dstHost = false ∧
     (ready s 0).hostOk = true ∧ (((ready s 0).seqr 0).txs = [tx0] ∧ (ready s 0).islandUp 32 = true)) ∧ tx0.pc < 256 := by and_intros <;> decide +kernel
theorem test_meets_DmaTransfers_control :
    fget 0x4D01 1 1 = 0 ∧ State.reset.dmaState 3 = 0 ∧ (State.reset.setFld (A.dmaStat 3) 0 2 3).dmaState 3 = 3 ∧ (sDma 3 9 0 []).dmaState 3 = 1 ∧
    fget 2 0 1 = 0 ∧
    (let s := ((sDma 3 9 0 []).setFld (A.dmaStat 3) 0 2 2).setSeqr 3 { Dma.init with wait := .grain 1 200 }
     s.islandUp 32 = true ∧ s.dmaState 3 = 2 ∧ (s.seqr 3).wait = .grain 1 200 ∧ (s.seqr 3).err = none) ∧
    (let s := ((sDma 3 9 0 []).setReg64 (A.dmaProg 3 24) (A.dmaProg 3 25) (ins 8 0)).setSeqr 3 { Dma.init with dlv := some ⟨5, 2, 0, false⟩ }
     s.islandUp 32 = true ∧ (s.seqr 3).dlv = some ⟨5, 2, 0, false⟩ ∧ s.dmaFrozen 3 = false ∧ (s.setFld (A.dmaCtl 3) 2 1 1).bit (A.dmaCtl 3) 2 = true ∧
     s.bit (A.dmaCtl 3) 2 = false ∧ (s.seqr 3).stop = false ∧ s.nextDlve 3 256 9 = some 12) := by and_intros <;> decide +kernel
theorem test_meets_FarMemory :
    State.reset.fwcBusy 2 = false ∧ (State.reset.setFld (A.fwcStat 2) 0 1 1).fwcBusy 2 = true ∧
    (let s := (sDma 3 9 0 []).setSeqr 3 { Dma.init with wait := .inval [2] }
     (s.seqr 3).wait = .inval [2] ∧ (s.seqr 3).stop = false) ∧
    (let a := farBase + 0x1234 * 64
     let s : State := { sCmd.setFld (A.fmScrub (stackOf a)) 0 1 1 with ce := [4, a, a + 32, a + 64] }
     inFar a = true ∧ s.bit (A.fmScrub (stackOf a)) 0 = true ∧ s.stackFailed (stackOf a) = false ∧ s.farBad a = false ∧
     s.islandUp 32 = true ∧ s.domRuns (s.fld A.spallCtl 1 2) = true ∧ s.scrubDone.contains a = false ∧
     ({ s with spall := { s.spall with scrubPeriod := s.scrubPeriodNow, scrubbed := [a] } } : State).scrubDone.contains a = true ∧
     ({ s with ue := [a + 4] } : State).farBad a = true) := by and_intros <;> decide +kernel

/-! ## Hypotheses met: resets, power, faults, monitor, self test, control registers -/

theorem test_meets_Resets :
    (let s : State := { State.reset.setFld A.chStat 7 1 1 with sys := { State.reset.sys with booting := true } }
     s.sys.booting = true ∧ s.sys.fatal = false ∧ s.sys.thermalHold = false ∧ s.sys.refLost = false ∧ s.isHead = true ∧ s.role ≠ 2 ∧
     s.stackFailed 3 = false) ∧ State.reset.isHead = false ∧
    ({ State.reset with sys := { State.reset.sys with refLost := true } } : State).sys.refLost = true ∧
    (let s := State.reset.setCore 95 { Core.init with resetting := true, s := [(3, 7)] }
     (s.core 95).resetting = true ∧ (s.core 95).sb = [] ∧ (s.core 95).sbWait = [] ∧ s.benchUp 11 = true) ∧
    State.reset.benchResets 11 = false ∧
    (after (execBenchRst 11) State.reset).benchResets 11 = true := by decide +kernel
/-- READY: every bench RUN. -/
def sPw : State := State.reset.setFld A.sysPwr 2 2 2
theorem test_meets_PowerStates_unit :
    fget 1 1 1 = 0 ∧ fget 1 0 1 = 1 ∧ fget 0 0 1 = 0 ∧ (sPw.setFld (A.rdCtl 0) 0 1 1).standbyOk = false ∧ sPw.standbyOk = true ∧
    sPw.fld A.sysPwr 2 2 = 2 ∧ sPw.sys.fatal = false ∧ (sPw.setFld A.sysPwr 0 4 (1 + 4)).fld A.sysPwr 2 2 = 1 ∧
    (let s : State := { sPw.setFld A.sysPwr 0 1 1 with sys := { sPw.sys with pwrTo := some true } }
     s.sys.pwrTo = some true ∧ s.bit A.sysPwr 0 = true) ∧
    (let s : State := { sPw.setFld (A.benchPwr 11) 4 3 2 with sys := { sPw.sys with pwrTo := some false } }
     s.sys.pwrTo = some false ∧ s.stackFailed 3 = false ∧ (∀ c, c < 96 → (s.core c).sb = [] ∧ (s.core c).sbWait = []) ∧ s.bit A.sysPwr 0 = false ∧ s.fld (A.benchPwr 11) 0 2 = 0 ∧ s.benchUp 11 = false) := by decide +kernel
theorem test_meets_PowerStates_bench :
    fget 2 2 1 = 0 ∧ fget 2 0 2 = 2 ∧ sPw.benchIdle 11 = true ∧ sPw.benchUp 11 = true ∧ (sPw.setFld (A.evtCentry 95) 0 1 1).benchIdle 11 = false ∧
    (let s := sPw.setFld (A.benchPwr 11) 4 3 2
     s.benchUp 11 = false ∧ s.fld (A.benchPwr 11) 4 3 ≠ 4) ∧
    (sPw.setFld (A.benchPwr 11) 4 3 4).fld (A.benchPwr 11) 4 3 = 4 ∧
    (let s := sPw.setBench 11 { Bench.init with pwrTo := some 3 }
     (s.bench 11).pwrTo = some 3 ∧ (s.bench 11).pwrNext = none) ∧
    fget 399 0 11 < 400 ∧ 2000 < fget 2025 0 11 ∧ fget 1001 0 11 % 25 ≠ 0 ∧ 400 ≤ fget 400 0 11 ∧ fget 2000 0 11 ≤ 2000 ∧ fget 2000 0 11 % 25 = 0 ∧
    (let s := sPw.setFld (A.benchClkstat 11) 12 1 1
     s.bit (A.benchClkstat 11) 12 = true ∧ s.benchUp 11 = true ∧ s.benchIdle 11 = true ∧ (s.setFld (A.evtCentry 95) 0 1 1).benchIdle 11 = false) := by
  decide +kernel
theorem test_meets_UnitFaults :
    ((sPw.fld A.ufTwarn 0 8 : Int) * 16 ≤ (1600 : BitVec 16).toInt ∧ sPw.sys.lastWarn = none ∧ (1680 : Int) ≤ (1680 : BitVec 16).toInt) ∧
    (let s : State := { sPw with timer := 500000, sys := { sPw.sys with lastWarn := some 400000 } }
     s.sys.lastWarn = some 400000 ∧ 400000 + 100000 ≤ s.timer ∧ ({ s with timer := 499999 } : State).timer < 400000 + 100000) ∧
    sPw.sys.stopped.contains 33 = false ∧ ({ sPw with sys := { sPw.sys with stopped := [11] } } : State).sys.stopped.contains 11 = true ∧
    sPw.benchUp 11 = true ∧ (inHand sPw (stop5 0)).islandUp 33 = true ∧ (inHand sPw (stop5 0)).twin.out = [] := by decide +kernel

/-- Debug open, both sessions open. -/
def sMon : State := ((State.reset.setFld A.sysPwr 2 2 2).setFld A.dbgStat 0 2 3).setFld A.dbgStat 2 2 3
/-- A monitor request waits on the serial port. -/
def asked (s : State) (req : List Byte) : State := { s with sys := { s.sys with monQ := [req] } }
/-- It is the turn of the only request that waits. -/
def turns (s : State) (req : List Byte) : Bool := (asked s req).monTurn .serial req && (asked s req).sys.monQ.all monRowed
theorem test_meets_ResidentMonitor_frames :
    frameOf [1, 2, 3] = none ∧
    (let f := (serialFrame 3 [10, 0x7E, 0, 0]).drop 1
     let g := (frameOf f).getD []
     frameOf f = some g ∧ g.getD 0 0 = 3 ∧ (g.drop 3).take (g.length - 7) = [10, 0x7E, 0, 0] ∧ 9 < (10 : Byte).toNat ∧
     sMon.sys.monQ = [] ∧ sMon.monBusy .serial = false) ∧
    (let f := (serialFrame 3 (monHead 0 0x7D)).drop 1
     let g := (frameOf f).getD []
     frameOf f = some g ∧ g.getD 0 0 = 3 ∧ (g.drop 3).take (g.length - 7) = monHead 0 0x7D ∧ monRowed (monHead 0 0x7D) = true) ∧
    (let s := (sMon.setReg A.mbxReqlen 4).setReg (A.mbxReq 0) 0x00007700
     s.bit A.mbxStat 0 = false ∧ (s.mbxRequest.getD 0 0).toNat ≤ 9 ∧ monFormed s.mbxRequest = true ∧ fget 1 0 1 = 1 ∧
     (s.setFld A.mbxStat 0 1 1).bit A.mbxStat 0 = true ∧ (s.setFld A.mbxStat 0 1 1).monTurn .mailbox (monHead 0 0x77) = true ∧ s.bit A.mbxIrq 8 = false) := by
  decide +kernel
theorem test_meets_ResidentMonitor_access :
    sMon.debugOpen = true ∧ sMon.sessionOn .serial = true ∧ turns sMon (monHead 0 9) = true ∧ sMon.monTurn .serial (monHead 0 9) = false ∧
    turns sMon (reqRead 9 0x1000040 1 false) = true ∧ turns sMon (reqRead 9 0x1000002 1025 true) = true ∧
    turns sMon (reqWrite 9 0x1000040 1 [5]) = true ∧ turns (sMon.setFld A.dbgStat 0 2 0) (reqRead 9 0x1000040 1 false) = true ∧
    turns sMon (monHead 9 9 ++ [4]) = true ∧ turns sMon (monHead 9 9 ++ [5]) = true ∧ (sMon.setFld A.dbgStat 0 2 0).debugOpen = false ∧
    (sMon.setFld A.dbgStat 2 2 0).sessionOn .serial = false ∧ (0x1000002 : BitVec 48).toNat % 4 ≠ 0 ∧ 1024 < (1025 : BitVec 16).toNat ∧
    inBanks (bankEnd - 4) = true ∧ sMon.awake (bankOf (bankEnd - 4)) = true ∧ sMon.borrowed (bankEnd - 4) = false ∧
    inCtl (ctlBase + A.ufTwarn) = true ∧ sMon.reaches 144 (ctlOff (ctlBase + A.ufTwarn)) = true ∧ sMon.borrowed (ctlBase + A.ufTwarn) = false ∧
    (sMon.setFld A.dbgStat 0 2 2).fld A.dbgStat 0 2 = 2 := by decide +kernel
/-- Core 95 halted. -/
def sHalt : State := sMon.setCore 95 { Core.init with halted := true, pc := 0x44, s := [(5, 77)] }
theorem test_meets_ResidentMonitor_cores :
    (95 : Byte).toNat < 96 ∧ (sHalt.core 95).halted = true ∧ (sHalt.core 94).halted = false ∧ (sHalt.core 94).haltPend = none ∧
    (∀ r ∈ [reqCore 3 9 95 [], reqCore 3 9 94 [], reqCore 4 9 95 [], reqCore 4 9 94 [], reqCore 5 9 95 (0 :: bytesOf 0 2),
       reqCore 5 9 95 (0 :: bytesOf 3 2), reqCore 7 9 95 [0, 63], reqCore 7 9 95 [6, 0], reqCore 7 9 95 [7, 0],
       reqCore 8 9 95 (0 :: 63 :: 0 :: bytesOf 5 4), reqCore 8 9 95 (6 :: 0 :: 0 :: bytesOf 64 4), reqCore 8 9 95 (3 :: 0 :: 0 :: bytesOf 1 8),
       reqCore 6 9 95 (bytesOf 0 3 ++ bytesOf 0xA800000A 32), reqCore 6 9 95 (bytesOf 0 3 ++ bytesOf 0xFFFE125A 32)],
       turns sHalt r = true) ∧ (63 : Byte).toNat < 64 ∧ 6 < (7 : Byte).toNat ∧ (4 : Byte).toNat ≤ 4 ∧
    (let s := sMon.setCore 5 { Core.init with haltPend := some 2, prog := .grain }
     (s.core 5).resetting = false ∧ settled (s.core 5) = true ∧ (s.core 5).mon = none ∧ inLock (s.core 5) = false ∧ slotOwed (s.core 5) = false ∧
     (s.core 5).haltPend = some 2) ∧
    (let ops (w : BitVec 256) := rawOps 8 (bundleParcels (fun o => (w >>> (8 * o)).setWidth 16) 8 0)
     let u := sHalt.monPop.feedBundle 95 (ops 0xA800000A) ⟨.serial, 6, 9, false⟩
     (ops 0xFFFE125A).any (fun r => badFeed 95 r) = true ∧ (ops 0xA800000A).any (fun r => badFeed 95 r) = false ∧ settled (u.core 95) = true ∧
     (u.core 95).resetting = false ∧ (u.core 95).haltPend = none ∧ (u.core 95).halted = true ∧ (u.core 95).mon = some ⟨.serial, 6, 9, false⟩ ∧
     u.sys.monQ = []) := by
  decide +kernel
/-- The spall engine on, all domains LOCKED. -/
def sSp : State :=
  (List.range 4).foldl (fun s d => s.setFld (A.rdStat d) 0 2 2) ((State.reset.setFld A.spallCtl 0 1 1).setFld A.spallCtl 1 2 1)
theorem test_meets_SpallTest :
    sSp.spallRuns = true ∧ sSp.spall.katCore = none ∧ sSp.coreIdle 95 = true ∧ sSp.islandUp 11 = true ∧ tget 0 sSp.spall.katNext 95 < 128 ∧
    State.reset.spallRuns = false ∧ (sSp.setCore 95 { Core.init with prog := .event }).coreIdle 95 = false ∧
    ({ sSp with spall := { sSp.spall with katCore := some 95 } } : State).spall.katCore = some 95 ∧
    sSp.borrowOk 352 = true ∧ sSp.nextStripe 352 0 = true ∧ sSp.ue = [] ∧
    (let s : State := { sSp with spall := { sSp.spall with borrow := some (383, 127), shadow := [(383 * 0x80000 + 127 * 0x1000, 9)] } }
     s.spall.borrow = some (383, 127) ∧ s.awake 383 = true ∧ tblWf 0 s.spall.shadow = true ∧
     (∀ e ∈ s.spall.shadow, 383 * 0x80000 + 127 * 0x1000 ≤ e.1 ∧ e.1 < 383 * 0x80000 + 127 * 0x1000 + 0x1000) ∧
     s.fab.stores = [] ∧ (∀ i, i < 8 → (s.core (383 / 32 * 8 + i)).jobs = []) ∧ ∀ i, i < 8 → (s.core (383 / 32 * 8 + i)).drain = .none) ∧
    sSp.islandUp 12 = true ∧ sSp.domRuns (sSp.wagonDom 51) = true ∧ tget none sSp.spall.probe 7 = none ∧
    tget 0 sSp.spall.probeAt (sSp.wagonDom 51) ≠ (sSp.dom (sSp.wagonDom 51)).cnt.toNat + 1 ∧
    (let s : State := { sSp with spall := { sSp.spall with probeAt := [(sSp.wagonDom 51, (sSp.dom (sSp.wagonDom 51)).cnt.toNat + 1)] } }
     s.domRuns (s.wagonDom 51) = true ∧ tget 0 s.spall.probeAt (s.wagonDom 51) = (s.dom (s.wagonDom 51)).cnt.toNat + 1) ∧
    (let s : State := { sSp with spall := { sSp.spall with probe := [(7, some (29, probePattern 0))] } }
     tget none s.spall.probe 7 = some (29, probePattern 0) ∧ probePattern 0 + 1 ≠ probePattern 0) := by and_intros <;> decide +kernel
theorem test_meets_ControlRegisters :
    A.ufTwarn % 4 = 0 ∧ A.protAppcnt % 4 = 0 ∧ A.sysStat % 4 = 0 ∧ (A.dmaD 31 14) % 8 = 0 ∧ (A.dmaD 31 15) % 8 ≠ 0 ∧
    State.reset.reaches 140 A.ufTwarn = true ∧ State.reset.reaches 5 A.ufTwarn = false ∧ State.reset.reaches 140 A.protAppcnt = true ∧
    State.reset.reaches 140 A.sysStat = true ∧ State.reset.reaches 140 A.protCwin = true ∧ State.reset.reaches 140 A.twCfg = true ∧
    State.reset.reaches 140 A.dbgCtl = true ∧ State.reset.debugOpen = false ∧ State.reset.reaches 140 (A.dmaD 31 15) = true ∧
    State.reset.dmaState 31 = 0 ∧ (State.reset.setFld (A.dmaStat 31) 0 2 2).dmaState 31 = 2 ∧ (A.dmaD 31 15 < 2 ^ 33) := by decide +kernel

/-! ## Steps with their results worked out by hand -/

/-- 07 R237: 0xFFFF_FFFF + 7 is 6 with C set, Z, N and V clear. -/
theorem test_add_wraps : ((after (execAdd 13 ⟨0, 0, false, 7, 6, 5⟩) sc).core 13).pws =
    [⟨101, 100, 4, .s 7, 6⟩, ⟨101, 100, 4, .flg 0xF, 4⟩] := by decide +kernel
/-- 07 R242: -1 × -1 in Q31 saturates and sets S, after 3 bundles. -/
theorem test_mulq_saturates : ((after (execMulq 13 ⟨1, 0, false, 7, 5, 5⟩) (scWith fun k => { k with s := [(5, 0x80000000)] })).core 13).pws =
    [⟨103, 100, 5, .s 7, 0x7FFFFFFF⟩, ⟨103, 100, 5, .flg 0x10, 0x10⟩] := by decide +kernel
/-- 07 R243: a division by zero that does not trap. -/
theorem test_div_byZero : (((after (execDiv 13 ⟨0, 0, false, 7, 6, 40⟩) sc).core 13).pws.map fun p => (p.due, p.tgt, p.val)) =
    [(112, Tgt.s 7, 0x80000000), (112, .flg 0x28, 0x20)] := by decide +kernel
/-- 07 R240: -1 < 7 signed. -/
theorem test_cmp_less : (((after (execCmp 13 ⟨0, 0, 3, 2, 6, 5⟩) sc).core 13).pws.map fun p => (p.tgt, p.val)).head? =
    some (Tgt.p 3, 0xFFFFFFFFFFFFFFFF) := by decide +kernel
/-- 07 R245: LDB extends the sign. -/
theorem test_ldb_extends : (((after (execLdb 13 ⟨0, 0, false, 9, 1, 5, 1⟩) { sc with mem := memPut [] 0x1000041 [0x80] }).core 13).pws.map fun p =>
    (p.due, p.tgt, p.val)) = [(104, Tgt.s 9, 0xFFFFFF80)] := by decide +kernel
/-- 09 R319: a halfword leaves the store buffer, low byte first. -/
theorem test_storeBufferWrite : (after (execStoreBufferWrite 13) (scWith fun k => { k with sb := [⟨[⟨0x1000040, 2, 0x11223344⟩], false, 0, 90⟩] })).mem =
    [(0x1000040, 0x44), (0x1000041, 0x33)] := by decide +kernel
/-- 07 R255, R256: BR taken, 16 words back from a bundle at 0x40. -/
theorem test_br_target : ((after (execBr 13 ⟨2, true, 0x7FFF0⟩) (scWith fun k => { k with bpc := 0x40 })).core 13).dslot = some (true, 0) := by
  decide +kernel
/-- 07 R260, the worked LOOP at 0x0200: ls0 0x0204, le0 0x020C, lc0 4. -/
theorem test_loop_example : (((after (execLoop 13 ⟨0, 0, true, 4, 4⟩) (scWith fun k => { k with bpc := 0x200, npc := 0x204 })).core 13).pws.map fun p =>
    (p.tgt, p.val)) = [(Tgt.lc 0, 4), (.ls 0, 0x204), (.le 0, 0x20C)] := by decide +kernel
/-- 08 R286: -1 × 2; 1 + 2^-24 rounds to even; 08 R287: 0 × ∞. -/
theorem test_float : (fpMul ⟨0, true⟩ 0xBF800000 0x40000000).1 = 0xC0000000 ∧ (fpAdd ⟨0, true⟩ 0x3F800000 0x33800000).1 = 0x3F800000 ∧
    (fpMul ⟨0, true⟩ 0 0x7F800000).1 = 0x7FC00000 := by decide +kernel
/-- 08 R281: with a NaN, neither less nor less or equal holds, an infinity beside it or not; -∞ is less than +∞. -/
theorem test_fcmp_nan : ((fpCmp ⟨0, true⟩ 2 0xFF800000 0x7FC00000).1, (fpCmp ⟨0, true⟩ 3 0x7FC00000 0x7F800000).1,
    (fpCmp ⟨0, true⟩ 2 0xFF800000 0x7F800000).1) = (false, false, true) := by
  decide +kernel
/-- 08 R282: 2 × 3 added to 10 in lane 1 alone. -/
theorem test_vmacq_applies : accLane (tget 0 (takeDue false { kc with va := [(0, 10 <<< 72)], accs := [⟨104, 100, 2, 0, .mac, 2 <<< 32, 3 <<< 32, 2⟩] } 104).va 0) 1 = 16 := by
  decide +kernel
/-- 06 R217, R220: `ADD s5, s3, s40` issues as the 101st bundle, and the next one stands 4 bytes on. -/
theorem test_bundleIssue : (let k := ((scAdd.beginBundle 13 addBundle).nextPc 13 false).core 13
    (k.t, k.bpc, k.pc)) = (101, 0x40, 0x44) := by decide +kernel
/-- 02 R45: the counter steps by one. -/
theorem test_grainBoundary : ((after (execGrainBoundary 1 .absent 0) sDom).dom 1).cnt = 42 ∧ ((after (execGrainBoundary 1 .absent 0) sDom).dom 1).btime = 77 := by
  decide +kernel
/-- 05 R180: a release by the host sets PEND and keeps the owner. -/
theorem test_bankOwnWrite : (let t := after (execBankOwnWrite 5 141 0xFF000000) (own State.reset 5 141)
    (t.bit (bankReg A.bankOwn 5) 16, t.owner 5)) = (true, 141) := by decide +kernel
/-- 04 R128: the second word of the route goes from 0x20001 to 0x40002. -/
theorem test_schedCarry : (after (execSchedCarry 1 0 1 false) sRt).wq 7 = [⟨0x40002 * 4, 0x11223344, none⟩] := by decide +kernel
/-- 03 R113: a slot's word goes to the inbox. -/
theorem test_slotReceive : ((after (execSlotReceive 72 0 0x11223300 0) (sMap (1 * 2 ^ 60 + 8 * 2 ^ 54 + 0x12345))).wq 1).map (fun x => x.dst) = [0x12345 * 4] := by
  decide +kernel
/-- 15 R488: an enabled IDLE source becomes PENDING. -/
theorem test_eventRaise : ((after execEventRaise (sEv 1 0)).src 70).cstate = csPending ∧ (after execEventRaise (sEv 1 0)).raises = [] := by decide +kernel
/-- 15 R497: a claim answers the source and makes it ACTIVE. -/
theorem test_evtClaimRead : (after (execEvtClaimRead 5 5) sPend).out = [.readData 5 70] ∧ ((after (execEvtClaimRead 5 5) sPend).src 70).cstate = csActive := by
  decide +kernel
/-- 13 R440: a doorbell moves TAIL. -/
theorem test_doorbell : (after (execDoorbell 9 0 (.wr 7)) (queue State.reset 9 0 0 0 3 7 1)).qTl 9 = 7 := by decide +kernel
/-- 12 R390: a NAK has what follows sent again. -/
theorem test_nak : (((after (execNak 1 12) sLink).chPort 1).held.map fun h => (h.lseq, h.tries)) = [(12, 4), (13, 4)] := by decide +kernel
/-- 14 R464: COMMIT 0 is the first grain that can be met, two after the current one. -/
theorem test_stopCore_commit : (after (execStopCore (.sq 9) (stop5 0)) (inHand sCmd (stop5 0))).cmds.commits.map (fun c => (c.opcode, c.grain)) = [(0x0102, 102)] := by
  decide +kernel
/-- 10 R343: SETI writes a 48-bit constant. -/
theorem test_seti : (let w := ins 1 (7 * 2 ^ 52 + (2 ^ 48 - 1))
    let t := after (execSeti 31 w) (sDma 31 3 w [])
    (t.dreg 31 7, t.dmaPc 31)) = (0xFFFFFFFFFFFF, 4) := by decide +kernel
/-- 10 R343: an undefined operation code is ERROR with code 1. -/
theorem test_dmaIllegal : (after (execSeti 31 (ins 0x10 5)) (sDma 31 3 (ins 0x10 5) [])).fld (A.dmaStat 31) 16 4 = 1 := by decide +kernel
/-- 18 R552: STANDBY is refused while a domain is enabled. -/
theorem test_sysPwrWrite_refused : (after (execSysPwrWrite 1) (sPw.setFld (A.rdCtl 0) 0 1 1)).bit A.sysPwr 1 = true := by decide +kernel
/-- 19 R565: the monitor reads a word, low byte first. -/
theorem test_monitorRead : (after (execRead .serial 9 0x1000040 1 false [])
      (asked { sMon with mem := memPut [] 0x1000040 [1, 2, 3, 4] } (reqRead 9 0x1000040 1 false))).out =
    [.serial (serialFrame 4 [1, 9, 0, 0, 1, 2, 3, 4])] := by decide +kernel
/-- 19 R561: flag and escape bytes inside a frame. -/
theorem test_escape : escape [0x7E, 0x41, 0x7D] = [0x7D, 0x5E, 0x41, 0x7D, 0x5D] ∧ unescape [0x7D, 0x5E, 0x41, 0x7D, 0x5D] = some [0x7E, 0x41, 0x7D] ∧
    unescape [0x41, 0x7D] = none := by decide +kernel
/-- 16 R518: PROT_CWIN takes 1000 and refuses 999. -/
theorem test_registerWrite_range : (after (execRegisterWrite (BitVec.ofNat 33 A.protCwin) 140 (.word 1000)) State.reset).fld A.protCwin 0 22 = 1000 ∧
    (after (execRegisterWrite (BitVec.ofNat 33 A.protCwin) 140 (.word 999)) State.reset).fld A.protCwin 0 22 = 2000000 := by decide +kernel

end Sys2Proof.Tests
end

section
/-! # The scalar operations of the X and K slots (07 R237-R244, R251, R269)

The frame of an operation first: what a row does where its operation runs. Then the values and flags that the model's
functions compute, then the rows, then the statements. -/

namespace Sys2Proof.Machine

/-! ## The frame of an operation -/

@[simp] theorem State.withQueue_pending_self (s : State) : s.withQueue s.pending = s := (rfl)

@[simp] theorem State.sched_pending (s : State) (c slot lat : Nat) (tgt : Tgt) (v : BitVec 512) :
    (s.sched c slot lat tgt v).pending = s.pending := (rfl)

@[simp] theorem State.schedS_pending (s : State) (c slot lat n : Nat) (v : Word) :
    (s.schedS c slot lat n v).pending = s.pending := (rfl)

@[simp] theorem State.schedPair_pending (s : State) (c slot lat n : Nat) (v : DWord) :
    (s.schedPair c slot lat n v).pending = s.pending := (rfl)

@[simp] theorem State.schedP_pending (s : State) (c slot lat n : Nat) (v : DWord) :
    (s.schedP c slot lat n v).pending = s.pending := (rfl)

@[simp] theorem State.schedFlg_pending (s : State) (c slot lat : Nat) (f : FlgW) :
    (s.schedFlg c slot lat f).pending = s.pending := by
  unfold State.schedFlg
  split <;> simp

@[simp] theorem State.schedFlg_flgNone (s : State) (c slot lat : Nat) : s.schedFlg c slot lat flgNone = s := (rfl)

@[simp] theorem State.xResult_pending (s : State) (c slot : Nat) (short : Bool) (lat rd : Nat) (v : Word) (f : FlgW) :
    (s.xResult c slot short lat rd v f).pending = s.pending := by
  unfold State.xResult
  split <;> simp

/-- A command that keeps the queue answers its effect. -/
theorem finish_of_pending_eq {s t : State} (h : t.pending = s.pending) : finish s t = .next t := by
  rw [finish, ← h, State.withQueue_pending_self]

/-- An operation has its effect where its bundle goes on, it does not fault and its condition is true (06 R201, R228). -/
theorem State.opRun_of_runs {s : State} {c : Nat} {flt : Option FltRec} {go : Bool} {f : State → State}
    (hsq : (s.core c).squash = false) (hflt : flt = none) (hgo : go = true) : s.opRun c flt go f = f s := by
  simp [State.opRun, hsq, hflt, hgo]

theorem finish_opRun {s : State} {c : Nat} {flt : Option FltRec} {go : Bool} {f : State → State}
    (hsq : (s.core c).squash = false) (hflt : flt = none) (hgo : go = true) (hpend : (f s).pending = s.pending) :
    finish s (s.opRun c flt go f) = .next (f s) := by
  rw [State.opRun_of_runs hsq hflt hgo, finish_of_pending_eq hpend]

@[simp] theorem illegalIf_false (slot : Nat) : illegalIf false slot = none := (rfl)

section Runs
variable {s : State} {c : CoreId} {short : Bool} {cond : BitVec 4}

theorem OpRuns.notSquashed (h : OpRuns s c short cond) : (s.core c.val).squash = false := h.1

theorem OpRuns.holds4 (h : OpRuns s c short cond) : s.holds4 c.val short cond = true := by
  obtain ⟨-, rfl | ⟨-, htrue⟩⟩ := h
  · rfl
  · simp [State.holds4, htrue]

theorem OpRuns.legal (h : OpRuns s c short cond) : (!short && s.badCond c.val cond) = false := by
  obtain ⟨-, rfl | ⟨hlegal, -⟩⟩ := h
  · rfl
  · simp [State.badCond, hlegal]

theorem OpRuns.condTrue (h : OpRuns s c false cond) : s.condTrue c.val cond.toNat = true := h.holds4

theorem OpRuns.badCond (h : OpRuns s c false cond) : s.badCond c.val cond = false := h.legal

end Runs

/-! ## Register forms -/

/-- A register form other than a division does not fault where its operation runs; MULW must name an even pair (06 R190). -/
theorem State.xFault_eq_none {s : State} {c : CoreId} {op : XOp} {x : XArgs} (h : OpRuns s c x.short x.cond)
    (hdiv : op.isDiv = false) (hpair : op = .mulw → x.rd.toNat % 2 = 0) : s.xFault c.val op x = none := by
  have hodd : (op == .mulw && oddPair x.rd.toNat) = false := by
    by_cases hop : op = .mulw
    · simp [oddPair, hpair hop]
    · simp [hop]
  simp [State.xFault, h.legal, hdiv, hodd]

theorem State.xEff_of_ne_mulw {op : XOp} (hop : op ≠ .mulw) (s : State) (c : Nat) (x : XArgs) :
    s.xEff c op x =
      let r := op.eval (s.sreg c x.ra.toNat) (s.sreg c x.rb.toNat) (bitAt (s.core c).flg.toNat 2)
      s.xResult c (4 + x.slot.val) x.short op.latency x.rd.toNat (r.1.setWidth 32) r.2 := by
  simp [State.xEff, State.xResult, hop, xSlot]

/-- MULW writes the pair and no flag (07 R237, R242). -/
theorem State.xEff_mulw (s : State) (c : Nat) (x : XArgs) :
    s.xEff c .mulw x = s.schedPair c (4 + x.slot.val) 3 x.rd.toNat
      (BitVec.ofInt 64 ((s.sreg c x.ra.toNat).toInt * (s.sreg c x.rb.toNat).toInt)) := by
  simp [State.xEff, XOp.eval, XOp.latency, xSlot]

/-- A row that runs one register form does to every state what that form's values and flags say. -/
theorem xRowIs_of_eval {i : CoreId → XArgs → Instr} {op : XOp} {lat : Nat} {v : Word → Word → Bool → Word}
    {f : Word → Word → Bool → FlgW} (heval : ∀ a b cin, op.eval a b cin = ((v a b cin).setWidth 64, f a b cin))
    (hexec : ∀ s c x, exec (i c x) s = finish s (s.xRow c.val op x) := by intros; rfl)
    (hdiv : op.isDiv = false := by rfl) (hmulw : op ≠ .mulw := by decide) (hlat : op.latency = lat := by rfl) :
    XRowIs i lat v f := by
  intro s c x hrun
  have hfault : s.xFault c.val op x = none := State.xFault_eq_none hrun hdiv fun h => absurd h hmulw
  have heff := State.xEff_of_ne_mulw hmulw s c.val x
  simp only [heval, hlat, BitVec.setWidth_setWidth_of_le _ (show 32 ≤ 64 by decide), BitVec.setWidth_eq] at heff
  rw [hexec, State.xRow, finish_opRun hrun.notSquashed hfault hrun.holds4 (by simp [heff]), heff]

theorem exec_mulw (s : State) (c : CoreId) (x : XArgs) (hrun : OpRuns s c x.short x.cond) (hpair : x.rd.toNat % 2 = 0) :
    exec (.mulw c x) s = .next (s.schedPair c.val (4 + x.slot.val) 3 x.rd.toNat
      (BitVec.ofInt 64 ((s.sreg c.val x.ra.toNat).toInt * (s.sreg c.val x.rb.toNat).toInt))) := by
  have hexec : exec (.mulw c x) s = finish s (s.xRow c.val .mulw x) := rfl
  have hfault : s.xFault c.val .mulw x = none := State.xFault_eq_none hrun rfl fun _ => hpair
  rw [hexec, State.xRow, finish_opRun hrun.notSquashed hfault hrun.holds4 (by simp [State.xEff_mulw]), State.xEff_mulw]

/-! ## Values of the register forms -/

/-- Where equal numbers have equal answers, the order may be strict or not. -/
theorem ite_le_eq_ite_lt {α β : Type} [LinearOrder α] {m n : α} {x y : β} (h : m = n → x = y) :
    (if m ≤ n then x else y) = if m < n then x else y := by
  rcases lt_trichotomy m n with hlt | heq | hgt
  · simp [hlt, hlt.le]
  · simp [heq, h heq]
  · simp [hgt.not_ge, hgt.not_gt]

theorem emod_two_pow_ediv_emod (x : Int) {n k w : Nat} (h : k + w ≤ n) :
    x % 2 ^ n / 2 ^ k % 2 ^ w = x / 2 ^ k % 2 ^ w := by
  obtain ⟨d, rfl⟩ := Nat.exists_eq_add_of_le h
  calc x % 2 ^ (k + w + d) / 2 ^ k % 2 ^ w
      = (x + 2 ^ k * (2 ^ w * -(2 ^ d * (x / 2 ^ (k + w + d))))) / 2 ^ k % 2 ^ w := by
        congr 2; rw [Int.emod_def]; ring
    _ = x / 2 ^ k % 2 ^ w := by rw [Int.add_mul_ediv_left _ _ (by positivity), Int.add_mul_emod_self_left]

/-- Bits [k + w - 1 : k] of a two's complement number are its quotient by 2^k, rounded down. -/
theorem extractLsb'_ofInt {n k w : Nat} (x : Int) (h : k + w ≤ n) :
    (BitVec.ofInt n x).extractLsb' k w = BitVec.ofInt w (x / 2 ^ k) := by
  apply BitVec.eq_of_toNat_eq
  zify
  simp only [BitVec.extractLsb'_toNat, Nat.shiftRight_eq_div_pow, BitVec.toNat_ofInt, Nat.cast_ofNat, Nat.cast_pow,
    Int.natCast_mod, Int.natCast_ediv]
  rw [Int.toNat_of_nonneg (Int.emod_nonneg _ (by positivity)), Int.toNat_of_nonneg (Int.emod_nonneg _ (by positivity)),
    emod_two_pow_ediv_emod x h]

theorem sgn_toNat (a : Word) {w : Nat} (hw : 0 < w) : sgn a.toNat w = (a.setWidth w).toInt := by
  obtain ⟨w, rfl⟩ := Nat.exists_eq_succ_of_ne_zero hw.ne'
  have hhalf : a.toNat % 2 ^ (w + 1) < 2 ^ w ↔ 2 * (a.toNat % 2 ^ (w + 1)) < 2 ^ (w + 1) := by rw [pow_succ]; omega
  simp [sgn, BitVec.toInt_eq_toNat_cond, hhalf]

theorem sextW_eq_signExtend (a : Word) {w : Nat} (hw : 0 < w) : sextW a w = (a.setWidth w).signExtend 32 := by
  rw [sextW, sgn_toNat a hw, BitVec.signExtend]

theorem clzW_eq_clz (a : Word) : BitVec.ofNat 32 (clzW a) = BitVec.clz a := by
  by_cases ha : a = 0
  · subst ha; decide
  have hne : a.toNat ≠ 0 := by simpa [← BitVec.toNat_inj] using ha
  have hlo := BitVec.two_pow_sub_clz_le_toNat_of_ne_zero (x := a) (by decide) ha
  have hhi := BitVec.toNat_lt_two_pow_sub_clz (x := a)
  have hlt : (BitVec.clz a).toNat < 32 := BitVec.clz_lt_iff_ne_zero.mpr ha
  have hlog : a.toNat.log2 = 31 - (BitVec.clz a).toNat :=
    (Nat.log2_eq_iff hne).2 ⟨hlo, by rwa [show 31 - (BitVec.clz a).toNat + 1 = 32 - (BitVec.clz a).toNat by omega]⟩
  apply BitVec.eq_of_toNat_eq
  simp only [clzW, ha, hlog, if_false, BitVec.toNat_ofNat]
  omega

theorem satI_32 (x : Int) : satI x 32 = if 2147483647 < x then 2147483647 else if x < -2147483648 then -2147483648 else x := rfl

/-- The rounded product of two Q1.31 numbers leaves the range only where both are -1 (07 R242). -/
theorem mulqI_bounds {a b : Word} (h : ¬ (a = 0x80000000 ∧ b = 0x80000000)) :
    -2147483648 ≤ mulqI a b ∧ mulqI a b ≤ 2147483647 := by
  have hmin (x : Word) : x = 0x80000000 ↔ x.toInt = -2147483648 := by rw [← BitVec.toInt_inj]; rfl
  have halo := BitVec.le_toInt a
  have hahi := BitVec.toInt_lt (x := a)
  have hblo := BitVec.le_toInt b
  have hbhi := BitVec.toInt_lt (x := b)
  have hlo : -2 ^ 62 ≤ a.toInt * b.toInt := BitVec.le_toInt_mul_toInt
  have hhi : a.toInt * b.toInt ≤ 2 ^ 62 - 2 ^ 31 := by
    by_cases ha : a = 0x80000000
    · have := mt (fun hb => ⟨ha, hb⟩) h
      rw [hmin] at ha this
      rw [ha]; omega
    · rw [hmin] at ha
      exact (Int.mul_le_mul_of_natAbs_le (s := 2 ^ 31 - 1) (t := 2 ^ 31) (by omega) (by omega)).trans (by decide)
  unfold mulqI
  omega

theorem mulqW_eq (a b : Word) :
    mulqW a b = (if a = 0x80000000 ∧ b = 0x80000000 then 0x7FFFFFFF
      else (BitVec.ofInt 64 (a.toInt * b.toInt + 2 ^ 30)).extractLsb' 31 32, a == 0x80000000 && b == 0x80000000) := by
  by_cases h : a = 0x80000000 ∧ b = 0x80000000
  · obtain ⟨rfl, rfl⟩ := h; decide
  · have hsat : satI (mulqI a b) 32 = mulqI a b := by
      have := mulqI_bounds h
      rw [satI_32]; omega
    have hne : (a == 0x80000000 && b == 0x80000000) = false := by simpa using h
    rw [mulqW, hsat, if_neg h, hne, extractLsb'_ofInt _ (by decide)]
    simp [mulqI]

theorem rnd24W_eq (a : Word) :
    rnd24W a = (if 0x7FFFFF80 ≤ a.toInt then 0x7FFFFF00 else (a + 0x80) &&& 0xFFFFFF00, decide (0x7FFFFF80 ≤ a.toInt)) := by
  have hsum : BitVec.ofInt 32 (a.toInt + 0x80) = a + 0x80 := by rw [BitVec.ofInt_add, BitVec.ofInt_toInt]; rfl
  by_cases h : 0x7FFFFF80 ≤ a.toInt
  · simp [rnd24W, h, show (0x7FFFFFFF : Int) < a.toInt + 0x80 by omega]
  · simp [rnd24W, h, show ¬ (0x7FFFFFFF : Int) < a.toInt + 0x80 by omega, hsum]

theorem popcW_eq_countP (a : Word) : popcW a = (List.range 32).countP fun i => a.getLsbD i :=
  List.countP_eq_length_filter.symm

section Eval
variable (a b : Word) (cin : Bool)

theorem XOp.eval_min : XOp.eval .min a b cin = ((if a.toInt < b.toInt then a else b).setWidth 64, flgNone) := by
  rw [XOp.eval, ite_le_eq_ite_lt BitVec.eq_of_toInt_eq]

theorem XOp.eval_max : XOp.eval .max a b cin = ((if a.toInt < b.toInt then b else a).setWidth 64, flgNone) := by
  rw [XOp.eval, ite_le_eq_ite_lt fun h => (BitVec.eq_of_toInt_eq h).symm]

theorem XOp.eval_minu : XOp.eval .minu a b cin = ((if a.toNat < b.toNat then a else b).setWidth 64, flgNone) := by
  rw [XOp.eval, ite_le_eq_ite_lt BitVec.eq_of_toNat_eq]

theorem XOp.eval_maxu : XOp.eval .maxu a b cin = ((if a.toNat < b.toNat then b else a).setWidth 64, flgNone) := by
  rw [XOp.eval, ite_le_eq_ite_lt fun h => (BitVec.eq_of_toNat_eq h).symm]

theorem XOp.eval_mulh : XOp.eval .mulh a b cin =
    (((BitVec.ofInt 64 (a.toInt * b.toInt)).extractLsb' 32 32).setWidth 64, flgNone) := by
  rw [XOp.eval, extractLsb'_ofInt _ (by decide)]

theorem XOp.eval_mulq : XOp.eval .mulq a b cin =
    ((if a = 0x80000000 ∧ b = 0x80000000 then 0x7FFFFFFF
      else (BitVec.ofInt 64 (a.toInt * b.toInt + 2 ^ 30)).extractLsb' 31 32).setWidth 64,
      flagsS (a == 0x80000000 && b == 0x80000000)) := by
  rw [XOp.eval, mulqW_eq]; rfl

theorem XOp.eval_clz : XOp.eval .clz a b cin = ((BitVec.clz a).setWidth 64, flgNone) := by
  rw [XOp.eval, clzW_eq_clz]

theorem XOp.eval_sext8 : XOp.eval .sext8 a b cin = (((a.setWidth 8).signExtend 32).setWidth 64, flgNone) := by
  rw [XOp.eval, sextW_eq_signExtend a (by decide)]

theorem XOp.eval_sext16 : XOp.eval .sext16 a b cin = (((a.setWidth 16).signExtend 32).setWidth 64, flgNone) := by
  rw [XOp.eval, sextW_eq_signExtend a (by decide)]

theorem XOp.eval_sext24 : XOp.eval .sext24 a b cin = (((a.setWidth 24).signExtend 32).setWidth 64, flgNone) := by
  rw [XOp.eval, sextW_eq_signExtend a (by decide)]

theorem XOp.eval_rnd24 : XOp.eval .rnd24 a b cin =
    ((if 0x7FFFFF80 ≤ a.toInt then 0x7FFFFF00 else (a + 0x80) &&& 0xFFFFFF00).setWidth 64,
      flagsS (0x7FFFFF80 ≤ a.toInt)) := by
  rw [XOp.eval, rnd24W_eq]; rfl

theorem XOp.eval_popc : XOp.eval .popc a b cin =
    ((BitVec.ofNat 32 ((List.range 32).countP fun i => a.getLsbD i)).setWidth 64, flgNone) := by
  rw [XOp.eval, popcW_eq_countP]

end Eval

/-! ## Flags -/

/-- A 32-bit result holds an exact value where it lies in the signed range. -/
theorem ne_toInt_ofInt_eq_not_fits32 (x : Int) : (x != (BitVec.ofInt 32 x).toInt) = !fits32 x := by
  have hrange : x = (BitVec.ofInt 32 x).toInt ↔ -2147483648 ≤ x ∧ x ≤ 2147483647 := by
    constructor
    · intro h
      have hlo := BitVec.le_toInt (BitVec.ofInt 32 x)
      have hhi := BitVec.toInt_lt (x := BitVec.ofInt 32 x)
      omega
    · intro ⟨hlo, hhi⟩
      exact (BitVec.toInt_ofInt_eq_self (by decide) (by omega) (by omega)).symm
  rw [Bool.eq_iff_iff]
  simp only [fits32, bne_iff_ne, ne_eq, hrange, Bool.not_eq_true', Bool.and_eq_false_iff, decide_eq_false_iff_not]
  omega

theorem zn_eq_flags2 (r : Word) : zn r = flags2 r := by
  by_cases hz : r = 0 <;> cases hn : r.msb <;> simp [zn, flags2, fZ, fN, b2n, hz, hn]

theorem flgJoin_zn_cv (r : Word) (c v : Bool) : flgJoin (zn r) (cv c v) = flags4 r c v := by
  rw [zn_eq_flags2, flags2, flags4]
  generalize (r == 0) = z, r.msb = n
  revert z n c v
  decide

theorem addFlags_false (a b : Word) :
    addFlags a b false = (a + b, flags4 (a + b) (2 ^ 32 ≤ a.toNat + b.toNat) (!fits32 (a.toInt + b.toInt))) := by
  have hsum : BitVec.ofInt 32 (a.toInt + b.toInt) = a + b := by simp [BitVec.ofInt_add]
  rw [← ne_toInt_ofInt_eq_not_fits32, hsum]
  simp [addFlags, b2n, flgJoin_zn_cv, BitVec.ofNat_add]

theorem subFlags_true (a b : Word) :
    subFlags a b true = (a - b, flags4 (a - b) (b.ule a) (!fits32 (a.toInt - b.toInt))) := by
  have hdiff : BitVec.ofInt 32 (a.toInt - b.toInt) = a - b := BitVec.eq_of_toInt_eq (by simp)
  rw [← ne_toInt_ofInt_eq_not_fits32, hdiff]
  simp [subFlags, b2n, flgJoin_zn_cv, hdiff, BitVec.ule]

/-! ## Shifts -/

theorem shlW_eq_mul (a : Word) (n : Nat) : shlW a n = BitVec.ofNat 32 (a.toNat * 2 ^ min n 32) := by
  apply BitVec.eq_of_toNat_eq
  by_cases h : n < 32
  · simp [shlW, h, h.le, Nat.shiftLeft_eq]
  · simp [shlW, h, Nat.le_of_not_lt h]

theorem shlW_eq_shiftLeft (a : Word) (n : Nat) : shlW a n = a <<< n := by
  by_cases h : n < 32
  · simp [shlW, h]
  · simp [shlW, h, BitVec.shiftLeft_eq_zero (Nat.le_of_not_lt h)]

theorem shrW_eq_div (a : Word) (n : Nat) : shrW a n = BitVec.ofNat 32 (a.toNat / 2 ^ min n 32) := by
  apply BitVec.eq_of_toNat_eq
  by_cases h : n < 32
  · have hlt : a.toNat / 2 ^ n < 2 ^ 32 := (Nat.div_le_self ..).trans_lt a.isLt
    simpa [shrW, h, h.le, Nat.shiftRight_eq_div_pow] using (Nat.mod_eq_of_lt hlt).symm
  · simp [shrW, h, Nat.le_of_not_lt h, Nat.div_eq_of_lt a.isLt]

/-- Past 31 places a right shift of a signed number leaves its sign (07 R244). -/
theorem sarW_eq_div (a : Word) (n : Nat) : sarW a n = BitVec.ofInt 32 (a.toInt / 2 ^ min n 32) := by
  have hlo := BitVec.le_toInt a
  have hhi := BitVec.toInt_lt (x := a)
  have hquot : a.toInt >>> (min n 31) = a.toInt / 2 ^ min n 32 := by
    rw [Int.shiftRight_eq_div_pow]
    by_cases h : n < 32
    · simp [show min n 31 = n by omega, h.le]
    · rw [show min n 31 = 31 by omega, show min n 32 = 32 by omega]
      norm_num
      omega
  rw [← hquot, ← BitVec.toInt_sshiftRight, BitVec.ofInt_toInt]
  rfl

/-! ## Comparisons, immediates and constants -/

section Rows
variable {s : State} {c : CoreId}

theorem State.cmpFault_eq_none {slot : Nat} {cond : BitVec 4} {pd cc : BitVec 3} (hrun : OpRuns s c false cond) (hpd : pd ≠ 0)
    (hcc : cc ≠ 7) : s.cmpFault c.val slot cond pd cc = none := by
  rw [State.cmpFault, hrun.badCond, beq_false_of_ne hpd, beq_false_of_ne hcc]
  rfl

theorem exec_cmp {x : CmpArgs} (hrun : OpRuns s c false x.cond) (hpd : x.pd ≠ 0) (hcc : x.cc ≠ 7) :
    exec (.cmp c x) s = .next (s.cmpEff c.val (4 + x.slot.val) x.pd.toNat x.cc.toNat (s.sreg c.val x.ra.toNat)
      (s.sreg c.val x.rb.toNat)) :=
  finish_opRun hrun.notSquashed (State.cmpFault_eq_none hrun hpd hcc) hrun.condTrue (by simp [State.cmpEff])

theorem exec_cmpi {x : CmpiArgs} (hrun : OpRuns s c false x.cond) (hpd : x.pd ≠ 0) (hcc : x.cc ≠ 7) :
    exec (.cmpi c x) s = .next (s.cmpEff c.val (4 + x.slot.val) x.pd.toNat x.cc.toNat (s.sreg c.val x.ra.toNat)
      (x.imm.signExtend 32)) :=
  finish_opRun hrun.notSquashed (State.cmpFault_eq_none hrun hpd hcc) hrun.condTrue (by simp [State.cmpEff])

theorem exec_addi {x : AddiArgs} (hrun : OpRuns s c x.short x.cond) :
    exec (.addi c x) s = .next (
      let r := addFlags (s.sreg c.val x.rd.toNat) (x.imm.signExtend 32) false
      s.xResult c.val (4 + x.slot.val) x.short 1 x.rd.toNat r.1 r.2) :=
  finish_opRun hrun.notSquashed (by rw [hrun.legal, illegalIf_false]) hrun.holds4 (State.xResult_pending ..)

theorem exec_logi {x : LogiArgs} (hrun : OpRuns s c false x.cond) (hlf : x.lf ≠ 3) {r : Word}
    (hr : logiW x.lf (s.sreg c.val x.rd.toNat) (x.imm.setWidth 32) = r) :
    exec (.logi c x) s = .next (s.xResult c.val (4 + x.slot.val) false 1 x.rd.toNat r (flags2 r)) := by
  rw [← hr, ← zn_eq_flags2]
  exact finish_opRun hrun.notSquashed (by rw [hrun.badCond, beq_false_of_ne hlf]; rfl) hrun.condTrue (by simp)

theorem exec_shifti {x : ShiftiArgs} (hrun : OpRuns s c false x.cond) (hsf : x.sf ≠ 3) {r : Word}
    (hr : shiftW x.sf (s.sreg c.val x.rd.toNat) x.amt.toNat = r) :
    exec (.shifti c x) s = .next (s.xResult c.val (4 + x.slot.val) false 1 x.rd.toNat r (flags2 r)) := by
  rw [← hr, ← zn_eq_flags2]
  exact finish_opRun hrun.notSquashed (by rw [hrun.badCond, beq_false_of_ne hsf]; rfl) hrun.condTrue (by simp)

theorem exec_shli {x : ShliArgs} (hsq : (s.core c.val).squash = false) :
    exec (.shli c x) s = .next (s.schedS c.val (4 + x.slot.val) 1 x.rd.toNat (shlW (s.sreg c.val x.rd.toNat) x.imm.toNat)) :=
  finish_opRun hsq rfl rfl (State.schedS_pending ..)

theorem exec_constant {x : ConstArgs} (hrun : OpRuns s c false x.cond) :
    exec (.constant c x) s = .next (s.schedS c.val 7 1 x.rd.toNat
      (if x.hi then x.imm ++ (s.sreg c.val x.rd.toNat).setWidth 16 else x.imm.signExtend 32)) :=
  finish_opRun hrun.notSquashed (by rw [hrun.badCond, illegalIf_false]) hrun.condTrue (State.schedS_pending ..)

theorem exec_movi {x : MoviArgs} (hsq : (s.core c.val).squash = false) :
    exec (.movi c x) s = .next (s.schedS c.val 7 1 x.rd.toNat (x.imm.signExtend 32)) :=
  finish_opRun hsq rfl rfl (State.schedS_pending ..)

end Rows

theorem cmpFlags_eq (cc : Nat) (a b : Word) :
    cmpFlags cc a b =
      if cc = 6 then flags2 (a &&& b) else flags4 (a - b) (b.ule a) (!fits32 (a.toInt - b.toInt)) := by
  rw [cmpFlags, zn_eq_flags2, subFlags_true]

theorem shiftW_eq (sf : BitVec 2) (a : Word) (n : Nat) :
    shiftW sf a n = if sf = 0 then BitVec.ofNat 32 (a.toNat * 2 ^ min n 32)
      else if sf = 1 then BitVec.ofNat 32 (a.toNat / 2 ^ min n 32) else BitVec.ofInt 32 (a.toInt / 2 ^ min n 32) := by
  rw [shiftW, shlW_eq_mul, shrW_eq_div, sarW_eq_div]

/-- A halfword put above the low half of a word (07 R251). -/
theorem append_setWidth_eq_or (hi : BitVec 16) (a : Word) :
    hi ++ a.setWidth 16 = (hi.setWidth 32 <<< 16) ||| (a &&& 0xFFFF) := by
  have hlow : a &&& 0xFFFF = (a.setWidth 16).setWidth 32 := by
    apply BitVec.eq_of_toNat_eq
    rw [BitVec.toNat_setWidth_of_le (by decide), BitVec.toNat_setWidth]
    exact Nat.and_two_pow_sub_one_eq_mod a.toNat 16
  rw [hlow, BitVec.append_def, BitVec.shiftLeftZeroExtend_eq, BitVec.setWidth'_eq]

/-! ## The statements -/

/-- Settles O2: each row runs its register form, whose value and flags are the stated ones; MULW alone writes a pair. -/
theorem scalarMinMulBits : Obligations.ScalarMinMulBits :=
  ⟨xRowIs_of_eval XOp.eval_min, xRowIs_of_eval XOp.eval_max, xRowIs_of_eval XOp.eval_minu, xRowIs_of_eval XOp.eval_maxu,
    xRowIs_of_eval (op := .mul) fun _ _ _ => rfl, xRowIs_of_eval XOp.eval_mulh, xRowIs_of_eval XOp.eval_mulq, exec_mulw,
    xRowIs_of_eval XOp.eval_clz, xRowIs_of_eval XOp.eval_sext8, xRowIs_of_eval XOp.eval_sext16,
    xRowIs_of_eval XOp.eval_sext24, xRowIs_of_eval XOp.eval_rnd24, xRowIs_of_eval XOp.eval_popc⟩

/-- Settles O4: each row has its effect, whose values and flags are the stated ones. -/
theorem scalarCompareImmediate : Obligations.ScalarCompareImmediate := by
  unfold Obligations.ScalarCompareImmediate
  refine ⟨?compare, ?addi, ?logi, ?shifti, ?shli, ?constant, ?movi⟩
  case compare =>
    intro holds flags next
    have hholds : cmpHolds = holds := by
      funext cc a b
      rcases cc with _ | _ | _ | _ | _ | _ | _ <;> rfl
    have heff (s : State) (c slot pd cc : Nat) (a b : Word) : s.cmpEff c slot pd cc a b = next s c slot pd cc a b := by
      rw [State.cmpEff, cmpFlags_eq, hholds]
      rfl
    exact ⟨fun s c x hrun hpd hcc => by rw [exec_cmp hrun hpd hcc, heff],
      fun s c x hrun hpd hcc => by rw [exec_cmpi hrun hpd hcc, heff]⟩
  case addi =>
    intro s c x hrun a b
    rw [exec_addi hrun, addFlags_false]
  case logi =>
    intro s c x hrun hlf a b r
    exact exec_logi hrun hlf rfl
  case shifti =>
    intro s c x hrun hsf a r
    exact exec_shifti hrun hsf (shiftW_eq ..)
  case shli =>
    intro s c x hsq
    rw [exec_shli hsq, shlW_eq_shiftLeft]
  case constant =>
    intro s c x hrun
    rw [exec_constant hrun, append_setWidth_eq_or]
  case movi => exact fun s c x hsq => exec_movi hsq

end Sys2Proof.Machine
end
